-- ==== Sys2Proof/Word.lean ====
section
/-! DEFINITION. The integers of the serial line and of the probe-head ports (12, 04 section 4.2), and the numbers of
lanes and sense lines. -/

namespace Sys2Proof

/-- An unsigned integer of one byte on the serial line (12). -/
abbrev U8 := BitVec 8

/-- An unsigned integer of two bytes on the serial line (12). -/
abbrev U16 := BitVec 16

/-- An unsigned integer of four bytes on the serial line (12). -/
abbrev U32 := BitVec 32

/-- One id of a packed capture list: 12 bits (12.3). -/
abbrev U12 := BitVec 12

/-- A probe lane, 0–7 (00, Numbering). -/
abbrev LaneId := Fin 8

/-- A shelf sense line, 0–15 (00, Numbering). -/
abbrev LineId := Fin 16

end Sys2Proof
end

