-- ==== Sys2Proof/Config.lean ====
section
/-! DEFINITION. The fixed capacities and ranges of the part, and the one value the manual leaves free. -/

namespace Sys2Proof.Config

/-- Circuits are numbered 1–512 (00, Numbering). -/
def maxCircuit : Nat := 512
/-- Spans are numbered 1–256 (00, Numbering). -/
def maxSpan : Nat := 256
/-- Channels are numbered 1–96 (00, Numbering). -/
def maxChannel : Nat := 96
/-- Marker codes are numbered 1–1023 (00, Numbering). -/
def maxCode : Nat := 1023
/-- A circuit crosses at most 12 spans (R1). -/
def maxSpansOfCircuit : Nat := 12
/-- A window's span set has at most 32 spans (R25). -/
def maxSpansOfWindow : Nat := 32
/-- The window stack holds at most 4 windows (R23). -/
def stackDepth : Nat := 4
/-- The closure list holds at most 8 records (R40). -/
def closureDepth : Nat := 8
/-- An event list holds at most 16 events (R35). -/
def eventListDepth : Nat := 16
/-- The notice queue has 32 entries (11.6). -/
def noticeEntries : Nat := 32
/-- The request queue holds at most 8 requests (R179). -/
def requestEntries : Nat := 8
/-- The reply list holds at most 8 replies (R181). -/
def replyEntries : Nat := 8
/-- The capture controller keeps at most 8 of its commits in the commit queue (R132). -/
def captureCommits : Nat := 8
/-- A capture grant needs fewer than 8 baselines pending commit (R127). -/
def grantPendingLimit : Nat := 8
/-- The least duration of a window, in seconds (R26). -/
def minDuration : Nat := 60
/-- The greatest remaining time of a window, in seconds (R26, R29). -/
def maxRemaining : Nat := 86400
/-- The seconds at which a calibration age stays (R80). -/
def maxAge : Nat := 65535
/-- The device clock counts modulo 2^32 (R174). -/
def clockModulus : Nat := 4294967296
/-- Consecutive errors that fault a lane (R78). -/
def faultCount : Nat := 2
/-- The channel of every lane after a restart (R66). -/
def restartChannel : Nat := 48
/-- The nominal level of the reference loop, centi-dB (R102). -/
def nominalLevel : Int := 3000
/-- The trim lies in −600..+600 (R83). -/
def maxTrim : Int := 600
/-- The delay offset is at most 65,535 ns (R83). -/
def maxOffset : Nat := 65535
/-- The samples of a reference run's burst (R82). -/
def referenceBurst : Nat := 64
/-- The detector count that marks a clipped sample (R94). -/
def clippedCount : Nat := 65535
/-- The greatest generation; the next is 1 (R3). -/
def maxGeneration : Nat := 65535
/-- The part code reported by IDENTIFY (R186). -/
def partCode : Nat := 0xC808
/-- The revision reported by IDENTIFY (R186). -/
def revision : Nat := 1
/-- The bytes of one part of a long reply after the request code and the part byte (R189). -/
def partBytes : Nat := 1016
/-- A part number takes 7 bits, so a long reply has at most 128 parts (R189). -/
def maxParts : Nat := 128

/-- FREE VALUE (log 10): how many of its pieces a long reply sends in each of its parts. R189 has the contents divided in
order with no entry split, and leaves the places of the cuts open, so nothing is known of this value. -/
opaque division : Nat → List Nat

end Sys2Proof.Config
end

