-- ==== Sys2Proof/Syntax.lean ====
section
/-! DEFINITION. The commands of the part: one constructor of `Instr` for each row of spec/opcode_table.json. A request
carries its tag and the fields of its payload as the serial line spells them (12.2, 12.3, 12.6, 12.9). -/

namespace Sys2Proof

/-- The payload of a request with fields: shorter than the request needs (answered BAD_LENGTH, R180), or its fields. -/
inductive Payload (α : Type) where
  | short
  | fields (f : α)
  deriving DecidableEq, Repr

/-- SET_PROFILE (12.6). -/
structure SetProfileFields where
  burstLength : U8
  retries : U8
  quietPass : U8
  captureBursts : U8
  interval : U8
  floor : U16
  rise : U16
  fall : U16
  spread : U16
  delay : U32
  deriving DecidableEq, Repr

/-- DEFINE_CIRCUIT (12.2). `spans` is empty where the span count is outside 1–12, as the bytes after it are then not
looked at (R188). -/
structure DefineFields where
  id : U16
  lane : U8
  channel : U8
  code : U16
  presence : U8
  rise : U16
  fall : U16
  delay : U32
  spans : List U16
  deriving DecidableEq, Repr

/-- OPEN_WINDOW (12.9). `spans` is empty where the span count is 0. -/
structure OpenFields where
  id : U16
  duration : U32
  spans : List U16
  deriving DecidableEq, Repr

/-- EXTEND_WINDOW (12.9). -/
structure ExtendFields where
  id : U16
  seconds : U32
  deriving DecidableEq, Repr

/-- START_CAPTURE (12.3). `ids` is empty unless the option is a list and the count lies in 1–512. -/
structure StartFields where
  option : U8
  count : U16
  ids : List U12
  deriving DecidableEq, Repr

/-- SET_PROTECTION (12.9). -/
structure ProtectFields where
  side : U8
  n : U8
  complement : U8
  level : U8
  deriving DecidableEq, Repr

/-- SET_SENSE (12.9). -/
structure SetSenseFields where
  line : U8
  enabled : U8
  mode : U8
  polarity : U8
  bothEdges : U8
  action : U8
  binding : U16
  deriving DecidableEq, Repr

/-- A SAMPLE message of a probe head (04 section 4.2). -/
structure Sample where
  count : BitVec 16
  code : BitVec 10
  delay : BitVec 24
  deriving DecidableEq, Repr

/-- A good request as it stands in the request queue (R179), less its tag. -/
inductive Request where
  | identify
  | setTime (p : Payload U32)
  | restart
  | setProfile (p : Payload SetProfileFields)
  | getProfile
  | getLanes
  | recalibrate (p : Payload U8)
  | defineCircuit (p : Payload DefineFields)
  | deleteCircuit (p : Payload U16)
  | clearBaseline (p : Payload U16)
  | getCircuit (p : Payload U16)
  | probeNow (p : Payload U16)
  | getQueue
  | openWindow (p : Payload OpenFields)
  | extendWindow (p : Payload ExtendFields)
  | closeWindow (p : Payload U16)
  | abortWindow (p : Payload U16)
  | getWindows
  | permit
  | withdrawPermit
  | startCapture (p : Payload StartFields)
  | suspendCapture
  | resumeCapture
  | cancelCapture
  | getCapture
  | setProtection (p : Payload ProtectFields)
  | getProtection
  | setSense (p : Payload SetSenseFields)
  | clearSense (p : Payload (List U8))
  | getSense
  | unknown (code : U8)
  deriving DecidableEq, Repr

/-- The commands of the part, in the table's order. The requests are the rows whose summary begins "Request" (and
UNKNOWN_REQUEST); the others are events. -/
inductive Instr where
  | identify (tag : U8)
  | setTime (tag : U8) (p : Payload U32)
  | restart (tag : U8)
  | setProfile (tag : U8) (p : Payload SetProfileFields)
  | getProfile (tag : U8)
  | getLanes (tag : U8)
  | recalibrate (tag : U8) (p : Payload U8)
  | defineCircuit (tag : U8) (p : Payload DefineFields)
  | deleteCircuit (tag : U8) (p : Payload U16)
  | clearBaseline (tag : U8) (p : Payload U16)
  | getCircuit (tag : U8) (p : Payload U16)
  | probeNow (tag : U8) (p : Payload U16)
  | getQueue (tag : U8)
  | openWindow (tag : U8) (p : Payload OpenFields)
  | extendWindow (tag : U8) (p : Payload ExtendFields)
  | closeWindow (tag : U8) (p : Payload U16)
  | abortWindow (tag : U8) (p : Payload U16)
  | getWindows (tag : U8)
  | permit (tag : U8)
  | withdrawPermit (tag : U8)
  | startCapture (tag : U8) (p : Payload StartFields)
  | suspendCapture (tag : U8)
  | resumeCapture (tag : U8)
  | cancelCapture (tag : U8)
  | getCapture (tag : U8)
  | setProtection (tag : U8) (p : Payload ProtectFields)
  | getProtection (tag : U8)
  | setSense (tag : U8) (p : Payload SetSenseFields)
  | clearSense (tag : U8) (p : Payload (List U8))
  | getSense (tag : U8)
  | unknownRequest (tag : U8) (code : U8)
  | frameReceived
  | framingError
  | receiveGapTimeout
  | frameSent
  | secondsTick
  | windowExpiry
  | calibrationDue (lane : LaneId)
  | settled (lane : LaneId)
  | sample (lane : LaneId) (smp : Sample)
  | burstResult (lane : LaneId)
  | tuneTimeout (lane : LaneId)
  | burstGapTimeout (lane : LaneId)
  | parkEnd (lane : LaneId)
  /-- The line's input goes to the level `high`. -/
  | senseInputTransition (line : LineId) (high : Bool)
  | refLockChange (asserted : Bool)
  /-- The write in progress ends. `agrees`: the read-back agrees with what was written. `erased`: the slot's cells are
  wholly erased, looked at where a check word has been erased (R166, log 19). -/
  | storeWriteDone (agrees : Bool) (erased : Bool)
  | powerOn
  /-- `erased`: an erase in progress had reached its last cell (R167, log 19). -/
  | powerFail (erased : Bool)
  /-- `erased`: an erase in progress had reached its last cell (R167, log 19). -/
  | resetAsserted (erased : Bool)
  | resetReleased
  | startUpScanDone
  | restartBegins
  | byteReceived (byte : U8)
  | rateStrapChange (high : Bool)
  deriving DecidableEq, Repr

/-- The request codes of 12.1. -/
def Request.code : Request → U8
  | .identify => 0x01
  | .setTime _ => 0x02
  | .restart => 0x03
  | .setProfile _ => 0x10
  | .getProfile => 0x11
  | .getLanes => 0x12
  | .recalibrate _ => 0x13
  | .defineCircuit _ => 0x20
  | .deleteCircuit _ => 0x21
  | .clearBaseline _ => 0x22
  | .getCircuit _ => 0x23
  | .probeNow _ => 0x24
  | .getQueue => 0x25
  | .openWindow _ => 0x30
  | .extendWindow _ => 0x31
  | .closeWindow _ => 0x32
  | .abortWindow _ => 0x33
  | .getWindows => 0x34
  | .permit => 0x40
  | .withdrawPermit => 0x41
  | .startCapture _ => 0x42
  | .suspendCapture => 0x43
  | .resumeCapture => 0x44
  | .cancelCapture => 0x45
  | .getCapture => 0x46
  | .setProtection _ => 0x50
  | .getProtection => 0x51
  | .setSense _ => 0x60
  | .clearSense _ => 0x61
  | .getSense => 0x62
  | .unknown code => code

/-- The codes that name one of the thirty requests of 11.8 (12.1). -/
def requestCodes : List U8 :=
  [0x01, 0x02, 0x03, 0x10, 0x11, 0x12, 0x13, 0x20, 0x21, 0x22, 0x23, 0x24, 0x25, 0x30, 0x31, 0x32, 0x33, 0x34,
   0x40, 0x41, 0x42, 0x43, 0x44, 0x45, 0x46, 0x50, 0x51, 0x60, 0x61, 0x62]

end Sys2Proof
end

