-- ==== Sys2Proof/Machine/State.lean ====
section
/-! DEFINITION. The state of the CV8: plain data, every piece the manual names, under the block that owns it (00, Block
overview). The values in `State.reset` are the restart values of the manual; what it leaves open is named in the
assumption log. -/

namespace Sys2Proof.Machine

/-! ## Why a step could stop -/

/-- No command of this part stops it: the manual answers every error by a reply status, a result, a verdict or a flag
(INVENTORY, Faults). No constructor, so no one raises a fault. -/
inductive Fault
  deriving DecidableEq, Repr

/-- Why a command has no meaning. -/
inductive Refusal where
  /-- Raised by an arm of `exec` for a command not modelled yet; no arm raises it. Safe: the machine stops. -/
  | notModelled (mnemonic : String)
  deriving DecidableEq, Repr

/-! ## Sparse tables -/

/-- A table by number: (key, value) pairs, keys strictly rising, and no value equal to what an unlisted key reads as. -/
abbrev Table (α : Type) := List (Nat × α)

/-! ## The part as a whole -/

/-- The power, RESET and start-up phase (R168, R169). -/
inductive Phase where
  /-- No power. -/
  | off
  /-- RESET is asserted: the part is held in restart. -/
  | held
  /-- Start-up steps 1 to 4. -/
  | scanning
  /-- Requests are taken. -/
  | running
  deriving DecidableEq, Repr

/-- The causes of a restart (10.3). -/
inductive RestartCause where
  | cold | line | request
  deriving DecidableEq, Repr

/-- The bit rates of the serial line (R175). -/
inductive BitRate where
  | r115200 | r460800
  deriving DecidableEq, Repr

/-- The rate that the strap selects (R175). -/
def BitRate.ofStrap (high : Bool) : BitRate := if high then .r460800 else .r115200

/-! ## Verdicts (06) -/

/-- The cause of a queue entry (3.1). -/
inductive Cause where
  | windowClose | windowExpiry | sense | request
  deriving DecidableEq, Repr

/-- The classes of an attempt (R106). -/
inductive AttemptClass where
  | pass | continuityOnly | noReturn | misrouted | lossShift | pathChanged
  deriving DecidableEq, Repr

/-- The kinds of a verdict (R110). -/
inductive VerdictKind where
  | pass | continuityOnly | noReturn | misrouted | lossShift | pathChanged | unstable | unmeasurable
  deriving DecidableEq, Repr

/-- The qualifiers of a verdict (R112). -/
structure Qualifiers where
  clipped : Bool := false
  degraded : Bool := false
  expiredWindow : Bool := false
  spanEvent : Bool := false
  laneFault : Bool := false
  deriving DecidableEq, Repr

/-- The verdict record (6.4). Levels are in centi-dB, delays in ns, the time in device seconds. -/
structure Verdict where
  kind : VerdictKind
  qualifiers : Qualifiers
  cause : Cause
  closureId : Option Nat
  classes : List AttemptClass
  lane : LaneId
  time : Nat
  level : Option Int
  deltaLevel : Option Int
  delay : Option Nat
  deltaDelay : Option Int
  found : Option Nat
  otherCircuit : Option Nat
  generation : Option Nat
  deriving DecidableEq, Repr

/-! ## The circuit table (01) -/

/-- The states of a circuit (1.3). -/
inductive CircuitState where
  | empty | idle | held | pending | probing | capturing | unreadable
  deriving DecidableEq, Repr

/-- The tolerance override (R2): each tolerance may be absent. -/
structure Override where
  rise : Option Nat := none
  fall : Option Nat := none
  delay : Option Nat := none
  deriving DecidableEq, Repr

/-- A circuit's definition (R1), as the definition slot holds it (10.1). -/
structure Definition where
  lane : LaneId
  channel : Nat
  code : Nat
  spans : List Nat
  override : Override
  deriving DecidableEq, Repr

/-- A circuit's baseline (R3), as the baseline slot holds it (10.1). -/
structure Baseline where
  level : Int
  delay : Nat
  captureTime : Nat
  generation : Nat
  lane : LaneId
  channel : Nat
  code : Nat
  deriving DecidableEq, Repr

/-- The cause of a release owed (R7). -/
inductive ReleaseCause where
  | windowClose | windowExpiry
  deriving DecidableEq, Repr

/-- A circuit record (1.1). The default is an EMPTY slot. -/
structure Circuit where
  state : CircuitState := .empty
  definition : Option Definition := none
  baseline : Option Baseline := none
  holds : Nat := 0
  lastVerdict : Option Verdict := none
  releaseOwed : Option ReleaseCause := none
  changing : Bool := false
  disturbed : Bool := false
  deriving DecidableEq, Repr

/-! ## Windows (02) -/

/-- The modes of a sense line, and the kinds of a sense event (R151). -/
inductive SenseMode where
  | edge | level
  deriving DecidableEq, Repr

/-- A sense event as an event list keeps it (R35). -/
structure SenseEvent where
  line : LineId
  span : Nat
  time : Nat
  kind : SenseMode
  deriving DecidableEq, Repr

/-- A window record (2.1). Its reservation is one of `ReservedCounts.summary`. -/
structure Window where
  id : Nat
  spans : List Nat
  remaining : Nat
  openedAt : Nat
  events : List SenseEvent
  moreEvents : Bool
  deriving DecidableEq, Repr

/-- How a window ended (R41). -/
inductive EndKind where
  | closed | expired
  deriving DecidableEq, Repr

/-- The eight verdict counts of a closure record (2.8). -/
structure VerdictCounts where
  pass : Nat := 0
  continuityOnly : Nat := 0
  noReturn : Nat := 0
  misrouted : Nat := 0
  lossShift : Nat := 0
  pathChanged : Nat := 0
  unstable : Nat := 0
  unmeasurable : Nat := 0
  deriving DecidableEq, Repr

/-- A closure record (2.8); a WINDOW_SUMMARY carries the same fields. Its reservation is one of
`ReservedCounts.summary`. -/
structure Closure where
  windowId : Nat
  endKind : EndKind
  openedAt : Nat
  endedAt : Nat
  released : Nat
  outstanding : Nat
  reHeld : Nat
  counts : VerdictCounts
  spanEvents : Nat
  events : List SenseEvent
  moreEvents : Bool
  deriving DecidableEq, Repr

/-! ## The verification queue and the grants (03) -/

/-- An entry of the verification queue (3.1). -/
structure QueueEntry where
  circuit : Nat
  cause : Cause
  tag : Option Nat
  expired : Bool
  spanEvent : Bool
  deriving DecidableEq, Repr

/-- A classified attempt (R109). -/
structure Attempt where
  cls : AttemptClass
  clipped : Bool
  stale : Bool
  found : Option Nat
  level : Option Int
  delay : Option Nat
  deltaLevel : Option Int
  deltaDelay : Option Int
  deriving DecidableEq, Repr

/-- Where the work of a grant stands (3.2). -/
inductive GrantPhase where
  | tuning | measuring | classifying
  deriving DecidableEq, Repr

/-- A lane's grant (3.2). Its reservation is one of `ReservedCounts.verdict`. -/
structure Grant where
  entry : QueueEntry
  burstLength : Nat
  retries : Nat
  attempts : List Attempt
  phase : GrantPhase
  deriving DecidableEq, Repr

/-! ## Probe lanes (04) -/

/-- The states of a lane (4.3). -/
inductive LaneState where
  | parked | tuning | tuned | measuring | parking | calibrating | faulted
  deriving DecidableEq, Repr

/-- A lane's work in hand (4.1). -/
inductive Work where
  | none
  | verification (circuit : Nat)
  | capture (circuit : Nat)
  | referenceRun
  deriving DecidableEq, Repr

/-- How a reference run ended (R83, R84). -/
inductive CalOutcome where
  | success | noReturn | wrongCode | trimRange | offsetRange | tuneFailure | burstFailure
  deriving DecidableEq, Repr

/-- The step of a reference run in flight (R82): `judge` stands from the last sample until the outcome is judged. -/
inductive CalStep where
  | tune | burst | judge | park
  deriving DecidableEq, Repr

/-- A judged outcome, with the candidates that a success puts in force at the end of the run (R83). -/
structure CalResult where
  outcome : CalOutcome
  trim : Int
  offset : Nat
  deriving DecidableEq, Repr

/-- The kind of a lane error (R75). -/
inductive ErrorKind where
  | tuneFailure
  | burstFailure
  | calibration (outcome : CalOutcome)
  deriving DecidableEq, Repr

/-- A lane error, with the circuit in hand at it, where there was one (R75). -/
structure LaneError where
  kind : ErrorKind
  circuit : Option Nat
  deriving DecidableEq, Repr

/-- A command to a probe head (4.2). -/
inductive HeadCommand where
  | tune (channel : Nat)
  | tuneReference
  | burst (samples : Nat)
  | park
  deriving DecidableEq, Repr

/-- What a burst is reduced for (5.1). -/
inductive Purpose where
  | attempt | capture | reference
  deriving DecidableEq, Repr

/-- A complete burst handed to the measurement unit with the inputs of its reduction (R93). -/
structure HandedBurst where
  purpose : Purpose
  samples : List Sample
  floor : Nat
  trim : Int
  offset : Nat
  stale : Bool
  deriving DecidableEq, Repr

/-- The capture a lane is measuring: the values latched at its grant (R128) and the bursts kept (R129). -/
structure CaptureWork where
  circuit : Nat
  burstLength : Nat
  bursts : Nat
  spreadLimit : Nat
  kept : List (Int × Nat)
  deriving DecidableEq, Repr

/-- A lane record (4.1), with what the lane and the blocks that own its work keep while work is in flight. The default
is a lane after a restart (R92). -/
structure Lane where
  state : LaneState := .parked
  channel : Nat := Config.restartChannel
  trim : Int := 0
  offset : Nat := 0
  age : Nat := 0
  calRequested : Bool := true
  fresh : Bool := false
  errorCount : Nat := 0
  work : Work := .none
  lastOutcome : Option CalOutcome := none
  grant : Option Grant := none
  capture : Option CaptureWork := none
  calStep : Option CalStep := none
  calResult : Option CalResult := none
  burstLength : Nat := 0
  samples : List Sample := []
  handed : Option HandedBurst := none
  lastError : Option LaneError := none
  headCommand : HeadCommand := .park
  deriving DecidableEq, Repr

/-- The profile (4.7). The default holds the defaults of the table. -/
structure Profile where
  burstLength : Nat := 16
  floor : Nat := 24
  rise : Nat := 150
  fall : Nat := 300
  delay : Nat := 500
  retries : Nat := 2
  interval : Nat := 10
  captureBursts : Nat := 4
  spreadLimit : Nat := 60
  quietPass : Bool := false
  deriving DecidableEq, Repr

/-! ## The capture campaign (07) -/

/-- The states of the campaign (R122). -/
inductive CampaignState where
  | idle | running | suspending | suspended
  deriving DecidableEq, Repr

/-- The twelve results of a capture entry, each with its detail (R123). -/
inductive CaptureResult where
  | written (level : Int) (delay generation : Nat)
  | noReturn (burst mean : Nat)
  | wrongCode (burst found : Nat)
  | unstableCapture (spread : Nat)
  | clipped (burst : Nat)
  | insideRegion
  | notDefined
  | unreadable
  | disturbed
  | laneFault
  | storeFault
  | cancelled
  deriving DecidableEq, Repr

/-- The status of a capture entry, with its lane while it has one and its result when FINISHED (7.2). -/
inductive EntryStatus where
  | unprocessed
  | measuring (lane : LaneId)
  | committing (lane : LaneId)
  | finished (result : CaptureResult)
  deriving DecidableEq, Repr

/-- A capture entry (7.2). -/
structure CaptureEntry where
  circuit : Nat
  status : EntryStatus
  deriving DecidableEq, Repr

/-- A baseline formed and waiting to be handed to the commit queue (R132). -/
structure HandOff where
  circuit : Nat
  baseline : Baseline
  deriving DecidableEq, Repr

/-- The capture campaign (7.2). The default is the campaign after a restart (R140). Its reservation is
`ReservedCounts.captureDone`. -/
structure Campaign where
  state : CampaignState := .idle
  host : Bool := false
  window : Bool := false
  entries : List CaptureEntry := []
  progressOwed : Bool := false
  deferredSuspend : Bool := false
  cancelled : Bool := false
  handOff : List HandOff := []
  deriving DecidableEq, Repr

/-! ## Baseline protection (08) -/

/-- The end from which a region is counted (8.1). -/
inductive Side where
  | low | high
  deriving DecidableEq, Repr

/-- A protected region (8.1). The default protects all 512 circuits (R149). -/
structure Region where
  side : Side := .low
  n : Nat := 32
  complement : Bool := false
  deriving DecidableEq, Repr

/-- The stored levels (R144). -/
inductive StoredLevel where
  | openLevel | line
  deriving DecidableEq, Repr

/-- The levels in force, and the levels a SET_PROTECTION may name (8.2). -/
inductive LockLevel where
  | openLevel | line | session
  deriving DecidableEq, Repr

/-- The record of the protection slot (10.1). -/
structure ProtectionRecord where
  region : Region
  level : StoredLevel
  deriving DecidableEq, Repr

/-! ## Shelf sense lines (09) -/

/-- The polarities of a sense line (9.1). -/
inductive Polarity where
  | high | low
  deriving DecidableEq, Repr

/-- The actions of a sense line (9.1). -/
inductive SenseAction where
  | logOnly | verify
  deriving DecidableEq, Repr

/-- A sense line record (9.1) and the level of its input. The default is a line after a restart (R163). -/
structure SenseLine where
  enabled : Bool := false
  mode : SenseMode := .edge
  polarity : Polarity := .high
  bothEdges : Bool := false
  span : Nat := 0
  action : SenseAction := .logOnly
  raw : Bool := false
  masked : Bool := false
  input : Bool := false
  deriving DecidableEq, Repr

/-! ## The store (10) -/

/-- The cells of a stored slot, as far as the manual tells them apart (R164). -/
inductive Slot (α : Type) where
  /-- Every cell holds the erased pattern. -/
  | erased
  /-- A record with a check word that agrees with it. -/
  | holding (record : α)
  /-- Neither: the check disagrees with the contents. -/
  | damaged
  deriving DecidableEq, Repr

/-- What a commit does to its slot (10.2). -/
inductive StoreOp where
  | writeDefinition (circuit : Nat) (d : Definition)
  | eraseDefinition (circuit : Nat)
  | writeBaseline (circuit : Nat) (b : Baseline)
  | eraseBaseline (circuit : Nat)
  | writeProtection (p : ProtectionRecord)
  deriving DecidableEq, Repr

/-- Who handed a commit on (10.2). -/
inductive Submitter where
  | processor
  | capture (circuit : Nat)
  deriving DecidableEq, Repr

/-- A commit (10.2). -/
structure Commit where
  op : StoreOp
  submitter : Submitter
  deriving DecidableEq, Repr

/-- The copy of a slot's cells that a commit keeps (R166, step 1). -/
inductive SavedSlot where
  | definition (circuit : Nat) (s : Slot Definition)
  | baseline (circuit : Nat) (s : Slot Baseline)
  | protection (s : Slot ProtectionRecord)
  deriving DecidableEq, Repr

/-- The slot write that a commit has in progress (R166, steps 2, 4 and 5). -/
inductive WriteStep where
  | write | rewrite | restore | eraseCheck
  deriving DecidableEq, Repr

/-- The write in progress for the commit at the head of the commit queue. -/
structure Writing where
  step : WriteStep
  saved : SavedSlot
  deriving DecidableEq, Repr

/-! ## The message link (11) -/

/-- The receiver (R177). `header` and `body` hold the bytes collected after the start byte. -/
inductive Receiver where
  | hunting
  | header (bytes : List U8)
  | body (length : Nat) (bytes : List U8)
  deriving DecidableEq, Repr

/-- A request waiting in the request queue (R179). -/
structure QueuedRequest where
  tag : U8
  request : Request
  deriving DecidableEq, Repr

/-- The reply statuses (11.5). -/
inductive Status where
  | ok | adjusted | accepted | alreadyPending | busy | badLength | unknownRequest | badField
  | noSuchCircuit | unreadable | circuitHeld | circuitBusy | codeInUse
  | stackFull | idInUse | noWindow | notTop | summaryBacklog | noticesFull
  | noPermit | insideRegion | locked | captureActive | noCapture | storeFault
  deriving DecidableEq, Repr

/-- What GET_CIRCUIT returns (R19). -/
structure CircuitReport where
  id : Nat
  state : CircuitState
  definition : Option Definition
  baseline : Option Baseline
  holds : Nat
  releaseOwed : Option ReleaseCause
  lastVerdict : Option Verdict
  deriving DecidableEq, Repr

/-- What GET_LANES returns for a lane (R91). -/
structure LaneReport where
  state : LaneState
  channel : Nat
  trim : Int
  offset : Nat
  age : Nat
  calRequested : Bool
  due : Bool
  fresh : Bool
  errorCount : Nat
  lastOutcome : Option CalOutcome
  work : Work
  deriving DecidableEq, Repr

/-- What GET_QUEUE returns for an entry (R51). -/
structure EntryReport where
  entry : QueueEntry
  lane : Option LaneId
  deriving DecidableEq, Repr

/-- A lane's grant as GET_QUEUE returns it (R51). -/
structure GrantReport where
  entry : QueueEntry
  burstLength : Nat
  retries : Nat
  classes : List AttemptClass
  deriving DecidableEq, Repr

/-- Why the arbiter withholds work from a lane (R51, 12.10). -/
inductive Withheld where
  | none | profilePending | calibrating | due | noNoticeEntry
  deriving DecidableEq, Repr

/-- What GET_QUEUE returns for a lane (R51). -/
structure LaneQueueReport where
  errorCount : Nat
  grant : Option GrantReport
  withheld : Withheld
  deriving DecidableEq, Repr

/-- What GET_WINDOWS returns for an open window (R45). -/
structure WindowReport where
  window : Window
  held : Nat
  deriving DecidableEq, Repr

/-- What GET_CAPTURE returns (R139). -/
structure CaptureReport where
  state : CampaignState
  host : Bool
  window : Bool
  progressOwed : Bool
  deferredSuspend : Bool
  cancelled : Bool
  pendingCommits : Nat
  entries : List CaptureEntry
  deriving DecidableEq, Repr

/-- What GET_PROTECTION returns (R148). -/
structure ProtectionReport where
  region : Region
  level : LockLevel
  storedLevel : StoredLevel
  refLock : Bool
  permit : Bool
  slotsInside : Nat
  deriving DecidableEq, Repr

/-- What GET_SENSE returns for a line (R162). -/
structure SenseReport where
  line : SenseLine
  spanOpen : Option Bool
  deriving DecidableEq, Repr

/-- The raw and masked status of a named line (R155). -/
structure ClearedLine where
  line : LineId
  raw : Bool
  masked : Bool
  deriving DecidableEq, Repr

/-- The fields of a reply after the request code (R181), as the owning chapter names them. -/
inductive ReplyBody where
  | none
  | identity (partCode revision lanes circuits spans channels stack closures : Nat)
  | clock (before after : Nat)
  | profileApplied (p : Profile)
  | profilePending (p : Profile) (clamped : Bool)
  | profiles (inForce : Profile) (pending : Option Profile)
  | lanes (reports : List LaneReport)
  | laneState (s : LaneState)
  | override (o : Override)
  | codeOwner (circuit : Nat)
  | circuit (r : CircuitReport)
  | windowOpened (remaining held depth : Nat)
  | remaining (seconds : Nat)
  | openWindows (ids : List Nat)
  | idFound (onStack : Bool)
  | topWindow (id : Nat)
  | released (n : Nat)
  | returned (n : Nat)
  | windows (open_ : List WindowReport) (closures : List Closure)
  | queue (entries : List EntryReport) (lanes : List LaneQueueReport)
  | permit (set : Bool)
  | campaignState (s : CampaignState) (host window : Bool)
  | captureStarted (entries : Nat) (s : CampaignState) (concluded : Nat)
  | captureReasons (s : CampaignState) (host window deferred : Bool)
  | cancelledEntries (n : Nat)
  | capture (r : CaptureReport)
  | protectionSet (r : Region) (level : LockLevel)
  | locked (level : LockLevel) (refLock : Bool)
  | protection (r : ProtectionReport)
  | senseSet (l : SenseLine) (event : Bool)
  | senseCleared (lines : List ClearedLine) (events : Nat)
  | sense (lines : List SenseReport)
  deriving DecidableEq, Repr

/-- A reply in the reply list (R181). `parts` is empty for a reply of one frame without a part byte; for a long reply it
tells how many pieces of the contents each part carries (R189). -/
structure Reply where
  tag : U8
  code : U8
  status : Status
  body : ReplyBody
  parts : List Nat
  deriving DecidableEq, Repr

/-- The routes of a sense event, with what the SENSE notice says of each (R160). -/
inductive SenseRoute where
  | window (id : Nat) (appended : Bool)
  | verify (queued disturbed : Nat)
  | noticeOnly
  deriving DecidableEq, Repr

/-- The twelve counts of a CAPTURE_DONE notice, in the order of R123's table (R138). -/
structure ResultCounts where
  written : Nat
  noReturn : Nat
  wrongCode : Nat
  unstableCapture : Nat
  clipped : Nat
  insideRegion : Nat
  notDefined : Nat
  unreadable : Nat
  disturbed : Nat
  laneFault : Nat
  storeFault : Nat
  cancelled : Nat
  deriving DecidableEq, Repr

/-- The notices (11.8) and what each carries. -/
inductive Notice where
  /-- R173. -/
  | restarted (cause : RestartCause) (defined unreadable withBaseline : Nat) (protectionFlag overlay : Bool)
  /-- R117. -/
  | verdict (circuit : Nat) (v : Verdict)
  /-- R44; `early` is the partial flag (R39). -/
  | windowSummary (c : Closure) (early : Bool)
  /-- R160. -/
  | sense (line : LineId) (span : Nat) (kind : SenseMode) (time : Nat) (route : SenseRoute)
  /-- R138. -/
  | captureDone (entries : Nat) (counts : ResultCounts) (cancelled : Bool) (time : Nat)
  /-- R88. -/
  | profileApplied (p : Profile)
  /-- R75. -/
  | laneFault (lane : LaneId) (kind : ErrorKind) (circuit : Option Nat) (time : Nat)
  deriving DecidableEq, Repr

/-- The kinds of notice that are reserved (R182). -/
inductive ReservedKind where
  | verdict | summary | captureDone | profileApplied
  deriving DecidableEq, Repr

/-- The RESERVED entries of the notice queue, by the kind of notice each is kept for (R182). -/
structure ReservedCounts where
  verdict : Nat := 0
  summary : Nat := 0
  captureDone : Nat := 0
  profileApplied : Nat := 0
  deriving DecidableEq, Repr

/-- What the transmitter is sending (R184): the oldest reply, with the number of its part in hand (R189), or a notice
with its discarded mark (R185). -/
inductive Transmitter where
  | idle
  | reply (part : Nat)
  | notice (n : Notice) (mark : Bool)
  deriving DecidableEq, Repr

/-- The kinds of a DEFINE_CIRCUIT (R13). -/
inductive DefineKind where
  | new | overrideOnly | noBaseline | discarding
  deriving DecidableEq, Repr

/-- A request that waits for its commits (R15, R17, R18, R146). `second` tells that the first of two commits has
succeeded. -/
inductive Job where
  | define (id : Nat) (d : Definition) (kind : DefineKind) (clamped second : Bool)
  | delete (id : Nat) (usesPermit second : Bool)
  | clearBaseline (id : Nat)
  | protect (p : ProtectionRecord) (session : Bool)
  deriving DecidableEq, Repr

/-- The request processor (R180, R181). -/
inductive Processor where
  | free
  /-- Waiting for the commits of a request. -/
  | committing (tag : U8) (job : Job)
  /-- Waiting for room in the reply list. -/
  | replying (r : Reply)
  deriving DecidableEq, Repr

/-! ## The state -/

/-- The state of the CV8. -/
structure State where
  /-- The commands that wait, first in, first out (the model's own, log 1). -/
  pending : List Instr
  /-- Power, RESET and start-up (R168, R169). -/
  phase : Phase
  /-- The RESET input is asserted. -/
  resetLine : Bool
  restartCause : RestartCause
  /-- RESTART has been taken (R170). -/
  restartTaken : Bool
  /-- The last byte of RESTART's reply has been sent (R170). -/
  restartReplySent : Bool
  /-- The REF_LOCK input is asserted (R145). -/
  refLock : Bool
  /-- The rate strap is high (R175). -/
  rateStrap : Bool
  bitRate : BitRate
  /-- The device clock (R174). -/
  clock : Nat
  receiver : Receiver
  /-- A complete frame not yet judged: its bytes from the length to the check (R177, R178). -/
  completeFrame : Option (List U8)
  requestQueue : List QueuedRequest
  processor : Processor
  /-- The reply list, oldest first (R181). -/
  replies : List Reply
  transmitter : Transmitter
  /-- The QUEUED notices in sending order (R183). -/
  notices : List Notice
  /-- The RESERVED entries of the notice queue (R182). -/
  reserved : ReservedCounts
  /-- The notices-discarded flag (R185). -/
  discarded : Bool
  /-- The circuit records by circuit id; an unlisted slot is EMPTY (1.1). -/
  circuits : Table Circuit
  /-- The marker-code map (R4). -/
  codeMap : Table Nat
  /-- The span index (R5); an unlisted span has an empty list. -/
  spanIndex : Table (List Nat)
  /-- The window stack, the top window first (R23). -/
  stack : List Window
  /-- The closure list, oldest first (R40). -/
  closures : List Closure
  /-- The verification queue, the head first (R47). -/
  queue : List QueueEntry
  /-- The lanes the arbiter has still to look at (R54; the model's own, log 7). -/
  looks : List LaneId
  lanes : Vector Lane 8
  profile : Profile
  pendingProfile : Option Profile
  campaign : Campaign
  permit : Bool
  region : Region
  storedLevel : StoredLevel
  /-- The session overlay (R144). -/
  overlay : Bool
  regionBeingWritten : Option Region
  senseLines : Vector SenseLine 16
  /-- The definition slots by circuit id; an unlisted slot is erased. -/
  defSlots : Table (Slot Definition)
  /-- The baseline slots by circuit id; an unlisted slot is erased. -/
  baseSlots : Table (Slot Baseline)
  protSlot : Slot ProtectionRecord
  /-- The commit queue, the commit being made first (R165). -/
  commits : List Commit
  writing : Option Writing
  /-- How many free values have been taken (the model's own, log 10). -/
  freeCount : Nat
  deriving DecidableEq, Repr

/-- The part right after POWER_ON, with a store never written: a cold restart in its start-up scan (R92, R140, R163,
R168, R169, R187, log 2, log 3, log 4, log 11). -/
def State.reset : State where
  pending := []
  phase := .scanning
  resetLine := false
  restartCause := .cold
  restartTaken := false
  restartReplySent := false
  refLock := false
  rateStrap := false
  bitRate := .r115200
  clock := 0
  receiver := .hunting
  completeFrame := none
  requestQueue := []
  processor := .free
  replies := []
  transmitter := .idle
  notices := []
  reserved := {}
  discarded := false
  circuits := []
  codeMap := []
  spanIndex := []
  stack := []
  closures := []
  queue := []
  looks := []
  lanes := Vector.replicate 8 {}
  profile := {}
  pendingProfile := none
  campaign := {}
  permit := false
  region := {}
  storedLevel := .openLevel
  overlay := false
  regionBeingWritten := none
  senseLines := Vector.replicate 16 {}
  defSlots := []
  baseSlots := []
  protSlot := .erased
  commits := []
  writing := none
  freeCount := 0

end Sys2Proof.Machine
end

