-- ==== Sys2Proof/Machine/Layouts.lean ====
section
/-! DEFINITION. The bytes of what the part sends (12): codes, records, the fields of every reply in the pieces that no part
splits, the division of a long reply, and the payload of every notice. Where chapter 12 gives no layout, the fields stand in
the order in which the owning rule names them, sized as chapter 12 sizes fields of their kind (DEDUCED, log 22). -/

namespace Sys2Proof.Machine

/-! ## Fields, least significant byte first (R188) -/

/-- A field of one byte. -/
def le8 (n : Nat) : List U8 := [BitVec.ofNat 8 n]

/-- A field of two bytes. -/
def le16 (n : Nat) : List U8 := le8 n ++ le8 (n / 256)

/-- A field of four bytes. -/
def le32 (n : Nat) : List U8 := le16 n ++ le16 (n / 65536)

/-- A signed field of two bytes, two's complement. -/
def leInt16 (z : Int) : List U8 := le16 (BitVec.ofInt 16 z).toNat

/-- A signed field of four bytes, two's complement. -/
def leInt32 (z : Int) : List U8 := le32 (BitVec.ofInt 32 z).toNat

/-- A flag byte, given from bit 0 upwards. -/
def flagByte (bits : List Bool) : List U8 := le8 (bits.foldr (fun b n => 2 * n + b.toNat) 0)

/-! ## Codes (12.1, 12.9, 12.10) -/

/-- The status codes of 12.1. -/
def Status.code : Status → U8
  | .ok => 0x00
  | .adjusted => 0x01
  | .accepted => 0x02
  | .alreadyPending => 0x03
  | .busy => 0x10
  | .badLength => 0x11
  | .unknownRequest => 0x12
  | .badField => 0x13
  | .noSuchCircuit => 0x20
  | .unreadable => 0x21
  | .circuitHeld => 0x22
  | .circuitBusy => 0x23
  | .codeInUse => 0x24
  | .stackFull => 0x30
  | .idInUse => 0x31
  | .noWindow => 0x32
  | .notTop => 0x33
  | .summaryBacklog => 0x34
  | .noticesFull => 0x35
  | .noPermit => 0x40
  | .insideRegion => 0x41
  | .locked => 0x42
  | .captureActive => 0x43
  | .noCapture => 0x44
  | .storeFault => 0x50

/-- The notice codes of 12.1. -/
def Notice.code : Notice → U8
  | .restarted _ _ _ _ _ _ => 0x01
  | .verdict _ _ => 0x02
  | .windowSummary _ _ => 0x03
  | .sense _ _ _ _ _ => 0x04
  | .captureDone _ _ _ _ => 0x05
  | .profileApplied _ => 0x06
  | .laneFault _ _ _ _ => 0x07

/-- The verdict kinds of 12.1. -/
def VerdictKind.code : VerdictKind → Nat
  | .pass => 0
  | .continuityOnly => 1
  | .noReturn => 2
  | .misrouted => 3
  | .lossShift => 4
  | .pathChanged => 5
  | .unstable => 6
  | .unmeasurable => 7

/-- The attempt classes, which share the numbering of the verdict kinds (12.1). -/
def AttemptClass.code : AttemptClass → Nat
  | .pass => 0
  | .continuityOnly => 1
  | .noReturn => 2
  | .misrouted => 3
  | .lossShift => 4
  | .pathChanged => 5

/-- The attempt classes, oldest first, in their four bytes; unused bytes are 0 (12.4). -/
def classBytes (classes : List AttemptClass) : List U8 := ((classes.map AttemptClass.code ++ [0, 0, 0, 0]).take 4).flatMap le8

/-- The causes of 12.1. -/
def Cause.code : Cause → Nat
  | .windowClose => 0
  | .windowExpiry => 1
  | .sense => 2
  | .request => 3

/-- The circuit states of 12.10. -/
def CircuitState.code : CircuitState → Nat
  | .empty => 0
  | .idle => 1
  | .held => 2
  | .pending => 3
  | .probing => 4
  | .capturing => 5
  | .unreadable => 6

/-- The lane states of 12.10. -/
def LaneState.code : LaneState → Nat
  | .parked => 0
  | .tuning => 1
  | .tuned => 2
  | .measuring => 3
  | .parking => 4
  | .calibrating => 5
  | .faulted => 6

/-- The last calibration outcome of 12.10; 0 where there is none. -/
def outcomeCode : Option CalOutcome → Nat
  | none => 0
  | some .success => 1
  | some .noReturn => 2
  | some .wrongCode => 3
  | some .trimRange => 4
  | some .offsetRange => 5
  | some .tuneFailure => 6
  | some .burstFailure => 7

/-- A lane's work in hand (12.10). -/
def Work.code : Work → Nat
  | .none => 0
  | .verification _ => 1
  | .capture _ => 2
  | .referenceRun => 3

/-- The circuit of a lane's work in hand, 0 where it has none (R91, R188). -/
def Work.circuit : Work → Nat
  | .verification c => c
  | .capture c => c
  | .none | .referenceRun => 0

/-- The grant phases of 12.10. -/
def GrantPhase.code : GrantPhase → Nat
  | .tuning => 0
  | .measuring => 1
  | .classifying => 2

/-- The withholding reasons of 12.10. -/
def Withheld.code : Withheld → Nat
  | .none => 0
  | .profilePending => 1
  | .calibrating => 2
  | .due => 3
  | .noNoticeEntry => 4

/-- The campaign states of 12.10. -/
def CampaignState.code : CampaignState → Nat
  | .idle => 0
  | .running => 1
  | .suspending => 2
  | .suspended => 3

/-- The suspend reasons of 12.10: bit 0 HOST, bit 1 WINDOW. -/
def reasonsByte (host window : Bool) : List U8 := flagByte [host, window]

/-- The numbered lane of a capture or queue entry, or 0xFF when none (12.7). -/
def laneCode : Option LaneId → Nat
  | some l => l.val
  | none => 0xFF

/-- The sides of 12.9. -/
def Side.code : Side → Nat
  | .low => 0
  | .high => 1

/-- The lock levels of 12.9. -/
def LockLevel.code : LockLevel → Nat
  | .openLevel => 0
  | .line => 1
  | .session => 2

/-- The stored levels, coded as the lock levels of 12.9. -/
def StoredLevel.code : StoredLevel → Nat
  | .openLevel => 0
  | .line => 1

/-- The sense modes of 12.9, and the kinds of a sense event (12.5). -/
def SenseMode.code : SenseMode → Nat
  | .edge => 0
  | .level => 1

/-- The polarities of 12.9. -/
def Polarity.code : Polarity → Nat
  | .high => 0
  | .low => 1

/-- The actions of 12.9. -/
def SenseAction.code : SenseAction → Nat
  | .logOnly => 0
  | .verify => 1

/-- The sense routes of 12.10. -/
def SenseRoute.code : SenseRoute → Nat
  | .window _ _ => 0
  | .verify _ _ => 1
  | .noticeOnly => 2

/-- The restart causes of 12.10. -/
def RestartCause.code : RestartCause → Nat
  | .cold => 0
  | .line => 1
  | .request => 2

/-- The error kinds of a LANE_FAULT notice (12.10). -/
def ErrorKind.code : ErrorKind → Nat
  | .tuneFailure => 0
  | .burstFailure => 1
  | .calibration _ => 2

/-- A two-valued field in one byte: freshness (1 FRESH), REF_LOCK (1 asserted) and a sense input's level (1 high) as 12.10
codes them, and a flag (1 set) as a request's on and off (12.9). -/
def bit8 (b : Bool) : List U8 := le8 b.toNat

/-! ## Records -/

/-- The verdict layout of 12.4. -/
def verdictBytes (circuit : Nat) (v : Verdict) : List U8 :=
  le16 circuit ++ le8 v.kind.code ++
    flagByte [v.qualifiers.clipped, v.qualifiers.degraded, v.qualifiers.expiredWindow, v.qualifiers.spanEvent,
      v.qualifiers.laneFault] ++
    le8 v.cause.code ++
    flagByte [v.closureId.isSome, v.level.isSome, v.deltaLevel.isSome, v.found.isSome, v.otherCircuit.isSome,
      v.generation.isSome] ++
    le16 (v.closureId.getD 0) ++ le8 v.lane.val ++ le8 v.classes.length ++
    classBytes v.classes ++
    le32 v.time ++ leInt16 (v.level.getD 0) ++ le32 (v.delay.getD 0) ++ leInt16 (v.deltaLevel.getD 0) ++
    leInt32 (v.deltaDelay.getD 0) ++ le16 (v.found.getD 0) ++ le16 (v.otherCircuit.getD 0) ++
    le16 (v.generation.getD 0)

/-- A sense event of 12.5. -/
def eventBytes (e : SenseEvent) : List U8 :=
  le8 e.line.val ++ le8 e.kind.code ++ le16 e.span ++ le32 e.time

/-- The summary layout of 12.5. -/
def summaryBytes (c : Closure) (early : Bool) : List U8 :=
  le16 c.windowId ++ le8 (match c.endKind with | .closed => 0 | .expired => 1) ++ flagByte [early, c.moreEvents] ++
    le32 c.openedAt ++ le32 c.endedAt ++ le16 c.released ++ le16 c.outstanding ++ le16 c.reHeld ++
    [c.counts.pass, c.counts.continuityOnly, c.counts.noReturn, c.counts.misrouted, c.counts.lossShift,
      c.counts.pathChanged, c.counts.unstable, c.counts.unmeasurable].flatMap le16 ++
    le16 c.spanEvents ++ le8 c.events.length ++ c.events.flatMap eventBytes

/-- The profile layout of 12.6. -/
def profileBytes (p : Profile) : List U8 :=
  le8 p.burstLength ++ le8 p.retries ++ bit8 p.quietPass ++ le8 p.captureBursts ++ le8 p.interval ++
    le16 p.floor ++ le16 p.rise ++ le16 p.fall ++ le16 p.spreadLimit ++ le32 p.delay

/-- The override as the definition layout of 12.2 carries it. -/
def Override.bytes (o : Override) : List U8 :=
  flagByte [o.rise.isSome, o.fall.isSome, o.delay.isSome] ++ le16 (o.rise.getD 0) ++ le16 (o.fall.getD 0) ++
    le32 (o.delay.getD 0)

/-- The definition layout of 12.2; its fields are 0 where there is no definition. -/
def definitionBytes (id : Nat) : Option Definition → List U8
  | some d =>
    le16 id ++ le8 d.lane.val ++ le8 d.channel ++ le16 d.code ++ d.override.bytes ++ le8 d.spans.length ++
      d.spans.flatMap le16
  | none => le16 id ++ List.replicate 14 0

/-- The baseline fields of 12.2, sent as 0 where there is none (R188). -/
def baselineBytes : Option Baseline → List U8
  | none => List.replicate 16 0
  | some b =>
    leInt16 b.level ++ le32 b.delay ++ le32 b.captureTime ++ le16 b.generation ++ le8 b.lane.val ++ le8 b.channel ++
      le16 b.code

/-- The fields of GET_CIRCUIT's reply after the request code (12.2). -/
def CircuitReport.bytes (r : CircuitReport) : List U8 :=
  le8 r.state.code ++ definitionBytes r.id r.definition ++
    flagByte [r.baseline.isSome, r.releaseOwed.isSome, r.lastVerdict.isSome] ++ baselineBytes r.baseline ++
    le8 r.holds ++ le8 (match r.releaseOwed with | some .windowExpiry => 1 | some .windowClose | none => 0) ++
    (match r.lastVerdict with | some v => verdictBytes r.id v | none => List.replicate 36 0)

/-! ## Capture entries (12.7) -/

/-- The result code, burst number and three details of a capture result (12.7). -/
def CaptureResult.fields : CaptureResult → Nat × Nat × List U8
  | .written level delay generation => (0, 0, leInt16 level ++ le32 delay ++ le16 generation)
  | .noReturn burst mean => (1, burst, le16 mean ++ le32 0 ++ le16 0)
  | .wrongCode burst found => (2, burst, le16 found ++ le32 0 ++ le16 0)
  | .unstableCapture spread => (3, 0, le16 spread ++ le32 0 ++ le16 0)
  | .clipped burst => (4, burst, List.replicate 8 0)
  | .insideRegion => (5, 0, List.replicate 8 0)
  | .notDefined => (6, 0, List.replicate 8 0)
  | .unreadable => (7, 0, List.replicate 8 0)
  | .disturbed => (8, 0, List.replicate 8 0)
  | .laneFault => (9, 0, List.replicate 8 0)
  | .storeFault => (10, 0, List.replicate 8 0)
  | .cancelled => (11, 0, List.replicate 8 0)

/-- The layout of a capture entry (12.7). -/
def CaptureEntry.bytes (e : CaptureEntry) : List U8 :=
  le16 e.circuit ++
    match e.status with
    | .unprocessed => le8 0 ++ le8 (laneCode none) ++ le8 0xFF ++ le8 0 ++ List.replicate 8 0
    | .measuring l => le8 1 ++ le8 (laneCode l) ++ le8 0xFF ++ le8 0 ++ List.replicate 8 0
    | .committing l => le8 2 ++ le8 (laneCode l) ++ le8 0xFF ++ le8 0 ++ List.replicate 8 0
    | .finished r => le8 3 ++ le8 (laneCode none) ++ le8 r.fields.1 ++ le8 r.fields.2.1 ++ r.fields.2.2

/-! ## The reports of replies (log 22) -/

/-- A lane in GET_LANES's reply (R91). -/
def LaneReport.bytes (r : LaneReport) : List U8 :=
  le8 r.state.code ++ le8 r.channel ++ leInt16 r.trim ++ le32 r.offset ++ le16 r.age ++ bit8 r.calRequested ++ bit8 r.due ++
    bit8 r.fresh ++ le8 r.errorCount ++ le8 (outcomeCode r.lastOutcome) ++ le8 r.work.code ++
    le16 r.work.circuit

/-- The cause, closure tag and flags of a queue entry (R51); one byte holds both flags (DESIGN CHOICE, log 45). -/
def QueueEntry.bytes (e : QueueEntry) : List U8 :=
  le8 e.cause.code ++ bit8 e.tag.isSome ++ le16 (e.tag.getD 0) ++ flagByte [e.expired, e.spanEvent]

/-- A queue entry in GET_QUEUE's reply (R51). -/
def EntryReport.bytes (r : EntryReport) : List U8 := le16 r.entry.circuit ++ le8 (laneCode r.lane) ++ r.entry.bytes

/-- A grant in GET_QUEUE's reply: the fields that R51 names, without the phase that 12.10 codes (DESIGN CHOICE, log 43). -/
def GrantReport.bytes (g : GrantReport) : List U8 :=
  le16 g.entry.circuit ++ g.entry.bytes ++ le8 g.burstLength ++ le8 g.retries ++ le8 g.classes.length ++
    classBytes g.classes

/-- A lane in GET_QUEUE's reply; the fields of an absent grant are 0 (R51, R188). -/
def LaneQueueReport.bytes (r : LaneQueueReport) : List U8 :=
  le8 r.errorCount ++ bit8 r.grant.isSome ++
    (match r.grant with | some g => g.bytes | none => List.replicate 14 0) ++ le8 r.withheld.code

/-- An open window in GET_WINDOWS's reply (R45). -/
def WindowReport.bytes (r : WindowReport) : List U8 :=
  le16 r.window.id ++ le8 r.window.spans.length ++ r.window.spans.flatMap le16 ++ le32 r.window.remaining ++
    le32 r.window.openedAt ++ le16 r.held ++ le8 r.window.events.length ++ r.window.events.flatMap eventBytes ++
    bit8 r.window.moreEvents

/-- The campaign's own fields in GET_CAPTURE's reply (R139); one byte holds the three flags (DESIGN CHOICE, log 45). -/
def CaptureReport.heading (r : CaptureReport) : List U8 :=
  le8 r.state.code ++ reasonsByte r.host r.window ++ flagByte [r.progressOwed, r.deferredSuspend, r.cancelled] ++
    le16 r.pendingCommits ++ le16 r.entries.length

/-- A region as SET_PROTECTION's payload lays it out (12.9). -/
def Region.bytes (r : Region) : List U8 := le8 r.side.code ++ le8 r.n ++ bit8 r.complement

/-- What GET_PROTECTION returns (R148). -/
def ProtectionReport.bytes (r : ProtectionReport) : List U8 :=
  r.region.bytes ++ le8 r.level.code ++ le8 r.storedLevel.code ++ bit8 r.refLock ++ bit8 r.permit ++ le16 r.slotsInside

/-- A line's configuration as SET_SENSE's payload lays it out (12.9), its input level and its two statuses (R154, R162). -/
def SenseLine.bytes (l : SenseLine) : List U8 :=
  bit8 l.enabled ++ le8 l.mode.code ++ le8 l.polarity.code ++ bit8 l.bothEdges ++ le8 l.action.code ++ le16 l.span ++
    bit8 l.input ++ bit8 l.raw ++ bit8 l.masked

/-- A line in GET_SENSE's reply; the last field is 0 for a line that is not bound (R162, R188). -/
def SenseReport.bytes (r : SenseReport) : List U8 := r.line.bytes ++ bit8 (r.spanOpen.getD false)

/-- A named line in CLEAR_SENSE's reply (R155). -/
def ClearedLine.bytes (l : ClearedLine) : List U8 := le8 l.line.val ++ bit8 l.raw ++ bit8 l.masked

/-! ## The fields of a reply (R181) -/

/-- The fields of a reply after the request code, in the pieces that no part splits (R189): a long reply's counts, and then
each of its entries, windows, closure records and lanes; every other reply in one piece. The partial flag of a closure
record in GET_WINDOWS's reply is clear (DESIGN CHOICE, log 42). -/
def ReplyBody.pieces : ReplyBody → List (List U8)
  | .none => []
  | .identity part rev nLanes nCircuits nSpans nChannels nStack nClosures =>
    [le16 part ++ le8 rev ++ [nLanes, nCircuits, nSpans, nChannels, nStack, nClosures].flatMap le16]
  | .clock before after => [le32 before ++ le32 after]
  | .profileApplied p => [profileBytes p]
  | .profilePending p clamped => [profileBytes p ++ bit8 clamped]
  | .profiles inForce pending => [profileBytes inForce ++ pending.elim [] profileBytes]
  | .lanes reports => [reports.flatMap LaneReport.bytes]
  | .laneState s => [le8 s.code]
  | .override o => [o.bytes]
  | .codeOwner c => [le16 c]
  | .circuit r => [r.bytes]
  | .windowOpened seconds held depth => [le32 seconds ++ le16 held ++ le8 depth]
  | .remaining seconds => [le32 seconds]
  | .openWindows ids => [ids.flatMap le16]
  | .idFound onStack => [bit8 (!onStack)]
  | .topWindow id => [le16 id]
  | .released n => [le16 n]
  | .returned n => [le16 n]
  | .windows open_ closures =>
    (le8 open_.length ++ le8 closures.length) ::
      (open_.map WindowReport.bytes ++ closures.map fun c => summaryBytes c false)
  | .queue entries reports => le16 entries.length :: (entries.map EntryReport.bytes ++ reports.map LaneQueueReport.bytes)
  | .permit set => [bit8 set]
  | .campaignState s host window => [le8 s.code ++ reasonsByte host window]
  | .captureStarted entries s concluded => [le16 entries ++ le8 s.code ++ le16 concluded]
  | .captureReasons s host window deferred => [le8 s.code ++ reasonsByte host window ++ bit8 deferred]
  | .cancelledEntries n => [le16 n]
  | .capture r => r.heading :: r.entries.map CaptureEntry.bytes
  | .protectionSet r level => [r.bytes ++ le8 level.code]
  | .locked level refLock => [le8 level.code ++ bit8 refLock]
  | .protection r => [r.bytes]
  | .senseSet l event => [l.bytes ++ bit8 event]
  | .senseCleared lines events => [le8 lines.length ++ lines.flatMap ClearedLine.bytes ++ le8 events]
  | .sense lines => [lines.flatMap SenseReport.bytes]

/-! ## The division of a long reply (R189) -/

/-- Whether a reply may take more than one frame (R189). -/
def ReplyBody.isLong : ReplyBody → Bool
  | .queue _ _ | .windows _ _ | .capture _ => true
  | _ => false

/-- The contents of the parts, each part taking its number of pieces in order. -/
def dividedBy : List Nat → List (List U8) → List (List U8)
  | [], _ => []
  | n :: ns, pieces => (pieces.take n).flatten :: dividedBy ns (pieces.drop n)

/-- A division that R189 allows: at most the 128 parts that a part number counts, every piece in one of them, and no part
longer than a payload has room for. -/
def divides (ns : List Nat) (pieces : List (List U8)) : Bool :=
  ns != [] && ns.length ≤ Config.maxParts && ns.sum == pieces.length &&
    (dividedBy ns pieces).all fun part => part.length ≤ Config.partBytes

/-- The division that fills each part before it begins the next; `count` pieces of `size` bytes stand in the part in hand. -/
def packed : List (List U8) → (count size : Nat) → List Nat
  | [], count, _ => [count]
  | p :: ps, count, size =>
    if size + p.length ≤ Config.partBytes then packed ps (count + 1) (size + p.length) else count :: packed ps 1 p.length

/-- The pieces of each part of a reply: none for a reply of one frame, and for a long one the free value where it is a
division that R189 allows (log 10). -/
def ReplyBody.partsAt (b : ReplyBody) (freeCount : Nat) : List Nat :=
  if b.isLong then
    if divides (Config.division freeCount) b.pieces then Config.division freeCount else packed b.pieces 0 0
  else []

/-! ## The payload of a notice -/

/-- The fields of a SENSE notice that its route carries; those of the other routes are 0 (R160, R188). -/
def SenseRoute.bytes : SenseRoute → List U8
  | .window id appended => le16 id ++ bit8 appended ++ le16 0 ++ le16 0
  | .verify queued disturbed => le16 0 ++ bit8 false ++ le16 queued ++ le16 disturbed
  | .noticeOnly => le16 0 ++ bit8 false ++ le16 0 ++ le16 0

/-- The calibration outcome that a LANE_FAULT notice carries; 0 for the other kinds (R75). -/
def ErrorKind.outcome : ErrorKind → Option CalOutcome
  | .calibration outcome => some outcome
  | .tuneFailure | .burstFailure => none

/-- The twelve counts in the order of R123's table (R138). -/
def ResultCounts.bytes (c : ResultCounts) : List U8 :=
  [c.written, c.noReturn, c.wrongCode, c.unstableCapture, c.clipped, c.insideRegion, c.notDefined, c.unreadable, c.disturbed,
    c.laneFault, c.storeFault, c.cancelled].flatMap le16

/-- The payload of a notice: 12.4, 12.5 and 12.6 lay out VERDICT, WINDOW_SUMMARY and PROFILE_APPLIED. -/
def Notice.payload : Notice → List U8
  | .restarted cause nDefined nUnreadable nBaseline protectionFlag overlay =>
    le8 cause.code ++ le16 nDefined ++ le16 nUnreadable ++ le16 nBaseline ++ bit8 protectionFlag ++ bit8 overlay
  | .verdict circuit v => verdictBytes circuit v
  | .windowSummary c early => summaryBytes c early
  | .sense line span kind time route =>
    le8 line.val ++ le16 span ++ le8 kind.code ++ le32 time ++ le8 route.code ++ route.bytes
  | .captureDone entries counts cancelled time => le16 entries ++ counts.bytes ++ bit8 cancelled ++ le32 time
  | .profileApplied p => profileBytes p
  | .laneFault lane kind circuit time =>
    le8 lane.val ++ le8 kind.code ++ le8 (outcomeCode kind.outcome) ++ bit8 circuit.isSome ++ le16 (circuit.getD 0) ++
      le32 time

end Sys2Proof.Machine
end

