-- ==== Sys2Proof/Machine/Ops.lean ====
section
/-! DEFINITION. The named operations over State that the blocks share: sparse tables, circuit and lane records, the
arbiter's looks, the notice queue, the reply list, and the span and code indexes. -/

namespace Sys2Proof.Machine

/-! ## Sparse tables -/

/-- The value listed under `k`. -/
def tableGet {α : Type} : Table α → Nat → Option α
  | [], _ => none
  | (k', v) :: t, k => if k' = k then some v else tableGet t k

/-- Lists `v` under `k`, keeping the keys rising. -/
def tablePut {α : Type} : Table α → Nat → α → Table α
  | [], k, v => [(k, v)]
  | (k', v') :: t, k, v =>
    if k < k' then (k, v) :: (k', v') :: t
    else if k = k' then (k, v) :: t
    else (k', v') :: tablePut t k v

/-- Takes `k` off the table. -/
def tableErase {α : Type} (t : Table α) (k : Nat) : Table α := t.filter fun e => e.1 != k

/-- What `k` reads as, an unlisted key reading as `d`. -/
def tableRead {α : Type} (d : α) (t : Table α) (k : Nat) : α := (tableGet t k).getD d

/-- Makes `k` read as `v`, listing no key that reads as `d`. -/
def tableWrite {α : Type} [DecidableEq α] (d : α) (t : Table α) (k : Nat) (v : α) : Table α :=
  if v = d then tableErase t k else tablePut t k v

/-- The canonical form: keys strictly rising, and no value equal to `d`. -/
def tableWf {α : Type} [DecidableEq α] (d : α) : Table α → Bool
  | [] => true
  | [(_, v)] => v != d
  | (k, v) :: (k', v') :: t => k < k' && v != d && tableWf d ((k', v') :: t)

/-! ## Lists -/

/-- The elements of a list in order, each at its first place (R124: later occurrences are dropped). -/
def keepFirst {α : Type} [DecidableEq α] : List α → List α
  | [] => []
  | a :: l => a :: (keepFirst l).filter (· != a)

/-- Inserts a number in ascending order, without a duplicate (R5). -/
def insertAsc (a : Nat) : List Nat → List Nat
  | [] => [a]
  | b :: l => if a < b then a :: b :: l else if a = b then b :: l else b :: insertAsc a l

/-- The numbers of a list, merged and in ascending order (R25, R27). -/
def ascending (l : List Nat) : List Nat := l.foldl (fun acc a => insertAsc a acc) []

/-! ## Circuit records -/

/-- The record of circuit `c`. -/
def State.circuit (s : State) (c : Nat) : Circuit := tableRead {} s.circuits c

/-- Replaces the record of circuit `c`. -/
def State.setCircuit (s : State) (c : Nat) (r : Circuit) : State :=
  { s with circuits := tableWrite {} s.circuits c r }

/-- Changes the record of circuit `c`. -/
def State.modifyCircuit (s : State) (c : Nat) (f : Circuit → Circuit) : State := s.setCircuit c (f (s.circuit c))

/-- Moves circuit `c` to the state `st`. -/
def State.setCircuitState (s : State) (c : Nat) (st : CircuitState) : State :=
  s.modifyCircuit c fun r => { r with state := st }

/-- The lane field of circuit `c`'s record, for a defined circuit (R47). -/
def State.laneOf (s : State) (c : Nat) : Option LaneId := (s.circuit c).definition.map (·.lane)

/-- A circuit id is 1–512 (R11). -/
def circuitInRange (c : Nat) : Bool := 1 ≤ c && c ≤ Config.maxCircuit

/-- A slot whose state is neither EMPTY nor UNREADABLE holds a definition (R1). -/
def Circuit.defined (r : Circuit) : Bool := r.state != .empty && r.state != .unreadable

/-! ## The span index and the marker-code map -/

/-- The circuits that cross span `p`, ascending (R5). -/
def State.crossing (s : State) (p : Nat) : List Nat := tableRead [] s.spanIndex p

/-- The circuits that cross a set of spans, each once, ascending (R27). -/
def State.crossingAny (s : State) (spans : List Nat) : List Nat :=
  ascending (spans.flatMap fun p => s.crossing p)

/-- Enters circuit `c` in the list of each of its spans (R5). -/
def State.indexSpans (s : State) (c : Nat) (spans : List Nat) : State :=
  { s with spanIndex := spans.foldl (fun t p => tableWrite [] t p (insertAsc c (tableRead [] t p))) s.spanIndex }

/-- Takes circuit `c` off the list of each of its spans (R5). -/
def State.unindexSpans (s : State) (c : Nat) (spans : List Nat) : State :=
  { s with
    spanIndex := spans.foldl (fun t p => tableWrite [] t p ((tableRead [] t p).filter (· != c))) s.spanIndex }

/-- The circuit that owns a marker code, if one does (R4). -/
def State.codeOwner (s : State) (code : Nat) : Option Nat := tableGet s.codeMap code

/-- Enters a code's owner in the marker-code map (R4). -/
def State.ownCode (s : State) (code c : Nat) : State := { s with codeMap := tablePut s.codeMap code c }

/-- Takes a code off the marker-code map (R4). -/
def State.disownCode (s : State) (code : Nat) : State := { s with codeMap := tableErase s.codeMap code }

/-! ## Lane records -/

/-- The record of lane `l`. -/
def State.lane (s : State) (l : LaneId) : Lane := s.lanes[l]

/-- Replaces the record of lane `l`. -/
def State.setLane (s : State) (l : LaneId) (r : Lane) : State := { s with lanes := s.lanes.set l r }

/-- Changes the record of lane `l`. -/
def State.modifyLane (s : State) (l : LaneId) (f : Lane → Lane) : State := s.setLane l (f (s.lane l))

/-- The eight lanes, in lane order. -/
def allLanes : List LaneId := List.finRange 8

/-- The sixteen sense lines, in line order. -/
def allLines : List LineId := List.finRange 16

/-- The record of sense line `l`. -/
def State.line (s : State) (l : LineId) : SenseLine := s.senseLines[l]

/-- Replaces the record of sense line `l`. -/
def State.setLine (s : State) (l : LineId) (r : SenseLine) : State := { s with senseLines := s.senseLines.set l r }

/-! ## The arbiter's looks -/

/-- Has the arbiter look at lane `l` at the end of the command (R54, log 7). -/
def State.lookAt (s : State) (l : LaneId) : State :=
  if s.looks.contains l then s else { s with looks := s.looks ++ [l] }

/-- Has the arbiter look at every lane. -/
def State.lookAtAll (s : State) : State := allLanes.foldl State.lookAt s

/-- Has the arbiter look at the lane of circuit `c`. -/
def State.lookAtCircuit (s : State) (c : Nat) : State :=
  match s.laneOf c with
  | some l => s.lookAt l
  | none => s

/-- Has the arbiter look at the lanes that have an entry in the verification queue, as a notice entry has become free
(R54, R56). -/
def State.lookAtWaiting (s : State) : State := s.queue.foldl (fun s e => s.lookAtCircuit e.circuit) s

/-! ## The notice queue (11.6) -/

/-- The RESERVED entries kept for one kind of notice. -/
def ReservedCounts.count (r : ReservedCounts) : ReservedKind → Nat
  | .verdict => r.verdict
  | .summary => r.summary
  | .captureDone => r.captureDone
  | .profileApplied => r.profileApplied

/-- Sets the count of one kind. -/
def ReservedCounts.withCount (r : ReservedCounts) (k : ReservedKind) (n : Nat) : ReservedCounts :=
  match k with
  | .verdict => { r with verdict := n }
  | .summary => { r with summary := n }
  | .captureDone => { r with captureDone := n }
  | .profileApplied => { r with profileApplied := n }

/-- The RESERVED entries of every kind. -/
def ReservedCounts.total (r : ReservedCounts) : Nat := r.verdict + r.summary + r.captureDone + r.profileApplied

/-- The entry SENDING, if a notice is being sent. -/
def Transmitter.sendingCount : Transmitter → Nat
  | .notice _ _ => 1
  | .idle | .reply _ => 0

/-- The entries that are RESERVED, QUEUED or SENDING (R182). -/
def State.occupied (s : State) : Nat := s.reserved.total + s.notices.length + s.transmitter.sendingCount

/-- A FREE entry exists. -/
def State.hasFree (s : State) : Bool := s.occupied < Config.noticeEntries

/-- Takes a reservation from a FREE entry; the caller has checked that one exists (R182). -/
def State.reserve (s : State) (k : ReservedKind) : State :=
  { s with reserved := s.reserved.withCount k (s.reserved.count k + 1) }

/-- Returns a reservation unused: the entry becomes FREE and the arbiter is told (R182). -/
def State.returnReservation (s : State) (k : ReservedKind) : State :=
  State.lookAtWaiting { s with reserved := s.reserved.withCount k (s.reserved.count k - 1) }

/-- Queues an unreserved notice into a FREE entry, or discards it and sets the notices-discarded flag (R183, R185). -/
def State.queueUnreserved (s : State) (n : Notice) : State :=
  if s.hasFree then { s with notices := s.notices ++ [n] } else { s with discarded := true }

/-- Queues a reserved notice into its own RESERVED entry (R183). An owner without a reservation, which no run reaches,
queues like an unreserved notice. -/
def State.queueReserved (s : State) (k : ReservedKind) (n : Notice) : State :=
  if s.reserved.count k = 0 then s.queueUnreserved n
  else { s with reserved := s.reserved.withCount k (s.reserved.count k - 1), notices := s.notices ++ [n] }

/-! ## Replies -/

/-- Places a finished reply in the reply list, or has the processor wait for room (R181). -/
def State.placeReply (s : State) (r : Reply) : State :=
  if s.replies.length < Config.replyEntries then { s with replies := s.replies ++ [r], processor := .free }
  else { s with processor := .replying r }

/-- Ends the handling of a request with its reply (R180, step 4). -/
def State.answer (s : State) (tag code : U8) (status : Status) (body : ReplyBody) : State :=
  let r : Reply := ⟨tag, code, status, body, body.partsAt s.freeCount⟩
  State.placeReply { s with freeCount := if body.isLong then s.freeCount + 1 else s.freeCount } r

end Sys2Proof.Machine
end

