-- ==== Sys2Proof/Machine/Flags.lean ====
section
/-! DEFINITION. The conditions that the blocks form from State: due lanes, readiness, withholding, the protected region,
open spans, and the due steps of time. -/

namespace Sys2Proof.Machine

/-! ## Lanes -/

/-- A lane is due when its age has reached the interval or a calibration is requested (R80). -/
def Lane.due (r : Lane) (p : Profile) : Bool := p.interval ≤ r.age || r.calRequested

/-- PARKED or FAULTED: settled for a pending profile (R87). -/
def Lane.settled (r : Lane) : Bool := r.state == .parked || r.state == .faulted

/-- Every lane is PARKED or FAULTED (R87, R88). -/
def State.lanesSettled (s : State) : Bool := allLanes.all fun l => (s.lane l).settled

/-- TUNED at a final verdict or at the end of a capture's measuring phase: lit with no work in hand (R54, R61). -/
def Lane.tunedAtEnd (r : Lane) : Bool := r.state == .tuned && r.work == .none

/-- A lane is ready for work (R54). -/
def Lane.ready (r : Lane) : Bool := r.state == .parked || r.state == .faulted || r.tunedAtEnd

/-- A PARKED, due lane with no profile pending starts its reference run (R81). -/
def State.startsRun (s : State) (l : LaneId) : Bool :=
  (s.lane l).state == .parked && (s.lane l).due s.profile && s.pendingProfile.isNone

/-- The entry is for lane `l` (R47). -/
def State.entryOnLane (s : State) (l : LaneId) (e : QueueEntry) : Bool := s.laneOf e.circuit == some l

/-- Some queue entry is for lane `l`. -/
def State.hasEntry (s : State) (l : LaneId) : Bool := s.queue.any (s.entryOnLane l)

/-- The cases of R55 for lane `l`. -/
def State.withheldByLane (s : State) (l : LaneId) : Withheld :=
  if s.pendingProfile.isSome then .profilePending
  else if (s.lane l).state == .faulted then .none
  else if (s.lane l).state == .calibrating then .calibrating
  else if (s.lane l).due s.profile then .due
  else .none

/-- Why the arbiter withholds work from lane `l` at present (R51): R55's cases in their order, then a ready lane's
oldest entry that finds no FREE notice entry (R56). -/
def State.withheld (s : State) (l : LaneId) : Withheld :=
  match s.withheldByLane l with
  | .none => if (s.lane l).ready && s.hasEntry l && !s.hasFree then .noNoticeEntry else .none
  | w => w

/-! ## Windows -/

/-- The window's span set shares a span with the list (R22). -/
def Window.crosses (w : Window) (spans : List Nat) : Bool := spans.any w.spans.contains

/-- The number of open windows whose span set shares a span with the list (R24). -/
def State.windowsOver (s : State) (spans : List Nat) : Nat := s.stack.countP fun w => w.crosses spans

/-- The span lies in an open window's span set (R35). -/
def State.spanOpen (s : State) (p : Nat) : Bool := s.stack.any fun w => w.spans.contains p

/-! ## Protection (08) -/

/-- The block of a circuit (R141). -/
def blockOf (c : Nat) : Nat := (c - 1) / 16

/-- The block is counted by side and n (R141). -/
def Region.counted (r : Region) (b : Nat) : Bool :=
  match r.side with
  | .low => b < r.n
  | .high => 32 - r.n ≤ b

/-- Circuit `c` lies inside the region (R141). -/
def Region.inside (r : Region) (c : Nat) : Bool := r.counted (blockOf c) != r.complement

/-- The answer to "does this circuit lie inside the region?", either region counting while one is being written (R143). -/
def State.insideRegion (s : State) (c : Nat) : Bool :=
  s.region.inside c ||
    (match s.regionBeingWritten with
     | some r => r.inside c
     | none => false)

/-- The level in force (R144). -/
def State.levelInForce (s : State) : LockLevel :=
  if s.overlay then .session
  else match s.storedLevel with
    | .openLevel => .openLevel
    | .line => .line

/-- The circuit slots inside a region (R148). -/
def Region.slotsInside (r : Region) : Nat := 16 * (List.range 32).countP fun b => r.counted b != r.complement

/-! ## Capture (07) -/

/-- The entry is MEASURING or COMMITTING (R123). -/
def EntryStatus.inFlight : EntryStatus → Bool
  | .measuring _ | .committing _ => true
  | .unprocessed | .finished _ => false

/-- The entry is COMMITTING. -/
def EntryStatus.isCommitting : EntryStatus → Bool
  | .committing _ => true
  | .unprocessed | .measuring _ | .finished _ => false

/-- The entry is MEASURING. -/
def EntryStatus.isMeasuring : EntryStatus → Bool
  | .measuring _ => true
  | .unprocessed | .committing _ | .finished _ => false

/-- The entry is FINISHED. -/
def EntryStatus.isFinished : EntryStatus → Bool
  | .finished _ => true
  | .unprocessed | .measuring _ | .committing _ => false

/-- The pending-commit count: the number of COMMITTING entries (R132). -/
def Campaign.pendingCommits (c : Campaign) : Nat := c.entries.countP fun e => e.status.isCommitting

/-- Some entry is in flight. -/
def Campaign.anyInFlight (c : Campaign) : Bool := c.entries.any fun e => e.status.inFlight

/-- Every entry is FINISHED (R138). -/
def Campaign.allFinished (c : Campaign) : Bool := c.entries.all fun e => e.status.isFinished

/-- The entry for circuit `c`, if the list has one. -/
def Campaign.entryFor (c : Campaign) (circuit : Nat) : Option CaptureEntry :=
  c.entries.find? fun e => e.circuit == circuit

/-- The status of the entry for circuit `c` has the property. -/
def State.entryIs (s : State) (c : Nat) (p : EntryStatus → Bool) : Bool :=
  match s.campaign.entryFor c with
  | some e => p e.status
  | none => false

/-- An UNPROCESSED entry of a campaign in progress names circuit `c` (R54). -/
def State.namedUnprocessed (s : State) (c : Nat) : Bool :=
  s.campaign.state != .idle && s.entryIs c fun st => st == .unprocessed

/-! ## Sense lines (09) -/

/-- The input stands at the line's active level (R152). -/
def SenseLine.atActive (r : SenseLine) : Bool :=
  match r.polarity with
  | .high => r.input
  | .low => !r.input

/-- The transition of the input to `high` sets the raw status (R152). -/
def SenseLine.latches (r : SenseLine) (high : Bool) : Bool :=
  match r.mode, r.bothEdges, r.polarity with
  | .edge, true, _ => true
  | .edge, false, .high => high
  | .edge, false, .low => !high
  | .level, _, .high => high
  | .level, _, .low => !high

/-! ## Start-up and due steps -/

/-- The part has power and is not held in restart: its line, its clock and its events run (R168, R169). -/
def State.alive (s : State) : Bool := s.phase == .scanning || s.phase == .running

/-- RESTART's reply has been sent and no slot write is in progress (R170). -/
def State.restartDue (s : State) : Bool :=
  s.phase == .running && s.restartTaken && s.restartReplySent && s.writing.isNone

/-- Some window's remaining seconds have reached 0 (R36). -/
def State.expiryDue (s : State) : Bool := s.stack.any fun w => w.remaining == 0

/-- Lane `l` stands PARKED and due, with nothing that holds its reference run back (R81). -/
def State.calibrationIsDue (s : State) (l : LaneId) : Bool := s.phase == .running && s.startsRun l

end Sys2Proof.Machine
end

