-- ==== Sys2Proof/Machine/Closures.lean ====
section
/-! DEFINITION. Closure records and their accounting (02 section 2.8), closure tags (R50), and the verification queue's
entries (03 section 3.1). -/

namespace Sys2Proof.Machine

/-! ## Closure records -/

/-- Counts one verdict of a kind (R42). -/
def VerdictCounts.bump (c : VerdictCounts) : VerdictKind → VerdictCounts
  | .pass => { c with pass := c.pass + 1 }
  | .continuityOnly => { c with continuityOnly := c.continuityOnly + 1 }
  | .noReturn => { c with noReturn := c.noReturn + 1 }
  | .misrouted => { c with misrouted := c.misrouted + 1 }
  | .lossShift => { c with lossShift := c.lossShift + 1 }
  | .pathChanged => { c with pathChanged := c.pathChanged + 1 }
  | .unstable => { c with unstable := c.unstable + 1 }
  | .unmeasurable => { c with unmeasurable := c.unmeasurable + 1 }

/-- The sum of the eight verdict counts (R42). -/
def VerdictCounts.sum (c : VerdictCounts) : Nat :=
  c.pass + c.continuityOnly + c.noReturn + c.misrouted + c.lossShift + c.pathChanged + c.unstable + c.unmeasurable

/-- Queues a WINDOW_SUMMARY into its reservation (R33, R39, R44). -/
def State.queueSummary (s : State) (c : Closure) (early : Bool) : State :=
  s.queueReserved .summary (.windowSummary c early)

/-- Moves one circuit of record `tag` out of outstanding; at outstanding 0 the record is summarised and discarded
(R42, R43, R44). -/
def State.updateClosure (s : State) (tag : Nat) (f : Closure → Closure) : State :=
  match s.closures.find? fun c => c.windowId == tag with
  | none => s
  | some c =>
    let c' := { f c with outstanding := c.outstanding - 1 }
    if c'.outstanding = 0 then
      State.queueSummary { s with closures := s.closures.filter fun x => x.windowId != tag } c' false
    else { s with closures := s.closures.map fun x => if x.windowId = tag then c' else x }

/-- Counts a verdict in the record of its tag, where it has one (R42). -/
def State.countVerdict (s : State) (tag : Option Nat) (kind : VerdictKind) (spanEvent : Bool) : State :=
  match tag with
  | none => s
  | some t => s.updateClosure t fun c =>
    { c with counts := c.counts.bump kind, spanEvents := c.spanEvents + if spanEvent then 1 else 0 }

/-- Counts a re-hold in the record of its tag, where it has one (R43). -/
def State.countReHold (s : State) (tag : Option Nat) : State :=
  match tag with
  | none => s
  | some t => s.updateClosure t fun c => { c with reHeld := c.reHeld + 1 }

/-- The entry without the tag `t` (R50). -/
def QueueEntry.untag (e : QueueEntry) (t : Nat) : QueueEntry := if e.tag = some t then { e with tag := none } else e

/-- Takes a summarised record's tag off every queue entry and every lane grant that carries it (R50). -/
def State.removeTag (s : State) (t : Nat) : State :=
  allLanes.foldl
    (fun s l => s.modifyLane l fun r => { r with grant := r.grant.map fun g => { g with entry := g.entry.untag t } })
    { s with queue := s.queue.map fun e => e.untag t }

/-- Summarises the oldest closure record early (R39). -/
def State.summariseOldest (s : State) : State :=
  match s.closures with
  | [] => s
  | c :: rest => (State.queueSummary { s with closures := rest } c true).removeTag c.windowId

/-! ## The verification queue -/

/-- Appends an entry at the tail; its circuit becomes PENDING (R48), and the arbiter looks at its lane (R54). -/
def State.appendEntry (s : State) (e : QueueEntry) : State :=
  (State.setCircuitState { s with queue := s.queue ++ [e] } e.circuit .pending).lookAtCircuit e.circuit

/-- Puts an entry back at the head; its circuit becomes PENDING again (R64), and the arbiter looks at its lane (R54). -/
def State.putBack (s : State) (e : QueueEntry) : State :=
  (State.setCircuitState { s with queue := e :: s.queue } e.circuit .pending).lookAtCircuit e.circuit

/-- Removes the entry of circuit `c`, wherever it stands (R49). -/
def State.dropEntry (s : State) (c : Nat) : State := { s with queue := s.queue.filter fun e => e.circuit != c }

/-- The closure tag of circuit `c`'s queue entry. -/
def State.queuedTag (s : State) (c : Nat) : Option Nat := (s.queue.find? fun e => e.circuit == c).bind (·.tag)

/-- An entry with cause SENSE or REQUEST: no tag and no flags (R20, R48). -/
def plainEntry (c : Nat) (cause : Cause) : QueueEntry := ⟨c, cause, none, false, false⟩

/-- Circuit `c` becomes IDLE; where an UNPROCESSED capture entry names it, the arbiter looks at its lane (R54). -/
def State.makeIdle (s : State) (c : Nat) : State :=
  let s := s.setCircuitState c .idle
  if s.namedUnprocessed c then s.lookAtCircuit c else s

end Sys2Proof.Machine
end

