-- ==== Sys2Proof/Machine/Measurement.lean ====
section
/-! DEFINITION. The measurement unit (05): the reduction of one burst, the calibration arithmetic and the capture
arithmetic, on integers. -/

namespace Sys2Proof.Machine

/-! ## Mean, clip, vote and delay -/

/-- Σc_i over all samples (R94). -/
def countSum (samples : List Sample) : Nat := (samples.map fun s => s.count.toNat).sum

/-- The mean count M, ties up (R94). -/
def meanCount (samples : List Sample) : Nat := (countSum samples + samples.length / 2) / samples.length

/-- The clipped mark: at least one sample at 65535 (R94). -/
def isClipped (samples : List Sample) : Bool := samples.any fun s => s.count.toNat == Config.clippedCount

/-- The samples that vote: those at or above the floor (R96). -/
def voters (floor : Nat) (samples : List Sample) : List Sample := samples.filter fun s => floor ≤ s.count.toNat

/-- The voting samples that report a code (R96). -/
def votesFor (floor : Nat) (samples : List Sample) (code : Nat) : List Sample :=
  (voters floor samples).filter fun s => s.code.toNat == code

/-- Of two codes, the one with more votes, the lower-numbered on a tie (R96). -/
def betterCode (floor : Nat) (samples : List Sample) (a b : Nat) : Nat :=
  let va := (votesFor floor samples a).length
  let vb := (votesFor floor samples b).length
  if va < vb ∨ (va = vb ∧ b < a) then b else a

/-- The winning code, where some sample votes (R96). -/
def winningCode (floor : Nat) (samples : List Sample) : Option Nat :=
  match (voters floor samples).map fun s => s.code.toNat with
  | [] => none
  | c :: rest => some (rest.foldl (betterCode floor samples) c)

/-- The raw delay of the samples that voted for the winning code, ties up (R97). -/
def rawDelay (winners : List Sample) : Nat :=
  ((winners.map fun s => s.delay.toNat).sum + winners.length / 2) / winners.length

/-- The delay with the lane's offset removed, not below 0 (R97). -/
def pathDelay (raw offset : Nat) : Nat := if offset ≤ raw then raw - offset else 0

/-! ## Level -/

/-- The fraction of the octave in sixty-fourths (R98, step 2). -/
def octaveFraction (m : Nat) : Nat :=
  let e := m.log2
  if 6 ≤ e then (m - 2 ^ e) / 2 ^ (e - 6) else (m - 2 ^ e) * 2 ^ (6 - e)

/-- The base level L of a mean count of at least 1 (R98). -/
def baseLevel (m : Nat) : Nat := ((64 * m.log2 + octaveFraction m) * 301 + 32) / 64

/-! ## The burst result (5.1) -/

/-- The fields of a result that are present when the burst returned. -/
structure Returned where
  code : Nat
  votes : Nat
  rawDelay : Nat
  baseLevel : Nat
  deriving DecidableEq, Repr

/-- The result of a burst before any trim, offset or baseline is applied (R94 to R98). -/
structure Reduced where
  mean : Nat
  clipped : Bool
  returned : Option Returned
  deriving DecidableEq, Repr

/-- The reduction of a burst (R94 to R98). -/
def reduce (floor : Nat) (samples : List Sample) : Reduced :=
  let m := meanCount samples
  { mean := m
    clipped := isClipped samples
    returned :=
      if m < floor then none
      else (winningCode floor samples).map fun code =>
        let winners := votesFor floor samples code
        { code := code, votes := winners.length, rawDelay := rawDelay winners, baseLevel := baseLevel m } }

/-- The reduction of a handed burst. -/
def HandedBurst.reduce (b : HandedBurst) : Reduced := Machine.reduce b.floor b.samples

/-- The level P = L + T of an attempt or a capture (R99). -/
def levelOf (r : Returned) (trim : Int) : Int := r.baseLevel + trim

/-- ΔP = P_b − P (R100). -/
def deltaLevel (b : Baseline) (level : Int) : Int := b.level - level

/-- ΔD = D − D_b (R100). -/
def deltaDelay (b : Baseline) (delay : Nat) : Int := delay - b.delay

/-! ## Calibration arithmetic (5.6) -/

/-- The candidate trim (R102). -/
def candidateTrim (level : Nat) : Int := Config.nominalLevel - level

/-- The outcome of a completed reference burst, its tests in the order of R83, with its candidates (R102, R103). -/
def judgeReference (b : HandedBurst) : CalResult :=
  match b.reduce.returned with
  | none => ⟨.noReturn, 0, 0⟩
  | some r =>
    let trim := candidateTrim r.baseLevel
    if r.code ≠ 0 then ⟨.wrongCode, trim, r.rawDelay⟩
    else if trim < -Config.maxTrim ∨ Config.maxTrim < trim then ⟨.trimRange, trim, r.rawDelay⟩
    else if Config.maxOffset < r.rawDelay then ⟨.offsetRange, trim, r.rawDelay⟩
    else ⟨.success, trim, r.rawDelay⟩

/-! ## Capture arithmetic (5.7) -/

/-- The spread of the kept levels (R104). -/
def spreadOf : List Int → Nat
  | [] => 0
  | p :: ps => (ps.foldl max p - ps.foldl min p).toNat

/-- The mean of the kept levels, ties up (R105). -/
def meanLevel (levels : List Int) : Int := (2 * levels.sum + levels.length) / (2 * levels.length)

/-- The mean of the kept delays, ties up (R105). -/
def meanDelay (delays : List Nat) : Nat := (2 * delays.sum + delays.length) / (2 * delays.length)

/-- The generation after a present baseline's, or after none (R3, R130). -/
def nextGeneration : Option Baseline → Nat
  | none => 1
  | some b => if b.generation = Config.maxGeneration then 1 else b.generation + 1

end Sys2Proof.Machine
end

