-- ==== Sys2Proof/Machine/Lanes.lean ====
section
/-! DEFINITION. The operations of a lane (04): parking, tuning, bursts, reference runs and their end, and the application
of a pending profile. -/

namespace Sys2Proof.Machine

/-- The lane sends PARK and becomes PARKING; samples received are discarded (R74, R79). -/
def Lane.park (r : Lane) : Lane := { r with state := .parking, samples := [], headCommand := .park }

/-- The work in hand is cleared; a result in flight finds no owner (R65, R101, log 15). -/
def Lane.endWork (r : Lane) : Lane := { r with work := .none, grant := none, capture := none, handed := none }

/-- The lane sends BURST and becomes MEASURING (R67). -/
def Lane.burst (r : Lane) : Lane :=
  { r with state := .measuring, samples := [], headCommand := .burst r.burstLength }

/-- A grant's work begins: from PARKED the lane tunes to the circuit's channel, and from TUNED it sends its first BURST
on the channel it holds (R57, R61, R128). -/
def Lane.begin (r : Lane) (channel burstLength : Nat) : Lane :=
  let r := { r with burstLength := burstLength }
  if r.state = .tuned then r.burst
  else { r with state := .tuning, channel := channel, headCommand := .tune channel }

/-- A reference run starts (R81, R82). -/
def Lane.startRun (r : Lane) : Lane :=
  { r with
    state := .calibrating, work := .referenceRun, calStep := some .tune, calResult := none, samples := [],
    headCommand := .tuneReference }

/-- A reference run goes to its closing park with a judged outcome (R82). -/
def Lane.closeRun (r : Lane) (result : CalResult) : Lane :=
  { r with calStep := some .park, calResult := some result, samples := [], handed := none, headCommand := .park }

/-- Stops a lane's measurement for a reason outside it, by its state (R79); the work in hand ends. -/
def Lane.stop (r : Lane) : Lane :=
  match r.state with
  | .tuned | .measuring => r.endWork.park
  | .tuning | .parked | .parking | .calibrating | .faulted => r.endWork

/-- One lane error is counted, with the circuit in hand at it (R75, R78). -/
def Lane.countError (r : Lane) (kind : ErrorKind) (circuit : Option Nat) : Lane :=
  { r with errorCount := min Config.faultCount (r.errorCount + 1), lastError := some ⟨kind, circuit⟩ }

/-- The end of a reference run: the outcome takes effect (R83, R84). -/
def Lane.endRun (r : Lane) (result : CalResult) : Lane :=
  let r := { r with
    age := 0, calRequested := false, lastOutcome := some result.outcome, work := .none, calStep := none,
    calResult := none }
  let r :=
    if result.outcome = .success then
      { r with trim := result.trim, offset := result.offset, fresh := true, errorCount := 0 }
    else { r.countError (.calibration result.outcome) none with fresh := false }
  { r with state := if r.errorCount = Config.faultCount then .faulted else .parked }

/-- The end of a park: PARKED below two consecutive errors, and FAULTED at two (R74, R75). -/
def Lane.endPark (r : Lane) : Lane :=
  { r with state := if r.errorCount = Config.faultCount then .faulted else .parked }

/-- Starts the reference run of lane `l` where it is PARKED, due and not held back (R81). -/
def State.startRunIfDue (s : State) (l : LaneId) : State := if s.startsRun l then s.modifyLane l Lane.startRun else s

/-- The pending profile is applied (R88). -/
def State.applyPending (s : State) (p : Profile) : State :=
  let s := State.queueReserved { s with profile := p, pendingProfile := none } .profileApplied (.profileApplied p)
  (allLanes.foldl State.startRunIfDue s).lookAtAll

/-- Lane `l` has become PARKED or FAULTED: the pending profile is applied if every lane is settled (R88), a due lane
starts its run (R70), and the arbiter looks at the lane (R54). -/
def State.laneSettled (s : State) (l : LaneId) : State :=
  match s.pendingProfile with
  | some p => State.lookAt (if s.lanesSettled then s.applyPending p else s) l
  | none => (s.startRunIfDue l).lookAt l

/-- A lane that has become FAULTED queues its LANE_FAULT notice (R75). -/
def State.reportFault (s : State) (l : LaneId) : State :=
  let r := s.lane l
  match r.state, r.lastError with
  | .faulted, some e => s.queueUnreserved (.laneFault l e.kind e.circuit s.clock)
  | _, _ => s

end Sys2Proof.Machine
end

