-- ==== Sys2Proof/Machine/Store.lean ====
section
/-! DEFINITION. The store's slots and the commit queue (10): handing a commit on, beginning its write, and the ways a
slot write ends. -/

namespace Sys2Proof.Machine

/-- The cells of the slot that a commit writes (R166, step 1). -/
def State.readSlot (s : State) : StoreOp → SavedSlot
  | .writeDefinition c _ | .eraseDefinition c => .definition c (tableRead .erased s.defSlots c)
  | .writeBaseline c _ | .eraseBaseline c => .baseline c (tableRead .erased s.baseSlots c)
  | .writeProtection _ => .protection s.protSlot

/-- Makes a slot's cells those of a copy (R166, step 5). -/
def State.putSlot (s : State) : SavedSlot → State
  | .definition c x => { s with defSlots := tableWrite .erased s.defSlots c x }
  | .baseline c x => { s with baseSlots := tableWrite .erased s.baseSlots c x }
  | .protection x => { s with protSlot := x }

/-- The copy's slot with other cells. -/
def SavedSlot.withCells (damagedCells : Bool) : SavedSlot → SavedSlot
  | .definition c _ => .definition c (if damagedCells then .damaged else .erased)
  | .baseline c _ => .baseline c (if damagedCells then .damaged else .erased)
  | .protection _ => .protection (if damagedCells then .damaged else .erased)

/-- The copy was of a wholly erased slot. -/
def SavedSlot.isErased : SavedSlot → Bool
  | .definition _ x => x == .erased
  | .baseline _ x => x == .erased
  | .protection x => x == .erased

/-- What the slot holds once a commit's write has agreed with its read-back (R166). -/
def StoreOp.written : StoreOp → SavedSlot
  | .writeDefinition c d => .definition c (.holding d)
  | .eraseDefinition c => .definition c .erased
  | .writeBaseline c b => .baseline c (.holding b)
  | .eraseBaseline c => .baseline c .erased
  | .writeProtection p => .protection (.holding p)

/-- The commit erases its slot (10.2). -/
def StoreOp.isErase : StoreOp → Bool
  | .eraseDefinition _ | .eraseBaseline _ => true
  | .writeDefinition _ _ | .writeBaseline _ _ | .writeProtection _ => false

/-- Begins the commit at the head of the queue: the slot is copied and its write begins (R166, steps 1 and 2). While a
slot is being written its cells are neither the old nor the new (R164). No commit is begun once RESTART's reply has
been sent, as the restart then waits only for the commit in hand (R170). -/
def State.beginCommit (s : State) : State :=
  match s.commits, s.writing with
  | c :: _, none =>
    if s.restartTaken && s.restartReplySent then s
    else
      let saved := s.readSlot c.op
      { s.putSlot (saved.withCells true) with writing := some ⟨.write, saved⟩ }
  | _, _ => s

/-- Hands a commit to the store controller (R165). -/
def State.handCommit (s : State) (op : StoreOp) (by_ : Submitter) : State :=
  State.beginCommit { s with commits := s.commits ++ [⟨op, by_⟩] }

/-- The capture controller's commits in the commit queue (R132). -/
def State.captureCommits (s : State) : Nat := s.commits.countP fun c => c.submitter != .processor

/-- The write in progress is an erase: of the commit, or of a restored copy that was wholly erased (log 19). -/
def State.writeErases (s : State) : Bool :=
  match s.writing, s.commits with
  | some w, c :: _ =>
    match w.step with
    | .write | .rewrite => c.op.isErase
    | .restore => w.saved.isErased
    | .eraseCheck => false
  | _, _ => false

/-- Cuts off the write in progress: its slot stays as it stands part way, which is bad, or is wholly erased where an
erase had reached its last cell (R164, R167). -/
def State.cutWrite (s : State) (erased : Bool) : State :=
  match s.writing with
  | none => s
  | some w => if erased && s.writeErases then s.putSlot (w.saved.withCells false) else s

end Sys2Proof.Machine
end

