-- ==== Sys2Proof/Machine/Capture.lean ====
section
/-! DEFINITION. The capture controller (07): results and the end of a campaign, suspension, reaching entries, the
measuring phase, the hand-off list and the commit phase. -/

namespace Sys2Proof.Machine

/-! ## Entries and their results -/

/-- Changes the status of circuit `c`'s entry. -/
def State.setEntry (s : State) (c : Nat) (st : EntryStatus) : State :=
  { s with
    campaign := { s.campaign with
      entries := s.campaign.entries.map fun e => if e.circuit = c then { e with status := st } else e } }

/-- The number of entries whose result has a property. -/
def Campaign.countResult (c : Campaign) (p : CaptureResult → Bool) : Nat :=
  c.entries.countP fun e =>
    match e.status with
    | .finished r => p r
    | .unprocessed | .measuring _ | .committing _ => false

/-- The twelve counts of a CAPTURE_DONE notice (R138). -/
def Campaign.resultCounts (c : Campaign) : ResultCounts where
  written := c.countResult fun r => match r with | .written _ _ _ => true | _ => false
  noReturn := c.countResult fun r => match r with | .noReturn _ _ => true | _ => false
  wrongCode := c.countResult fun r => match r with | .wrongCode _ _ => true | _ => false
  unstableCapture := c.countResult fun r => match r with | .unstableCapture _ => true | _ => false
  clipped := c.countResult fun r => match r with | .clipped _ => true | _ => false
  insideRegion := c.countResult (· == .insideRegion)
  notDefined := c.countResult (· == .notDefined)
  unreadable := c.countResult (· == .unreadable)
  disturbed := c.countResult (· == .disturbed)
  laneFault := c.countResult (· == .laneFault)
  storeFault := c.countResult (· == .storeFault)
  cancelled := c.countResult (· == .cancelled)

/-- The campaign ends: CAPTURE_DONE is queued and the campaign becomes IDLE, its entries kept (R138). -/
def State.endCampaign (s : State) : State :=
  let c := s.campaign
  let s := s.queueReserved .captureDone (.captureDone c.entries.length c.resultCounts c.cancelled s.clock)
  { s with
    campaign := { s.campaign with
      state := .idle, host := false, window := false, progressOwed := false, deferredSuspend := false } }

/-- While a reason is present, the state follows the entries in flight (R134). -/
def Campaign.followReasons (c : Campaign) : Campaign :=
  if c.state ≠ .idle ∧ (c.host || c.window) then
    { c with state := if c.anyInFlight then .suspending else .suspended }
  else c

/-- Adds the reason HOST (R134). -/
def Campaign.addHost (c : Campaign) : Campaign := Campaign.followReasons { c with host := true }

/-- Adds the reason WINDOW (R28, R134). -/
def Campaign.addWindow (c : Campaign) : Campaign := Campaign.followReasons { c with window := true }

/-- Circuit `c`'s entry gains a result: progress owed is cleared, the campaign ends if every entry is FINISHED, and
otherwise a deferred suspend is acted on (R123, R135). -/
def State.finishEntry (s : State) (c : Nat) (result : CaptureResult) : State :=
  let s := s.setEntry c (.finished result)
  let s := { s with campaign := { s.campaign with progressOwed := false } }
  if s.campaign.allFinished then s.endCampaign
  else if s.campaign.deferredSuspend then
    { s with campaign := Campaign.addHost { s.campaign with deferredSuspend := false } }
  else { s with campaign := s.campaign.followReasons }

/-- Circuit `c`'s MEASURING entry returns to UNPROCESSED (R131), and the arbiter looks at its lane (R54). -/
def State.returnEntry (s : State) (c : Nat) : State :=
  let s := s.setEntry c .unprocessed
  State.lookAtCircuit { s with campaign := s.campaign.followReasons } c

/-! ## Entries without a definition, and resumption -/

/-- Reaches the UNPROCESSED entry of a slot without a definition, while the campaign is RUNNING (R126). -/
def State.reachUndefined (s : State) (c : Nat) : State :=
  let r := s.circuit c
  if s.campaign.state = .running ∧ s.namedUnprocessed c ∧ r.changing = false then
    if r.state = .empty then s.finishEntry c .notDefined
    else if r.state = .unreadable then s.finishEntry c .unreadable
    else s
  else s

/-- The campaign becomes RUNNING: the entries naming slots without a definition are reached, in the order of the list (DESIGN
CHOICE, log 38), and the arbiter looks at every lane (R126, R134). -/
def State.startRunning (s : State) : State :=
  let s := { s with campaign := { s.campaign with state := .running } }
  ((s.campaign.entries.map (·.circuit)).foldl State.reachUndefined s).lookAtAll

/-- A reason has been removed: a campaign that has none left becomes RUNNING (R134). -/
def State.resumeIfFree (s : State) : State :=
  let c := s.campaign
  if (c.state = .suspending ∨ c.state = .suspended) ∧ c.host = false ∧ c.window = false then s.startRunning else s

/-- The window stack has emptied: the reason WINDOW is removed (R28). -/
def State.stackEmptied (s : State) : State :=
  State.resumeIfFree { s with campaign := { s.campaign with window := false } }

/-- A window has opened: the reason WINDOW is added to a campaign in progress (R28). -/
def State.windowOpened (s : State) : State :=
  if s.campaign.state = .idle then s else { s with campaign := s.campaign.addWindow }

/-! ## Reaching entries for a lane, and the capture grant -/

/-- The entry for circuit `c` can be reached for lane `l`: UNPROCESSED, its circuit on the lane and IDLE without change
in progress (R127). -/
def State.reachable (s : State) (l : LaneId) (c : Nat) : Bool :=
  s.namedUnprocessed c && s.laneOf c == some l && (s.circuit c).state == .idle && !(s.circuit c).changing

/-- The arbiter asks for capture work for lane `l`: the entries for these circuits are reached in order, and the first
that can be measured is offered (R59, R127). -/
def State.askCapture (l : LaneId) : List Nat → State → State × Option Nat
  | [], s => (s, none)
  | c :: rest, s =>
    if s.campaign.state ≠ .running then (s, none)
    else if s.reachable l c then
      if s.insideRegion c then State.askCapture l rest (s.finishEntry c .insideRegion)
      else if (s.lane l).state = .faulted then State.askCapture l rest (s.finishEntry c .laneFault)
      else if (s.lane l).fresh ∧ s.campaign.pendingCommits < Config.grantPendingLimit then (s, some c)
      else (s, none)
    else State.askCapture l rest s

/-- The capture grant of an offered circuit (R128). -/
def State.grantCapture (s : State) (l : LaneId) (c : Nat) (channel : Nat) : State :=
  let p := s.profile
  let work : CaptureWork := ⟨c, p.burstLength, p.captureBursts, p.spreadLimit, []⟩
  ((s.setCircuitState c .capturing).setEntry c (.measuring l)).modifyLane l fun r =>
    { r.begin channel p.burstLength with work := .capture c, capture := some work }

/-! ## The commit phase -/

/-- Settles a circuit whose commit phase has ended: HELD, owed a release, disturbed, or IDLE (R10). -/
def State.settleCommit (s : State) (c : Nat) : State :=
  let r := s.circuit c
  let s := s.setCircuit c { r with releaseOwed := none, disturbed := false }
  if 0 < r.holds then s.setCircuitState c .held
  else
    match r.releaseOwed with
    | some .windowClose => s.appendEntry ⟨c, .windowClose, none, false, false⟩
    | some .windowExpiry => s.appendEntry ⟨c, .windowExpiry, none, true, false⟩
    | none => if r.disturbed then s.appendEntry (plainEntry c .sense) else s.makeIdle c

/-- The arbiter looks at the lanes when the pending-commit count falls below 8 (R132). -/
def State.lookIfBelow (s : State) (before : Nat) : State :=
  if Config.grantPendingLimit ≤ before ∧ s.campaign.pendingCommits < Config.grantPendingLimit then s.lookAtAll else s

/-- Hands waiting baselines to the commit queue while the controller has room there; one whose circuit now lies inside
the protected region is discarded (R132, R143). The number bounds the hand-offs made. -/
def State.handOn : Nat → State → State
  | 0, s => s
  | n + 1, s =>
    match s.campaign.handOff with
    | [] => s
    | h :: rest =>
      if s.captureCommits < Config.captureCommits then
        let before := s.campaign.pendingCommits
        let s := { s with campaign := { s.campaign with handOff := rest } }
        State.handOn n
          (if s.insideRegion h.circuit then
            ((s.finishEntry h.circuit .insideRegion).settleCommit h.circuit).lookIfBelow before
          else s.handCommit (.writeBaseline h.circuit h.baseline) (.capture h.circuit))
      else s

/-- Hands on what waits. -/
def State.handOnAll (s : State) : State := State.handOn s.campaign.handOff.length s

/-- A capture commit has concluded (R133). -/
def State.concludeCapture (s : State) (c : Nat) (b : Baseline) (success : Bool) : State :=
  let before := s.campaign.pendingCommits
  let s :=
    if success then
      (s.modifyCircuit c fun r => { r with baseline := some b }).finishEntry c
        (.written b.level b.delay b.generation)
    else s.finishEntry c .storeFault
  ((s.settleCommit c).lookIfBelow before).handOnAll

/-! ## The measuring phase -/

/-- The measuring phase ends on the lane, which stays TUNED and is looked at (R129, R130). -/
def State.releaseLane (s : State) (l : LaneId) : State := (s.modifyLane l Lane.endWork).lookAt l

/-- A capture ends with a failing result: its circuit returns to IDLE with its old baseline (R129). -/
def State.failCapture (s : State) (l : LaneId) (c : Nat) (result : CaptureResult) : State :=
  ((s.releaseLane l).finishEntry c result).makeIdle c

/-- The baseline that K kept bursts form (R105, R130). -/
def State.formedBaseline (s : State) (c : Nat) (d : Definition) (kept : List (Int × Nat)) : Baseline where
  level := meanLevel (kept.map (·.1))
  delay := meanDelay (kept.map (·.2))
  captureTime := s.clock
  generation := nextGeneration (s.circuit c).baseline
  lane := d.lane
  channel := d.channel
  code := d.code

/-- The K bursts are kept: the spread test, and the forming of the baseline (R130). -/
def State.completeCapture (s : State) (l : LaneId) (w : CaptureWork) (d : Definition) : State :=
  let spread := spreadOf (w.kept.map (·.1))
  if w.spreadLimit < spread then s.failCapture l w.circuit (.unstableCapture spread)
  else
    let b := s.formedBaseline w.circuit d w.kept
    let s := (s.releaseLane l).setEntry w.circuit (.committing l)
    State.handOnAll
      { s with campaign := { s.campaign with handOff := s.campaign.handOff ++ [⟨w.circuit, b⟩] } }

/-- A capture burst's result reaches the capture controller (R129). -/
def State.takeCaptureBurst (s : State) (l : LaneId) (w : CaptureWork) (d : Definition) (b : HandedBurst) : State :=
  let red := b.reduce
  let number := w.kept.length + 1
  match red.returned with
  | none => s.failCapture l w.circuit (.noReturn number red.mean)
  | some r =>
    if r.code ≠ d.code then s.failCapture l w.circuit (.wrongCode number r.code)
    else if red.clipped then s.failCapture l w.circuit (.clipped number)
    else
      let w := { w with kept := w.kept ++ [(levelOf r b.trim, pathDelay r.rawDelay b.offset)] }
      if w.kept.length < w.bursts then s.modifyLane l fun r => { r.burst with capture := some w }
      else s.completeCapture l w d

/-- Stops the lane that measures circuit `c`'s capture; the bursts kept so far are discarded (R79, R131). -/
def State.stopCapture (s : State) (c : Nat) : State :=
  match s.campaign.entryFor c with
  | some ⟨_, .measuring l⟩ => s.modifyLane l Lane.stop
  | _ => s

/-! ## Lane errors -/

/-- A tune or burst failure under a verification, a capture, or work that has already ended (R64, R76, R77). -/
def State.laneError (s : State) (l : LaneId) (kind : ErrorKind) : State :=
  let r := s.lane l
  match r.grant, r.capture with
  | some g, _ =>
    let s := s.setLane l (r.endWork.park.countError kind (some g.entry.circuit))
    (s.returnReservation .verdict).putBack g.entry
  | none, some w =>
    let s := s.setLane l (r.endWork.park.countError kind (some w.circuit))
    (s.returnEntry w.circuit).makeIdle w.circuit
  | none, none => s.setLane l (r.endWork.park.countError kind none)

end Sys2Proof.Machine
end

