-- ==== Sys2Proof/Machine/Verdicts.lean ====
section
/-! DEFINITION. The verdict unit (06): the classification of attempts, their combination, the verdict record, its
conclusion, and the attempt loop (R62). -/

namespace Sys2Proof.Machine

/-! ## Classifying an attempt (6.1) -/

/-- The rise tolerance that applies (R107). -/
def riseTolerance (o : Override) (p : Profile) : Nat := o.rise.getD p.rise

/-- The fall tolerance that applies (R107). -/
def fallTolerance (o : Override) (p : Profile) : Nat := o.fall.getD p.fall

/-- The delay tolerance that applies (R107). -/
def delayTolerance (o : Override) (p : Profile) : Nat := o.delay.getD p.delay

/-- Tests 2 to 6 of R106, for a burst that returned with a code and, against a baseline, two deltas. -/
def classOf (p : Profile) (d : Definition) (code : Nat) (deltas : Option (Int × Int)) : AttemptClass :=
  if code ≠ d.code then .misrouted
  else
    match deltas with
    | none => .continuityOnly
    | some (dl, dd) =>
      if (riseTolerance d.override p : Int) < dl ∨ (fallTolerance d.override p : Int) < -dl then .lossShift
      else if delayTolerance d.override p < dd.natAbs then .pathChanged
      else .pass

/-- The deltas of a returned attempt, where the circuit has a baseline (R100). -/
def deltasOf (base : Option Baseline) (level : Int) (delay : Nat) : Option (Int × Int) :=
  base.map fun b => (deltaLevel b level, deltaDelay b delay)

/-- The classified attempt of a burst (R106, R109). -/
def classify (p : Profile) (d : Definition) (base : Option Baseline) (b : HandedBurst) : Attempt :=
  let red := b.reduce
  match red.returned with
  | none => ⟨.noReturn, red.clipped, b.stale, none, none, none, none, none⟩
  | some r =>
    let level := levelOf r b.trim
    let delay := pathDelay r.rawDelay b.offset
    let deltas := deltasOf base level delay
    let cls := classOf p d r.code deltas
    { cls := cls, clipped := red.clipped, stale := b.stale, found := if cls = .misrouted then some r.code else none,
      level := some level, delay := some delay, deltaLevel := deltas.map (·.1), deltaDelay := deltas.map (·.2) }

/-- The class ends the attempt loop (R62). -/
def AttemptClass.ends : AttemptClass → Bool
  | .pass | .continuityOnly => true
  | .noReturn | .misrouted | .lossShift | .pathChanged => false

/-- The verdict kind that is named like a class (12.1). -/
def AttemptClass.kind : AttemptClass → VerdictKind
  | .pass => .pass
  | .continuityOnly => .continuityOnly
  | .noReturn => .noReturn
  | .misrouted => .misrouted
  | .lossShift => .lossShift
  | .pathChanged => .pathChanged

/-! ## Combining the attempts (6.2) -/

/-- The verdict kind of the attempts before the last and the last (R110). -/
def combine (earlier : List AttemptClass) (last : AttemptClass) : VerdictKind :=
  if last.ends then last.kind else if earlier.all (· == last) then last.kind else .unstable

/-! ## The verdict record (6.4) -/

/-- The qualifiers of a verdict made from attempts (R112). -/
def qualifiersOf (e : QueueEntry) (attempts : List Attempt) : Qualifiers where
  clipped := attempts.any (·.clipped)
  degraded := attempts.any (·.stale)
  expiredWindow := e.expired
  spanEvent := e.spanEvent
  laneFault := false

/-- The record of a verification whose attempts end with `last` (R111, R113, R114). -/
def State.verdictOf (s : State) (e : QueueEntry) (lane : LaneId) (earlier : List Attempt) (last : Attempt) : Verdict :=
  let kind := combine (earlier.map (·.cls)) last.cls
  let found := if kind = .misrouted then last.found else none
  { kind := kind
    qualifiers := qualifiersOf e (earlier ++ [last])
    cause := e.cause
    closureId := e.tag
    classes := (earlier ++ [last]).map (·.cls)
    lane := lane
    time := s.clock
    level := last.level
    deltaLevel := last.deltaLevel
    delay := last.delay
    deltaDelay := last.deltaDelay
    found := found
    otherCircuit := found.bind s.codeOwner
    generation := (s.circuit e.circuit).baseline.map (·.generation) }

/-- The record of a faulted-lane dispatch (R115). -/
def State.unmeasurableOf (s : State) (e : QueueEntry) (lane : LaneId) : Verdict where
  kind := .unmeasurable
  qualifiers := { expiredWindow := e.expired, spanEvent := e.spanEvent, laneFault := true }
  cause := e.cause
  closureId := e.tag
  classes := []
  lane := lane
  time := s.clock
  level := none
  deltaLevel := none
  delay := none
  deltaDelay := none
  found := none
  otherCircuit := none
  generation := none

/-! ## Concluding a verification (6.5) -/

/-- Quiet pass withholds the notice of a PASS or CONTINUITY_ONLY verdict (R117). -/
def Profile.withholds (p : Profile) (kind : VerdictKind) : Bool :=
  p.quietPass && (kind == .pass || kind == .continuityOnly)

/-- Steps 1 to 3 of R116: the circuit table, the closure record, the link. -/
def State.concludeVerdict (s : State) (c : Nat) (v : Verdict) : State :=
  let s := (s.modifyCircuit c fun r => { r with lastVerdict := some v }).makeIdle c
  let s := s.countVerdict v.closureId v.kind v.qualifiers.spanEvent
  if s.profile.withholds v.kind then s.returnReservation .verdict
  else s.queueReserved .verdict (.verdict c v)

/-- A final verdict ends the grant of lane `l`, which stays TUNED and is looked at (R61, R62, R116). -/
def State.endGrant (s : State) (l : LaneId) (g : Grant) (earlier : List Attempt) (last : Attempt) : State :=
  let v := s.verdictOf g.entry l earlier last
  ((s.concludeVerdict g.entry.circuit v).modifyLane l Lane.endWork).lookAt l

/-- A verification burst's result reaches the verdict unit: the attempt is classified, and the loop starts another burst
or ends (R62). -/
def State.takeAttempt (s : State) (l : LaneId) (g : Grant) (d : Definition) (b : HandedBurst) : State :=
  let a := classify s.profile d (s.circuit g.entry.circuit).baseline b
  if a.cls.ends ∨ g.retries ≤ g.attempts.length then s.endGrant l g g.attempts a
  else
    s.modifyLane l fun r =>
      { r.burst with grant := some { g with attempts := g.attempts ++ [a], phase := .measuring } }

/-- The verdict of a dispatch on a FAULTED lane (R58, R115): the entry leaves the queue with a reservation taken. -/
def State.dispatchFaulted (s : State) (l : LaneId) (e : QueueEntry) : State :=
  let s := (s.reserve .verdict).dropEntry e.circuit
  s.concludeVerdict e.circuit (s.unmeasurableOf e l)

end Sys2Proof.Machine
end

