-- ==== Sys2Proof/Machine/Arbiter.lean ====
section
/-! DEFINITION. The lane arbiter (03 section 3.3): verification grants, faulted-lane dispatches, capture grants, reuse and
parking. It runs at the end of every command over the lanes in `looks` (log 7). -/

namespace Sys2Proof.Machine

/-- Verification work for lane `l`: the entry passes into the lane's grant with a reservation, and the circuit becomes
PROBING (R57, R61). -/
def State.grantVerification (s : State) (l : LaneId) (e : QueueEntry) (channel : Nat) : State :=
  let p := s.profile
  let s := ((s.reserve .verdict).dropEntry e.circuit).setCircuitState e.circuit .probing
  s.modifyLane l fun r =>
    { r.begin channel p.burstLength with
      work := .verification e.circuit
      grant := some ⟨e, p.burstLength, p.retries, [], if r.state = .tuned then .measuring else .tuning⟩ }

/-- The channel of circuit `c`'s definition. -/
def State.channelOf (s : State) (c : Nat) : Option Nat := (s.circuit c).definition.map (·.channel)

/-- Lane `l` may take work on a channel: from PARKED on any, and from TUNED on the channel it holds (R61). -/
def Lane.takes (r : Lane) (channel : Nat) : Bool := r.state == .parked || (r.tunedAtEnd && r.channel == channel)

/-- The lane is served at this look: it is ready and nothing is withheld by R55. -/
def State.served (s : State) (l : LaneId) : Bool := (s.lane l).ready && s.withheldByLane l == .none

/-- One entry at its turn, with the lanes that are given no more at this look: a lane whose oldest entry found no FREE
notice entry, is on another channel, or has been granted (R56, R57, R58, R61). -/
def State.offerEntry (looks : List LaneId) (acc : State × List LaneId) (e : QueueEntry) : State × List LaneId :=
  let (s, done) := acc
  match s.laneOf e.circuit, s.channelOf e.circuit with
  | some l, some channel =>
    if looks.contains l && !done.contains l && s.served l then
      if s.hasFree = false then (s, l :: done)
      else if (s.lane l).state = .faulted then (s.dispatchFaulted l e, done)
      else if (s.lane l).takes channel then (s.grantVerification l e channel, l :: done)
      else (s, l :: done)
    else (s, done)
  | _, _ => (s, done)

/-- The verification work of the lanes looked at, by their oldest entries, nearest the head first (R56). -/
def State.offerQueue (s : State) : State := (s.queue.foldl (State.offerEntry s.looks) (s, [])).1

/-- The capture work of lane `l`, looked at with no queue entry of its own (R59, R61, R127). -/
def State.offerCapture (s : State) (l : LaneId) : State :=
  if s.served l && !s.hasEntry l then
    let (s, offered) := State.askCapture l (s.campaign.entries.map (·.circuit)) s
    match offered with
    | some c =>
      match s.channelOf c with
      | some channel => if (s.lane l).takes channel then s.grantCapture l c channel else s
      | none => s
    | none => s
  else s

/-- A lane that is TUNED at the end of its work and received nothing parks at once (R54, R61). -/
def State.parkIfIdle (s : State) (l : LaneId) : State := if (s.lane l).tunedAtEnd then s.modifyLane l Lane.park else s

/-- The lanes that wait for a look, in lane order. -/
def State.lookedAt (s : State) : List LaneId := allLanes.filter s.looks.contains

/-- The capture work of the lanes looked at (R59). -/
def State.offerCaptures (s : State) : State := s.lookedAt.foldl State.offerCapture s

/-- The lanes left TUNED at the end of their work park (R61). -/
def State.parkIdle (s : State) : State := allLanes.foldl State.parkIfIdle s

/-- The arbiter looks at the lanes that wait for it (R54, log 7). -/
def State.arbitrate (s : State) : State := { s.offerQueue.offerCaptures.parkIdle with looks := [] }

end Sys2Proof.Machine
end

