-- ==== Sys2Proof/Machine/Operands.lean ====
section
/-! DEFINITION. The operands of requests: the bytes of a payload read as fields (R180, R188, 12.2, 12.3, 12.6, 12.9), and
the checks and clamps that turn fields into values. -/

namespace Sys2Proof.Machine

/-! ## Bytes, least significant first (R188) -/

/-- The byte at an offset of a payload. -/
def u8At (p : List U8) (i : Nat) : U8 := p.getD i 0

/-- The two-byte field at an offset. -/
def u16At (p : List U8) (i : Nat) : U16 := u8At p (i + 1) ++ u8At p i

/-- The four-byte field at an offset. -/
def u32At (p : List U8) (i : Nat) : U32 := u16At p (i + 2) ++ u16At p i

/-- The two-byte fields from an offset on. -/
def u16sAt (p : List U8) (i n : Nat) : List U16 := (List.range n).map fun k => u16At p (i + 2 * k)

/-- The `k`-th id of a packed list that begins at an offset: two ids to a 24-bit group, the low 12 bits first (12.3). -/
def packedIdAt (p : List U8) (i k : Nat) : U12 :=
  let g := i + 3 * (k / 2)
  let group : BitVec 24 := u8At p (g + 2) ++ u16At p g
  if k % 2 = 0 then group.extractLsb' 0 12 else group.extractLsb' 12 12

/-! ## Payloads (R180, step 2; R188) -/

/-- The fields of a payload that holds the bytes it needs. -/
def fieldsOf {α : Type} (p : List U8) (needs : Nat) (f : α) : Payload α := if p.length < needs then .short else .fields f

/-- SET_TIME. -/
def parseSetTime (p : List U8) : Payload U32 := fieldsOf p 4 (u32At p 0)

/-- SET_PROFILE (12.6). -/
def parseSetProfile (p : List U8) : Payload SetProfileFields :=
  fieldsOf p 17
    { burstLength := u8At p 0, retries := u8At p 1, quietPass := u8At p 2, captureBursts := u8At p 3,
      interval := u8At p 4, floor := u16At p 5, rise := u16At p 7, fall := u16At p 9, spread := u16At p 11,
      delay := u32At p 13 }

/-- RECALIBRATE. -/
def parseLane (p : List U8) : Payload U8 := fieldsOf p 1 (u8At p 0)

/-- DEFINE_CIRCUIT (12.2). A span count outside 1–12 leaves the bytes after it unread, and the list empty. -/
def parseDefine (p : List U8) : Payload DefineFields :=
  let count := (u8At p 15).toNat
  let taken := if 1 ≤ count ∧ count ≤ 12 then count else 0
  fieldsOf p (16 + 2 * taken)
    { id := u16At p 0, lane := u8At p 2, channel := u8At p 3, code := u16At p 4, presence := u8At p 6,
      rise := u16At p 7, fall := u16At p 9, delay := u32At p 11, spans := u16sAt p 16 taken }

/-- The requests that carry one id: DELETE_CIRCUIT, CLEAR_BASELINE, GET_CIRCUIT, PROBE_NOW, CLOSE_WINDOW, ABORT_WINDOW. -/
def parseId (p : List U8) : Payload U16 := fieldsOf p 2 (u16At p 0)

/-- OPEN_WINDOW. -/
def parseOpen (p : List U8) : Payload OpenFields :=
  let count := (u8At p 6).toNat
  fieldsOf p (7 + 2 * count) { id := u16At p 0, duration := u32At p 2, spans := u16sAt p 7 count }

/-- EXTEND_WINDOW. -/
def parseExtend (p : List U8) : Payload ExtendFields := fieldsOf p 6 { id := u16At p 0, seconds := u32At p 2 }

/-- START_CAPTURE (12.3). A count that does not fit the option leaves the bytes after it unread (log 18). -/
def parseStart (p : List U8) : Payload StartFields :=
  let count := (u16At p 1).toNat
  let taken := if u8At p 0 = 0 ∧ 1 ≤ count ∧ count ≤ 512 then count else 0
  fieldsOf p (3 + 3 * ((taken + 1) / 2))
    { option := u8At p 0, count := u16At p 1, ids := (List.range taken).map (packedIdAt p 3) }

/-- SET_PROTECTION. -/
def parseProtect (p : List U8) : Payload ProtectFields :=
  fieldsOf p 4 { side := u8At p 0, n := u8At p 1, complement := u8At p 2, level := u8At p 3 }

/-- SET_SENSE. -/
def parseSetSense (p : List U8) : Payload SetSenseFields :=
  fieldsOf p 8
    { line := u8At p 0, enabled := u8At p 1, mode := u8At p 2, polarity := u8At p 3, bothEdges := u8At p 4,
      action := u8At p 5, binding := u16At p 6 }

/-- CLEAR_SENSE. A line count outside 1–16 leaves the bytes after it unread, and the list empty. -/
def parseClearSense (p : List U8) : Payload (List U8) :=
  let count := (u8At p 0).toNat
  let taken := if 1 ≤ count ∧ count ≤ 16 then count else 0
  fieldsOf p (1 + taken) ((List.range taken).map fun k => u8At p (1 + k))

/-- The request that a code and a payload spell (R180, steps 1 and 2; 12.1, 12.9). -/
def requestOf (code : U8) (p : List U8) : Request :=
  if code = 0x01 then .identify
  else if code = 0x02 then .setTime (parseSetTime p)
  else if code = 0x03 then .restart
  else if code = 0x10 then .setProfile (parseSetProfile p)
  else if code = 0x11 then .getProfile
  else if code = 0x12 then .getLanes
  else if code = 0x13 then .recalibrate (parseLane p)
  else if code = 0x20 then .defineCircuit (parseDefine p)
  else if code = 0x21 then .deleteCircuit (parseId p)
  else if code = 0x22 then .clearBaseline (parseId p)
  else if code = 0x23 then .getCircuit (parseId p)
  else if code = 0x24 then .probeNow (parseId p)
  else if code = 0x25 then .getQueue
  else if code = 0x30 then .openWindow (parseOpen p)
  else if code = 0x31 then .extendWindow (parseExtend p)
  else if code = 0x32 then .closeWindow (parseId p)
  else if code = 0x33 then .abortWindow (parseId p)
  else if code = 0x34 then .getWindows
  else if code = 0x40 then .permit
  else if code = 0x41 then .withdrawPermit
  else if code = 0x42 then .startCapture (parseStart p)
  else if code = 0x43 then .suspendCapture
  else if code = 0x44 then .resumeCapture
  else if code = 0x45 then .cancelCapture
  else if code = 0x46 then .getCapture
  else if code = 0x50 then .setProtection (parseProtect p)
  else if code = 0x51 then .getProtection
  else if code = 0x60 then .setSense (parseSetSense p)
  else if code = 0x61 then .clearSense (parseClearSense p)
  else if code = 0x62 then .getSense
  else .unknown code

/-! ## Values -/

/-- The nearer end of a range for a value outside it (R2, R86). -/
def clamp (lo hi v : Nat) : Nat := if v < lo then lo else if hi < v then hi else v

/-- A lane number 0–7. -/
def laneOfNat (n : Nat) : Option LaneId := if h : n < 8 then some ⟨n, h⟩ else none

/-- A sense line number 0–15. -/
def lineOfNat (n : Nat) : Option LineId := if h : n < 16 then some ⟨n, h⟩ else none

/-- An enumerated byte of two values (R188). -/
def flagOf (b : U8) : Option Bool := if b = 0 then some false else if b = 1 then some true else none

/-- A span id is 1–256. -/
def spanInRange (p : Nat) : Bool := 1 ≤ p && p ≤ Config.maxSpan

/-- A tolerance of the override as it is stored: present by its presence bit, and clamped (R2). -/
def toleranceOf (present : Bool) (lo hi v : Nat) : Option Nat := if present then some (clamp lo hi v) else none

end Sys2Proof.Machine

namespace Sys2Proof

open Machine

/-- The override of a DEFINE_CIRCUIT, clamped (R2). -/
def DefineFields.override (f : DefineFields) : Override where
  rise := toleranceOf (f.presence.getLsbD 0) 10 2000 f.rise.toNat
  fall := toleranceOf (f.presence.getLsbD 1) 10 2000 f.fall.toNat
  delay := toleranceOf (f.presence.getLsbD 2) 20 100000 f.delay.toNat

/-- A tolerance that is present was outside its range (R2). -/
def DefineFields.clamped (f : DefineFields) : Bool :=
  (f.presence.getLsbD 0 && clamp 10 2000 f.rise.toNat != f.rise.toNat) ||
  (f.presence.getLsbD 1 && clamp 10 2000 f.fall.toNat != f.fall.toNat) ||
  (f.presence.getLsbD 2 && clamp 20 100000 f.delay.toNat != f.delay.toNat)

/-- Check 1 of R14: the definition that the fields name. A presence byte with a bit beyond its three is BAD_FIELD by R188, and
is refused by this check (DESIGN CHOICE, log 46). -/
def DefineFields.definition (f : DefineFields) : Option Definition :=
  let spans := f.spans.map BitVec.toNat
  match laneOfNat f.lane.toNat with
  | none => none
  | some lane =>
    if circuitInRange f.id.toNat ∧ 1 ≤ f.channel.toNat ∧ f.channel.toNat ≤ Config.maxChannel ∧
        1 ≤ f.code.toNat ∧ f.code.toNat ≤ Config.maxCode ∧ f.presence.toNat < 8 ∧
        1 ≤ spans.length ∧ spans.length ≤ Config.maxSpansOfCircuit ∧ spans.all spanInRange ∧ spans.Nodup then
      some { lane := lane, channel := f.channel.toNat, code := f.code.toNat, spans := spans, override := f.override }
    else none

/-- The merged span set of an OPEN_WINDOW, where its spans pass check 1 of R25. -/
def OpenFields.spanSet (f : OpenFields) : Option (List Nat) :=
  let spans := f.spans.map BitVec.toNat
  if 1 ≤ f.id.toNat ∧ spans ≠ [] ∧ spans.all spanInRange ∧ (ascending spans).length ≤ Config.maxSpansOfWindow then
    some (ascending spans)
  else none

/-- Check 1 of R86: a burst length of 8, 16, 32 or 64, and a quiet pass of off or on. -/
def SetProfileFields.takes (f : SetProfileFields) : Bool :=
  [8, 16, 32, 64].contains f.burstLength.toNat && (flagOf f.quietPass).isSome

/-- The profile that a SET_PROFILE names, clamped (R86, step 2). -/
def SetProfileFields.profile (f : SetProfileFields) : Profile where
  burstLength := f.burstLength.toNat
  floor := clamp 1 4095 f.floor.toNat
  rise := clamp 10 2000 f.rise.toNat
  fall := clamp 10 2000 f.fall.toNat
  delay := clamp 20 100000 f.delay.toNat
  retries := clamp 0 3 f.retries.toNat
  interval := clamp 1 60 f.interval.toNat
  captureBursts := clamp 1 8 f.captureBursts.toNat
  spreadLimit := clamp 10 500 f.spread.toNat
  quietPass := f.quietPass == 1

/-- At least one setting was clamped (R86). -/
def SetProfileFields.clamped (f : SetProfileFields) : Bool :=
  clamp 1 4095 f.floor.toNat != f.floor.toNat || clamp 10 2000 f.rise.toNat != f.rise.toNat ||
  clamp 10 2000 f.fall.toNat != f.fall.toNat || clamp 20 100000 f.delay.toNat != f.delay.toNat ||
  clamp 0 3 f.retries.toNat != f.retries.toNat || clamp 1 60 f.interval.toNat != f.interval.toNat ||
  clamp 1 8 f.captureBursts.toNat != f.captureBursts.toNat || clamp 10 500 f.spread.toNat != f.spread.toNat

/-- The list of a START_CAPTURE that passes check 1 of R124: `none` for ALL_UNREFERENCED. -/
def StartFields.choice (f : StartFields) : Option (Option (List Nat)) :=
  let ids := f.ids.map BitVec.toNat
  if f.option = 0 ∧ ids ≠ [] ∧ ids.length ≤ Config.maxCircuit ∧ ids.all circuitInRange then some (some ids)
  else if f.option = 1 ∧ f.count = 0 then some none
  else none

/-- Check 1 of R146: the region and the level that a SET_PROTECTION names. -/
def ProtectFields.request (f : ProtectFields) : Option (Region × LockLevel) :=
  match flagOf f.side, flagOf f.complement with
  | some side, some complement =>
    if f.n.toNat ≤ 32 ∧ f.level.toNat ≤ 2 then
      some ({ side := if side then .high else .low, n := f.n.toNat, complement := complement },
        if f.level = 0 then .openLevel else if f.level = 1 then .line else .session)
    else none
  | _, _ => none

/-- The check of R154: the line and the configuration that a SET_SENSE names, on the record as it stands. -/
def SetSenseFields.configure (f : SetSenseFields) : Option (LineId × (SenseLine → SenseLine)) :=
  match lineOfNat f.line.toNat, flagOf f.enabled, flagOf f.mode, flagOf f.polarity, flagOf f.bothEdges,
      flagOf f.action with
  | some line, some enabled, some level, some low, some both, some verify =>
    if f.binding.toNat ≤ Config.maxSpan ∧ !(level && both) then
      some (line, fun r =>
        { r with
          enabled := enabled, mode := if level then .level else .edge, polarity := if low then .low else .high,
          bothEdges := both, span := f.binding.toNat, action := if verify then .verify else .logOnly })
    else none
  | _, _, _, _, _, _ => none

end Sys2Proof

namespace Sys2Proof.Machine

/-- The lines that a CLEAR_SENSE names, each once and in ascending order, where all are 0–15 and there is one (R155,
12.9). -/
def clearedLines (lines : List U8) : Option (List LineId) :=
  let ns := lines.map BitVec.toNat
  if ns ≠ [] ∧ ns.all (· < 16) then some (allLines.filter fun l => ns.contains l.val) else none

end Sys2Proof.Machine
end

