-- ==== Sys2Proof/Machine/Protection.lean ====
section
/-! DEFINITION. The protection unit (08): the permit, the protected region and the lock level. -/

namespace Sys2Proof.Machine

/-- The permit is cleared (R121). -/
def State.usePermit (s : State) : State := { s with permit := false }

/-- PERMIT (R120). -/
def State.handlePermit (s : State) (tag : U8) : State :=
  State.answer { s with permit := true } tag 0x40 .ok (.permit true)

/-- WITHDRAW_PERMIT (R120). -/
def State.handleWithdrawPermit (s : State) (tag : U8) : State := s.usePermit.answer tag 0x41 .ok (.permit false)

/-- Check 2 of R146: the level in force forbids the change. -/
def State.lockedNow (s : State) : Bool :=
  match s.levelInForce with
  | .openLevel => false
  | .line => s.refLock
  | .session => true

/-- The record that a taken SET_PROTECTION writes (R146, step 2). -/
def State.recordToWrite (s : State) (region : Region) (level : LockLevel) : ProtectionRecord where
  region := region
  level :=
    match level with
    | .openLevel => .openLevel
    | .line => .line
    | .session => s.storedLevel

/-- SET_PROTECTION, as far as its commit (R146). A LOCKED reply carries the present level of REF_LOCK at SESSION too, where
the check itself does not read it (DESIGN CHOICE, log 39). -/
def State.handleSetProtection (s : State) (tag : U8) (f : ProtectFields) : State :=
  match f.request with
  | none => s.usePermit.answer tag 0x50 .badField .none
  | some (region, level) =>
    if s.lockedNow then s.answer tag 0x50 .locked (.locked s.levelInForce s.refLock)
    else if s.permit = false then s.answer tag 0x50 .noPermit .none
    else
      let record := s.recordToWrite region level
      State.handCommit
        { s with
          regionBeingWritten := some region
          processor := .committing tag (.protect record (level == .session)) }
        (.writeProtection record) .processor

/-- SET_PROTECTION's commit has concluded (R146, step 3). -/
def State.finishProtect (s : State) (tag : U8) (p : ProtectionRecord) (session success : Bool) : State :=
  let s := State.usePermit { s with regionBeingWritten := none }
  if success then
    let s := { s with region := p.region, storedLevel := p.level, overlay := s.overlay || session }
    s.answer tag 0x50 .ok (.protectionSet s.region s.levelInForce)
  else s.answer tag 0x50 .storeFault .none

/-- GET_PROTECTION (R148). -/
def State.handleGetProtection (s : State) (tag : U8) : State :=
  s.answer tag 0x51 .ok
    (.protection ⟨s.region, s.levelInForce, s.storedLevel, s.refLock, s.permit, s.region.slotsInside⟩)

end Sys2Proof.Machine
end

