-- ==== Sys2Proof/Machine/CaptureRequests.lean ====
section
/-! DEFINITION. The capture controller's requests (07): START_CAPTURE, SUSPEND_CAPTURE, RESUME_CAPTURE, CANCEL_CAPTURE and
GET_CAPTURE. -/

namespace Sys2Proof.Machine

/-! ## START_CAPTURE (7.3) -/

/-- The list of ALL_UNREFERENCED: every defined slot that is not CAPTURING and has no baseline, ascending (R124). -/
def State.unreferenced (s : State) : List Nat :=
  (s.circuits.filter fun e => e.2.defined && e.2.state != .capturing && e.2.baseline.isNone).map (·.1)

/-- Checks 2 to 4 of R124. -/
def State.startRefusal (s : State) : Option (Status × ReplyBody) :=
  if s.campaign.state ≠ .idle then
    some (.captureActive, .campaignState s.campaign.state s.campaign.host s.campaign.window)
  else if s.permit = false then some (.noPermit, .none)
  else if s.hasFree = false then some (.noticesFull, .none)
  else none

/-- A campaign over a list, each entry UNPROCESSED (R125, step 3). -/
def freshCampaign (ids : List Nat) : Campaign := { entries := ids.map fun c => ⟨c, .unprocessed⟩ }

/-- A START_CAPTURE whose checks pass, in the order of R125; answers the state that its reply carries. -/
def State.startCampaign (s : State) (ids : List Nat) : State × CampaignState :=
  let s := State.reserve { s with campaign := freshCampaign ids } .captureDone
  if ids = [] then (s.endCampaign, .idle)
  else if s.stack = [] then (s.startRunning, .running)
  else ({ s with campaign := { s.campaign with state := .suspended, window := true } }, .suspended)

/-- START_CAPTURE. -/
def State.handleStartCapture (s : State) (tag : U8) (f : StartFields) : State :=
  match f.choice with
  | none => s.usePermit.answer tag 0x42 .badField .none
  | some choice =>
    match s.startRefusal with
    | some (status, body) =>
      (if status = .noPermit then s else s.usePermit).answer tag 0x42 status body
    | none =>
      let ids := match choice with | some named => keepFirst named | none => s.unreferenced
      let (s, started) := s.startCampaign ids
      let concluded := s.campaign.entries.countP fun e => e.status.isFinished
      s.usePermit.answer tag 0x42 .accepted (.captureStarted ids.length started concluded)

/-! ## Suspension, resumption and cancelling (7.7) -/

/-- The reply of SUSPEND_CAPTURE and RESUME_CAPTURE (R135). -/
def State.answerReasons (s : State) (tag code : U8) : State :=
  s.answer tag code .ok
    (.captureReasons s.campaign.state s.campaign.host s.campaign.window s.campaign.deferredSuspend)

/-- A SUSPEND_CAPTURE taken (R135). -/
def State.suspend (s : State) : State :=
  let c := s.campaign
  if c.host then s
  else if c.progressOwed then { s with campaign := { c with deferredSuspend := true } }
  else { s with campaign := c.addHost }

/-- SUSPEND_CAPTURE. -/
def State.handleSuspend (s : State) (tag : U8) : State :=
  if s.campaign.state = .idle then s.answer tag 0x43 .noCapture .none else s.suspend.answerReasons tag 0x43

/-- A RESUME_CAPTURE taken (R135). -/
def State.resume (s : State) : State :=
  let c := s.campaign
  if c.host then
    State.resumeIfFree { s with campaign := { c with host := false, progressOwed := true, deferredSuspend := false } }
  else s

/-- RESUME_CAPTURE. -/
def State.handleResume (s : State) (tag : U8) : State :=
  if s.campaign.state = .idle then s.answer tag 0x44 .noCapture .none else s.resume.answerReasons tag 0x44

/-- Cancels the MEASURING entry of circuit `c` (R136, step 2). -/
def State.cancelMeasuring (s : State) (c : Nat) : State := ((s.stopCapture c).finishEntry c .cancelled).makeIdle c

/-- The circuits whose entries have a status. -/
def Campaign.withStatus (c : Campaign) (p : EntryStatus → Bool) : List Nat :=
  (c.entries.filter fun e => p e.status).map (·.circuit)

/-- A CANCEL_CAPTURE taken; answers the number of entries cancelled (R136). -/
def State.cancel (s : State) : State × Nat :=
  let s := { s with campaign := { s.campaign with cancelled := true } }
  let measuring := s.campaign.withStatus EntryStatus.isMeasuring
  let waiting := s.campaign.withStatus (· == .unprocessed)
  let s := measuring.foldl State.cancelMeasuring s
  (waiting.foldl (fun s c => s.finishEntry c .cancelled) s, measuring.length + waiting.length)

/-- CANCEL_CAPTURE. -/
def State.handleCancel (s : State) (tag : U8) : State :=
  if s.campaign.state = .idle then s.answer tag 0x45 .noCapture .none
  else
    let (s, n) := s.cancel
    s.answer tag 0x45 .ok (.cancelledEntries n)

/-- What GET_CAPTURE returns of the campaign (R139). -/
def Campaign.report (c : Campaign) : CaptureReport where
  state := c.state
  host := c.host
  window := c.window
  progressOwed := c.progressOwed
  deferredSuspend := c.deferredSuspend
  cancelled := c.cancelled
  pendingCommits := c.pendingCommits
  entries := c.entries

/-- GET_CAPTURE (R139). -/
def State.handleGetCapture (s : State) (tag : U8) : State := s.answer tag 0x46 .ok (.capture s.campaign.report)

end Sys2Proof.Machine
end

