-- ==== Sys2Proof/Machine/Definitions.lean ====
section
/-! DEFINITION. The circuit table's requests (01): DEFINE_CIRCUIT, DELETE_CIRCUIT and CLEAR_BASELINE with their commits,
GET_CIRCUIT and PROBE_NOW. -/

namespace Sys2Proof.Machine

/-! ## Shared checks -/

/-- The states that a change of a circuit finds busy or held, with the refusal (R14, R17, R18). -/
def CircuitState.changeRefusal : CircuitState → Option Status
  | .pending | .probing | .capturing => some .circuitBusy
  | .held => some .circuitHeld
  | .empty | .idle | .unreadable => none

/-- The first refusal of a list of checks, each given with the condition on which it fails. -/
def firstRefusal : List (Bool × Status) → Option Status
  | [] => none
  | (fails, status) :: rest => if fails then some status else firstRefusal rest

/-- Sets change in progress on the slot and hands on the first commit of a request, which waits for it (R12, R15). -/
def State.beginJob (s : State) (id : Nat) (tag : U8) (job : Job) (op : StoreOp) : State :=
  let s := s.modifyCircuit id fun r => { r with changing := true }
  State.handCommit { s with processor := .committing tag job } op .processor

/-- Clears change in progress: an UNPROCESSED capture entry of the slot is reached where the slot has no definition, and
otherwise the arbiter looks at the circuit's lane (R12, R54, R126). -/
def State.endChange (s : State) (id : Nat) : State :=
  let s := (s.modifyCircuit id fun r => { r with changing := false }).reachUndefined id
  if s.namedUnprocessed id then s.lookAtCircuit id else s

/-! ## DEFINE_CIRCUIT (1.4) -/

/-- The kind of a DEFINE_CIRCUIT against the slot as it stands (R13). -/
def Circuit.defineKind (r : Circuit) (d : Definition) : DefineKind :=
  match r.definition with
  | none => .new
  | some old =>
    if old.lane = d.lane ∧ old.channel = d.channel ∧ old.code = d.code ∧ old.spans = d.spans then .overrideOnly
    else if r.baseline.isSome then .discarding
    else .noBaseline

/-- The owner of the code, where it is another circuit (R14, check 2). -/
def State.otherOwner (s : State) (id code : Nat) : Option Nat :=
  match s.codeOwner code with
  | some o => if o = id then none else some o
  | none => none

/-- Checks 3 to 6 of R14. -/
def State.defineRefusal (s : State) (id : Nat) (kind : DefineKind) : Option Status :=
  let r := s.circuit id
  match r.state.changeRefusal with
  | some status => some status
  | none =>
    firstRefusal
      [(r.state != .empty && s.insideRegion id, .insideRegion), (kind == .discarding && !s.permit, .noPermit)]

/-- A request of the kind that consumes the permit clears it (R13, R121). -/
def State.spendIf (s : State) (uses : Bool) : State := if uses then s.usePermit else s

/-- DEFINE_CIRCUIT, as far as its first commit (R13, R14, R15). -/
def State.handleDefine (s : State) (tag : U8) (f : DefineFields) : State :=
  match f.definition with
  | none => s.answer tag 0x20 .badField .none
  | some d =>
    let id := f.id.toNat
    let kind := (s.circuit id).defineKind d
    match s.otherOwner id d.code with
    | some o => (s.spendIf (kind == .discarding)).answer tag 0x20 .codeInUse (.codeOwner o)
    | none =>
      match s.defineRefusal id kind with
      | some status => (s.spendIf (kind == .discarding && status != .noPermit)).answer tag 0x20 status .none
      | none => s.beginJob id tag (.define id d kind f.clamped false) (.writeDefinition id d)

/-- The old definition leaves the indexes (R16, step 1). -/
def State.unindexOld (s : State) (id code : Nat) : Option Definition → State
  | none => s
  | some old =>
    let s := s.unindexSpans id old.spans
    if old.code = code then s else s.disownCode old.code

/-- The record as the new definition leaves it (R16, steps 2, 3, 5 and 6). -/
def Circuit.redefined (r : Circuit) (d : Definition) (kind : DefineKind) (holds : Nat) : Circuit :=
  { r with
    state := if holds = 0 then .idle else .held
    definition := some d
    baseline := match kind with | .overrideOnly | .noBaseline => r.baseline | .new | .discarding => none
    lastVerdict := match kind with | .overrideOnly => r.lastVerdict | .new | .noBaseline | .discarding => none
    holds := holds }

/-- The new definition is put in place (R16, steps 1 to 6). -/
def State.putDefinition (s : State) (id : Nat) (d : Definition) (kind : DefineKind) : State :=
  let r := s.circuit id
  let s := s.unindexOld id d.code r.definition
  let s := s.setCircuit id (r.redefined d kind (s.windowsOver d.spans))
  (s.indexSpans id d.spans).ownCode d.code id

/-- A DEFINE_CIRCUIT of this kind needs the second commit (R15). -/
def State.needsErase (s : State) (id : Nat) (kind : DefineKind) : Bool :=
  kind == .discarding || (kind == .new && (s.circuit id).state == .unreadable)

/-- A commit of a DEFINE_CIRCUIT has concluded (R15). -/
def State.continueDefine (s : State) (tag : U8) (id : Nat) (d : Definition) (kind : DefineKind) (clamped second : Bool)
    (success : Bool) : State :=
  if success && !second && s.needsErase id kind then
    State.handCommit { s with processor := .committing tag (.define id d kind clamped true) } (.eraseBaseline id) .processor
  else
    let s := s.spendIf (kind == .discarding)
    if success then
      let s := (s.putDefinition id d kind).endChange id
      if clamped then s.answer tag 0x20 .adjusted (.override d.override) else s.answer tag 0x20 .ok .none
    else (s.endChange id).answer tag 0x20 .storeFault .none

/-! ## DELETE_CIRCUIT (R17) -/

/-- The circuit is IDLE with a baseline, so that its deletion needs the permit (R17). -/
def Circuit.guarded (r : Circuit) : Bool := r.state == .idle && r.baseline.isSome

/-- Checks 1 to 6 of R17. -/
def State.deleteRefusal (s : State) (id : Nat) : Option Status :=
  let r := s.circuit id
  if !circuitInRange id then some .badField
  else if r.state = .empty then some .noSuchCircuit
  else
    match r.state.changeRefusal with
    | some status => some status
    | none =>
      firstRefusal
        [(r.state == .idle && s.insideRegion id, .insideRegion), (r.guarded && !s.permit, .noPermit)]

/-- DELETE_CIRCUIT, as far as its first commit. -/
def State.handleDelete (s : State) (tag : U8) (id : U16) : State :=
  let id := id.toNat
  let guarded := circuitInRange id && (s.circuit id).guarded
  match s.deleteRefusal id with
  | some status => (s.spendIf (guarded && status != .noPermit)).answer tag 0x21 status .none
  | none => s.beginJob id tag (.delete id guarded false) (.eraseBaseline id)

/-- The circuit leaves the indexes and its slot becomes EMPTY (R17). -/
def State.emptySlot (s : State) (id : Nat) : State :=
  let s :=
    match (s.circuit id).definition with
    | none => s
    | some d => (s.unindexSpans id d.spans).disownCode d.code
  s.setCircuit id {}

/-- A commit of a DELETE_CIRCUIT has concluded (R17). -/
def State.continueDelete (s : State) (tag : U8) (id : Nat) (usesPermit second success : Bool) : State :=
  if success && !second then
    State.handCommit { s with processor := .committing tag (.delete id usesPermit true) } (.eraseDefinition id) .processor
  else
    let s := s.spendIf usesPermit
    if success then ((s.emptySlot id).endChange id).answer tag 0x21 .ok .none
    else (s.endChange id).answer tag 0x21 .storeFault .none

/-! ## CLEAR_BASELINE (R18) -/

/-- Checks 1 to 7 of R18. -/
def State.clearRefusal (s : State) (id : Nat) : Option Status :=
  let r := s.circuit id
  if !circuitInRange id then some .badField
  else if r.state = .empty then some .noSuchCircuit
  else if r.state = .unreadable then some .unreadable
  else
    match r.state.changeRefusal with
    | some status => some status
    | none => firstRefusal [(s.insideRegion id, .insideRegion), (!s.permit, .noPermit)]

/-- CLEAR_BASELINE, as far as its commit. -/
def State.handleClearBaseline (s : State) (tag : U8) (id : U16) : State :=
  let id := id.toNat
  match s.clearRefusal id with
  | some status => (s.spendIf (status != .noPermit)).answer tag 0x22 status .none
  | none =>
    if (s.circuit id).baseline.isNone then s.usePermit.answer tag 0x22 .ok .none
    else s.beginJob id tag (.clearBaseline id) (.eraseBaseline id)

/-- The commit of a CLEAR_BASELINE has concluded (R18). -/
def State.continueClear (s : State) (tag : U8) (id : Nat) (success : Bool) : State :=
  let s := s.usePermit
  if success then
    ((s.modifyCircuit id fun r => { r with baseline := none }).endChange id).answer tag 0x22 .ok .none
  else (s.endChange id).answer tag 0x22 .storeFault .none

/-! ## GET_CIRCUIT and PROBE_NOW (R19, R20) -/

/-- The refusal of a request that names a circuit id which must be defined (R11, R19, R20). -/
def State.readRefusal (s : State) (id : Nat) : Option Status :=
  if !circuitInRange id then some .badField
  else
    match (s.circuit id).state with
    | .empty => some .noSuchCircuit
    | .unreadable => some .unreadable
    | .idle | .held | .pending | .probing | .capturing => none

/-- What GET_CIRCUIT returns of circuit `id` (R19). -/
def State.circuitReport (s : State) (id : Nat) : CircuitReport :=
  let r := s.circuit id
  ⟨id, r.state, r.definition, r.baseline, r.holds, r.releaseOwed, r.lastVerdict⟩

/-- GET_CIRCUIT. -/
def State.handleGetCircuit (s : State) (tag : U8) (id : U16) : State :=
  match s.readRefusal id.toNat with
  | some status => s.answer tag 0x23 status .none
  | none => s.answer tag 0x23 .ok (.circuit (s.circuitReport id.toNat))

/-- PROBE_NOW. -/
def State.handleProbeNow (s : State) (tag : U8) (id : U16) : State :=
  let id := id.toNat
  match s.readRefusal id with
  | some status => s.answer tag 0x24 status .none
  | none =>
    match (s.circuit id).state with
    | .pending | .probing => s.answer tag 0x24 .alreadyPending .none
    | .held => s.answer tag 0x24 .circuitHeld .none
    | .capturing => s.answer tag 0x24 .circuitBusy .none
    | .idle | .empty | .unreadable => (s.appendEntry (plainEntry id .request)).answer tag 0x24 .ok .none

end Sys2Proof.Machine
end

