-- ==== Sys2Proof/Machine/LaneRequests.lean ====
section
/-! DEFINITION. The requests of the lanes (04), of the scheduler (03), and of the link, the clock and the store: SET_PROFILE,
GET_PROFILE, GET_LANES, RECALIBRATE, GET_QUEUE, IDENTIFY, SET_TIME and RESTART. -/

namespace Sys2Proof.Machine

/-! ## The profile (4.7) -/

/-- A profile is applied at once (R87). -/
def State.applyNow (s : State) (p : Profile) : State :=
  (allLanes.foldl State.startRunIfDue { s with profile := p }).lookAtAll

/-- SET_PROFILE (R86, R87, R89). -/
def State.handleSetProfile (s : State) (tag : U8) (f : SetProfileFields) : State :=
  if f.takes = false then s.answer tag 0x10 .badField .none
  else
    let p := f.profile
    if s.pendingProfile.isSome then
      State.answer { s with pendingProfile := some p } tag 0x10 .accepted (.profilePending p f.clamped)
    else if s.lanesSettled then
      (s.applyNow p).answer tag 0x10 (if f.clamped then .adjusted else .ok) (.profileApplied p)
    else if s.hasFree = false then s.answer tag 0x10 .noticesFull .none
    else
      State.answer { s.reserve .profileApplied with pendingProfile := some p } tag 0x10 .accepted
        (.profilePending p f.clamped)

/-- GET_PROFILE (R90). -/
def State.handleGetProfile (s : State) (tag : U8) : State :=
  s.answer tag 0x11 .ok (.profiles s.profile s.pendingProfile)

/-! ## The lanes -/

/-- What GET_LANES returns of a lane (R91). -/
def Lane.report (r : Lane) (p : Profile) : LaneReport where
  state := r.state
  channel := r.channel
  trim := r.trim
  offset := r.offset
  age := r.age
  calRequested := r.calRequested
  due := r.due p
  fresh := r.fresh
  errorCount := r.errorCount
  lastOutcome := r.lastOutcome
  work := r.work

/-- GET_LANES. -/
def State.handleGetLanes (s : State) (tag : U8) : State :=
  s.answer tag 0x12 .ok (.lanes (allLanes.map fun l => (s.lane l).report s.profile))

/-- A RECALIBRATE taken on lane `l`, by the lane's state (R85). -/
def State.recalibrate (s : State) (l : LaneId) : State :=
  match (s.lane l).state with
  | .faulted => s.modifyLane l fun r => { r with errorCount := 0 }.startRun
  | .parked => (s.modifyLane l fun r => { r with calRequested := true }).startRunIfDue l
  | .tuning | .tuned | .measuring | .parking | .calibrating => s.modifyLane l fun r => { r with calRequested := true }

/-- RECALIBRATE. -/
def State.handleRecalibrate (s : State) (tag : U8) (lane : U8) : State :=
  match laneOfNat lane.toNat with
  | none => s.answer tag 0x13 .badField .none
  | some l =>
    let s := s.recalibrate l
    s.answer tag 0x13 .ok (.laneState (s.lane l).state)

/-! ## The verification queue -/

/-- What GET_QUEUE returns of a grant (R51). -/
def Grant.report (g : Grant) : GrantReport := ⟨g.entry, g.burstLength, g.retries, g.attempts.map (·.cls)⟩

/-- What GET_QUEUE returns of a lane (R51). -/
def State.laneQueueReport (s : State) (l : LaneId) : LaneQueueReport where
  errorCount := (s.lane l).errorCount
  grant := (s.lane l).grant.map Grant.report
  withheld := s.withheld l

/-- GET_QUEUE. -/
def State.handleGetQueue (s : State) (tag : U8) : State :=
  s.answer tag 0x25 .ok
    (.queue (s.queue.map fun e => ⟨e, s.laneOf e.circuit⟩) (allLanes.map s.laneQueueReport))

/-! ## The link, the clock and the store -/

/-- IDENTIFY (R186). -/
def State.handleIdentify (s : State) (tag : U8) : State :=
  s.answer tag 0x01 .ok
    (.identity Config.partCode Config.revision 8 Config.maxCircuit Config.maxSpan Config.maxChannel Config.stackDepth
      Config.closureDepth)

/-- SET_TIME (R174). -/
def State.handleSetTime (s : State) (tag : U8) (v : U32) : State :=
  State.answer { s with clock := v.toNat } tag 0x02 .ok (.clock s.clock v.toNat)

/-- RESTART: answered OK; the processor takes no request after it (R170, R180). -/
def State.handleRestart (s : State) (tag : U8) : State :=
  State.answer { s with restartTaken := true } tag 0x03 .ok .none

end Sys2Proof.Machine
end

