-- ==== Sys2Proof/Machine/Sense.lean ====
section
/-! DEFINITION. The sense line unit (09): events and their routing, disturbances, and the requests on sense lines. -/

namespace Sys2Proof.Machine

/-! ## Routing (9.4) -/

/-- Logs an event to the topmost window whose span set holds its span, the stack being top first; answers the window's id
and whether the event was appended (R35, R157). -/
def logEvent (e : SenseEvent) : List Window → List Window × Option (Nat × Bool)
  | [] => ([], none)
  | w :: rest =>
    if w.spans.contains e.span then
      if w.events.length < Config.eventListDepth then
        ({ w with events := w.events ++ [e] } :: rest, some (w.id, true))
      else ({ w with moreEvents := true } :: rest, some (w.id, false))
    else
      let (rest', answer) := logEvent e rest
      (w :: rest', answer)

/-- The capture of the CAPTURING circuit `c` is disturbed, by its phase (R137). -/
def State.disturb (s : State) (c : Nat) : State :=
  if s.entryIs c EntryStatus.isMeasuring then
    ((s.stopCapture c).finishEntry c .disturbed).appendEntry (plainEntry c .sense)
  else s.modifyCircuit c fun r => { r with disturbed := true }

/-- The circuits on the span that a VERIFY event queues: IDLE without change in progress (R158). -/
def State.toVerify (s : State) (span : Nat) : List Nat :=
  (s.crossing span).filter fun c => (s.circuit c).state == .idle && !(s.circuit c).changing

/-- The circuits on the span whose captures a VERIFY event disturbs (R158). -/
def State.toDisturb (s : State) (span : Nat) : List Nat :=
  (s.crossing span).filter fun c => (s.circuit c).state == .capturing

/-- A VERIFY event on a span in no open window (R158). -/
def State.verifySpan (s : State) (span : Nat) : State × SenseRoute :=
  let idle := s.toVerify span
  let capturing := s.toDisturb span
  let s := idle.foldl (fun s c => s.appendEntry (plainEntry c .sense)) s
  (capturing.foldl State.disturb s, .verify idle.length capturing.length)

/-- Routes an event taken on line `l` (R156 to R159). -/
def State.routeEvent (s : State) (l : LineId) : State × SenseRoute :=
  let r := s.line l
  if r.span = 0 then (s, .noticeOnly)
  else
    match logEvent ⟨l, r.span, s.clock, r.mode⟩ s.stack with
    | (stack, some (id, appended)) => ({ s with stack := stack }, .window id appended)
    | (_, none) =>
      match r.action with
      | .verify => s.verifySpan r.span
      | .logOnly => (s, .noticeOnly)

/-- A sense event is taken: it is routed, and its SENSE notice is then queued or discarded (R156, R160). -/
def State.takeEvent (s : State) (l : LineId) : State :=
  let r := s.line l
  let (s', route) := s.routeEvent l
  s'.queueUnreserved (.sense l r.span r.mode s.clock route)

/-! ## Latching (9.2) -/

/-- The line with its masked status formed from its raw status and its enabled field (R153). -/
def SenseLine.masking (r : SenseLine) : SenseLine := { r with masked := r.raw && r.enabled }

/-- A LEVEL line whose input stands at its active level latches at once (R152). -/
def SenseLine.latchLevel (r : SenseLine) : SenseLine := if r.mode = .level ∧ r.atActive then { r with raw := true } else r

/-- The line `l` takes the record `r`, masked anew; a masked status that goes from clear to set is an event (R153). -/
def State.settleLine (s : State) (l : LineId) (r : SenseLine) : State :=
  let before := (s.line l).masked
  let r := r.masking
  let s := s.setLine l r
  if !before && r.masked then s.takeEvent l else s

/-- The input of line `l` goes to a level: a transition latches the line by its mode and polarity (R152). -/
def State.senseInput (s : State) (l : LineId) (high : Bool) : State :=
  let r := s.line l
  if r.input = high then s
  else s.settleLine l { r with input := high, raw := r.raw || r.latches high }

/-! ## Requests (9.3, 9.6) -/

/-- SET_SENSE (R154). -/
def State.handleSetSense (s : State) (tag : U8) (f : SetSenseFields) : State :=
  match f.configure with
  | none => s.answer tag 0x60 .badField .none
  | some (l, configure) =>
    let r := (configure (s.line l)).latchLevel
    let event := !(s.line l).masked && r.masking.masked
    let s := s.settleLine l r
    s.answer tag 0x60 .ok (.senseSet (s.line l) event)

/-- Clears a line's raw status; its masked status follows (R155). -/
def State.clearLine (s : State) (l : LineId) : State := s.setLine l { s.line l with raw := false, masked := false }

/-- A cleared line in LEVEL mode latches again where its input stands at its active level (R155). -/
def State.relatchLine (s : State) (l : LineId) : State := s.settleLine l (s.line l).latchLevel

/-- CLEAR_SENSE (R155). The lines latch again, and their events are taken, in ascending line order, and the reply lists the
named lines in that order, each once with its number (DESIGN CHOICE, log 40). -/
def State.handleClearSense (s : State) (tag : U8) (lines : List U8) : State :=
  match clearedLines lines with
  | none => s.answer tag 0x61 .badField .none
  | some named =>
    let s := named.foldl State.clearLine s
    let events := named.countP fun l => (s.line l).latchLevel.masking.masked
    let s := named.foldl State.relatchLine s
    s.answer tag 0x61 .ok (.senseCleared (named.map fun l => ⟨l, (s.line l).raw, (s.line l).masked⟩) events)

/-- GET_SENSE (R162). -/
def State.handleGetSense (s : State) (tag : U8) : State :=
  s.answer tag 0x62 .ok
    (.sense (allLines.map fun l =>
      let r := s.line l
      ⟨r, if r.span = 0 then none else some (s.spanOpen r.span)⟩))

end Sys2Proof.Machine
end

