-- ==== Sys2Proof/Machine/Windows.lean ====
section
/-! DEFINITION. The window controller (02): holds, scope expansion, the requests on windows, and expiry. -/

namespace Sys2Proof.Machine

/-! ## Holds (R6, R7, R8) -/

/-- The lane that holds the grant of circuit `c`, with the grant. -/
def State.grantOf (s : State) (c : Nat) : Option (LaneId × Grant) :=
  match s.laneOf c with
  | none => none
  | some l =>
    match (s.lane l).grant with
    | some g => if g.entry.circuit = c then some (l, g) else none
    | none => none

/-- A hold takes the PROBING circuit `c` back from its lane: the reservation is returned, the lane is stopped, and the
grant's tag is counted as a re-hold (R6, R43, R63). -/
def State.takeBack (s : State) (c : Nat) : State :=
  match s.grantOf c with
  | none => s
  | some (l, g) => ((s.modifyLane l Lane.stop).returnReservation .verdict).countReHold g.entry.tag

/-- A hold abandons the capture of circuit `c` in its measuring phase (R6, R131). -/
def State.abandonCapture (s : State) (c : Nat) : State := ((s.stopCapture c).setCircuitState c .held).returnEntry c

/-- One hold is added to circuit `c` (R6). -/
def State.addHold (s : State) (c : Nat) : State :=
  let held (s : State) : State := s.modifyCircuit c fun r => { r with holds := r.holds + 1 }
  match (s.circuit c).state with
  | .idle | .held => (held s).setCircuitState c .held
  | .pending => ((((held s).dropEntry c).setCircuitState c .held).countReHold (s.queuedTag c))
  | .probing => ((held s).setCircuitState c .held).takeBack c
  | .capturing =>
    if s.entryIs c EntryStatus.isMeasuring then (held s).abandonCapture c
    else (held s).modifyCircuit c fun r => { r with releaseOwed := none }
  | .empty | .unreadable => s

/-- What the circuit table answers to the removal of a hold by a close or an expiry (R7). -/
inductive HoldAnswer where
  | stillHeld | released | notReleased
  deriving DecidableEq, Repr

/-- One hold is removed from circuit `c` by a close or an expiry (R7). A slot with hold count 0 is left untouched (R12). -/
def State.removeHold (s : State) (cause : ReleaseCause) (c : Nat) : State × HoldAnswer :=
  let r := s.circuit c
  if r.holds = 0 then (s, .stillHeld)
  else
    let s := s.setCircuit c { r with holds := r.holds - 1 }
    if 1 < r.holds then (s, .stillHeld)
    else if r.state = .held then (s.setCircuitState c .pending, .released)
    else if r.state = .capturing then (s.modifyCircuit c fun r => { r with releaseOwed := some cause }, .notReleased)
    else (s, .stillHeld)

/-- One hold is removed from circuit `c` by an abort; tells whether the circuit returned to IDLE (R8). -/
def State.abortHold (s : State) (c : Nat) : State × Bool :=
  let r := s.circuit c
  if r.holds = 0 then (s, false)
  else
    let s := s.setCircuit c { r with holds := r.holds - 1 }
    if 1 < r.holds then (s, false)
    else if r.state = .held then (s.makeIdle c, true)
    else (s, false)

/-! ## The end of a window (R31, R38) -/

/-- Removes one hold from each circuit, in order; answers the released ones, in order. -/
def State.releaseAll (cause : ReleaseCause) : List Nat → State → State × List Nat
  | [], s => (s, [])
  | c :: rest, s =>
    let (s, answer) := s.removeHold cause c
    let (s, released) := State.releaseAll cause rest s
    (s, if answer = .released then c :: released else released)

/-- The closure record of a window that ends with `released` circuits released (R33, R41). -/
def State.closureFor (s : State) (w : Window) (cause : ReleaseCause) (released : Nat) : Closure where
  windowId := w.id
  endKind := match cause with | .windowClose => .closed | .windowExpiry => .expired
  openedAt := w.openedAt
  endedAt := s.clock
  released := released
  outstanding := released
  reHeld := 0
  counts := {}
  spanEvents := 0
  events := w.events
  moreEvents := w.moreEvents

/-- The span-event flag of circuit `c` released by window `w` (R32). -/
def State.spanEventFlag (s : State) (w : Window) (c : Nat) : Bool :=
  match (s.circuit c).definition with
  | some d => w.events.any fun e => d.spans.contains e.span
  | none => false

/-- The queue entry of circuit `c` released by window `w` (R31, R38, R48). -/
def State.releasedEntry (s : State) (w : Window) (cause : ReleaseCause) (c : Nat) : QueueEntry where
  circuit := c
  cause := match cause with | .windowClose => .windowClose | .windowExpiry => .windowExpiry
  tag := some w.id
  expired := cause == .windowExpiry
  spanEvent := s.spanEventFlag w c

/-- An expiry that needs a place on a full closure list has the oldest record summarised early (R39). -/
def State.relieveClosures (s : State) (cause : ReleaseCause) : State :=
  if cause = .windowExpiry ∧ Config.closureDepth ≤ s.closures.length then s.summariseOldest else s

/-- A window that has been taken off the stack is closed: holds are removed, the record is made or the summary queued, and
the released circuits are appended. Answers the number released (R31, R33, R38). -/
def State.endWindow (s : State) (w : Window) (cause : ReleaseCause) : State × Nat :=
  let (s, released) := State.releaseAll cause (s.crossingAny w.spans) s
  if released = [] then (s.queueSummary (s.closureFor w cause 0) false, 0)
  else
    let s := s.relieveClosures cause
    let s := { s with closures := s.closures ++ [s.closureFor w cause released.length] }
    (released.foldl (fun s c => s.appendEntry (s.releasedEntry w cause c)) s, released.length)

/-- The capture controller is told when the stack has emptied (R28). -/
def State.tellIfEmptied (s : State) : State := if s.stack = [] then s.stackEmptied else s

/-! ## Expiry (R36, R37) -/

/-- The windows that an expiry removes: the lowest one at 0 and every window above it, the stack being top first. -/
def expiring (stack : List Window) : Nat :=
  stack.length - (stack.reverse.takeWhile fun w => w.remaining != 0).length

/-- Removes the top windows, each whole before the next (R37). -/
def State.expireTop : Nat → State → State
  | 0, s => s
  | n + 1, s =>
    match s.stack with
    | [] => s
    | w :: rest => State.expireTop n (State.endWindow { s with stack := rest } w .windowExpiry).1

/-- The expiry of the windows whose remaining seconds have reached 0 (R36, R37). -/
def State.expireWindows (s : State) : State :=
  if s.expiryDue then (State.expireTop (expiring s.stack) s).tellIfEmptied else s

/-! ## OPEN_WINDOW (R25 to R28) -/

/-- Checks 2 to 4 of R25 for a window id. -/
def State.openRefusal (s : State) (id : Nat) : Option (Status × ReplyBody) :=
  if Config.stackDepth ≤ s.stack.length then some (.stackFull, .openWindows (s.stack.reverse.map (·.id)))
  else if s.stack.any fun w => w.id == id then some (.idInUse, .idFound true)
  else if s.closures.any fun c => c.windowId == id then some (.idInUse, .idFound false)
  else if s.hasFree = false then some (.noticesFull, .none)
  else none

/-- A taken OPEN_WINDOW: the reservation, the window record, the scope expansion and the capture controller (R26, R27,
R28). -/
def State.openWindow (s : State) (id duration : Nat) (spans : List Nat) : State :=
  let w : Window := ⟨id, spans, duration, s.clock, [], false⟩
  let s := s.reserve .summary
  let s := { s with stack := w :: s.stack }
  ((s.crossingAny spans).foldl State.addHold s).windowOpened

/-- OPEN_WINDOW. -/
def State.handleOpenWindow (s : State) (tag : U8) (f : OpenFields) : State :=
  match f.spanSet with
  | none => s.answer tag 0x30 .badField .none
  | some spans =>
    match s.openRefusal f.id.toNat with
    | some (status, body) => s.answer tag 0x30 status body
    | none =>
      let duration := clamp Config.minDuration Config.maxRemaining f.duration.toNat
      let held := (s.crossingAny spans).length
      let s := s.openWindow f.id.toNat duration spans
      s.answer tag 0x30 (if duration = f.duration.toNat then .ok else .adjusted)
        (.windowOpened duration held s.stack.length)

/-! ## EXTEND_WINDOW (R29) -/

/-- EXTEND_WINDOW. -/
def State.handleExtendWindow (s : State) (tag : U8) (f : ExtendFields) : State :=
  let id := f.id.toNat
  if id = 0 ∨ f.seconds.toNat = 0 then s.answer tag 0x31 .badField .none
  else
    match s.stack.find? fun w => w.id == id with
    | none => s.answer tag 0x31 .noWindow .none
    | some w =>
      let sum := w.remaining + f.seconds.toNat
      let remaining := min Config.maxRemaining sum
      let s := { s with stack := s.stack.map fun (x : Window) => if x.id = id then { x with remaining := remaining } else x }
      s.answer tag 0x31 (if Config.maxRemaining < sum then .adjusted else .ok) (.remaining remaining)

/-! ## CLOSE_WINDOW and ABORT_WINDOW (R30, R31, R34) -/

/-- Checks 1 to 3 of R30 and R34: the top window where it is the one named, and the refusal otherwise. -/
def State.namedTop (s : State) (id : Nat) : Except (Status × ReplyBody) (Window × List Window) :=
  if id = 0 then .error (.badField, .none)
  else
    match s.stack with
    | [] => .error (.noWindow, .none)
    | w :: rest => if w.id = id then .ok (w, rest) else .error (.notTop, .topWindow w.id)

/-- CLOSE_WINDOW. -/
def State.handleCloseWindow (s : State) (tag : U8) (id : U16) : State :=
  match s.namedTop id.toNat with
  | .error (status, body) => s.answer tag 0x32 status body
  | .ok (w, rest) =>
    if Config.closureDepth ≤ s.closures.length then s.answer tag 0x32 .summaryBacklog .none
    else
      let (s, released) := State.endWindow { s with stack := rest } w .windowClose
      s.tellIfEmptied.answer tag 0x32 .ok (.released released)

/-- Removes one hold from each circuit by an abort; counts those that return to IDLE (R34). -/
def State.abortAll : List Nat → State → State × Nat
  | [], s => (s, 0)
  | c :: rest, s =>
    let (s, returned) := s.abortHold c
    let (s, n) := State.abortAll rest s
    (s, if returned then n + 1 else n)

/-- ABORT_WINDOW. -/
def State.handleAbortWindow (s : State) (tag : U8) (id : U16) : State :=
  match s.namedTop id.toNat with
  | .error (status, body) => s.answer tag 0x33 status body
  | .ok (w, rest) =>
    let (s, returned) := State.abortAll (s.crossingAny w.spans) { s with stack := rest }
    (s.returnReservation .summary).tellIfEmptied.answer tag 0x33 .ok (.returned returned)

/-! ## GET_WINDOWS (R45) -/

/-- GET_WINDOWS. -/
def State.handleGetWindows (s : State) (tag : U8) : State :=
  s.answer tag 0x34 .ok
    (.windows (s.stack.reverse.map fun w => ⟨w, (s.crossingAny w.spans).length⟩) s.closures)

end Sys2Proof.Machine
end

