-- ==== Sys2Proof/Machine/Processor.lean ====
section
/-! DEFINITION. The request queue, the request processor and the transmit arbiter (11), and the end that every command
shares: the arbiter's looks, the requests the processor is free to take, and the next frame. -/

namespace Sys2Proof.Machine

/-! ## The request processor (11.4) -/

/-- A request with a payload: BAD_LENGTH where it is short (R180, step 2), and its handling otherwise. -/
def State.withPayload {α : Type} (s : State) (tag code : U8) (p : Payload α) (handle : α → State) : State :=
  match p with
  | .short => s.answer tag code .badLength .none
  | .fields f => handle f

/-- Handles one request (R180). -/
def State.handleRequest (s : State) (tag : U8) (r : Request) : State :=
  match r with
  | .identify => s.handleIdentify tag
  | .setTime p => s.withPayload tag 0x02 p (s.handleSetTime tag)
  | .restart => s.handleRestart tag
  | .setProfile p => s.withPayload tag 0x10 p (s.handleSetProfile tag)
  | .getProfile => s.handleGetProfile tag
  | .getLanes => s.handleGetLanes tag
  | .recalibrate p => s.withPayload tag 0x13 p (s.handleRecalibrate tag)
  | .defineCircuit p => s.withPayload tag 0x20 p (s.handleDefine tag)
  | .deleteCircuit p => s.withPayload tag 0x21 p (s.handleDelete tag)
  | .clearBaseline p => s.withPayload tag 0x22 p (s.handleClearBaseline tag)
  | .getCircuit p => s.withPayload tag 0x23 p (s.handleGetCircuit tag)
  | .probeNow p => s.withPayload tag 0x24 p (s.handleProbeNow tag)
  | .getQueue => s.handleGetQueue tag
  | .openWindow p => s.withPayload tag 0x30 p (s.handleOpenWindow tag)
  | .extendWindow p => s.withPayload tag 0x31 p (s.handleExtendWindow tag)
  | .closeWindow p => s.withPayload tag 0x32 p (s.handleCloseWindow tag)
  | .abortWindow p => s.withPayload tag 0x33 p (s.handleAbortWindow tag)
  | .getWindows => s.handleGetWindows tag
  | .permit => s.handlePermit tag
  | .withdrawPermit => s.handleWithdrawPermit tag
  | .startCapture p => s.withPayload tag 0x42 p (s.handleStartCapture tag)
  | .suspendCapture => s.handleSuspend tag
  | .resumeCapture => s.handleResume tag
  | .cancelCapture => s.handleCancel tag
  | .getCapture => s.handleGetCapture tag
  | .setProtection p => s.withPayload tag 0x50 p (s.handleSetProtection tag)
  | .getProtection => s.handleGetProtection tag
  | .setSense p => s.withPayload tag 0x60 p (s.handleSetSense tag)
  | .clearSense p => s.withPayload tag 0x61 p (s.handleClearSense tag)
  | .getSense => s.handleGetSense tag
  | .unknown code => s.answer tag code .unknownRequest .none

/-- The processor may take a request: start-up is over, it is free, and RESTART has not been taken (R169, R170, R180). -/
def State.takesRequests (s : State) : Bool := s.phase == .running && s.processor == .free && !s.restartTaken

/-- Takes the oldest requests while the processor is free, each whole before the next, with the arbiter's looks after each
(R180). The number bounds the requests taken. -/
def State.pump : Nat → State → State
  | 0, s => s
  | n + 1, s =>
    if s.takesRequests then
      match s.requestQueue with
      | [] => s
      | q :: rest =>
        State.pump n (State.handleRequest { s with requestQueue := rest } q.tag q.request).arbitrate
    else s

/-- Takes every request that can be taken. -/
def State.takeRequests (s : State) : State := State.pump s.requestQueue.length s

/-! ## The request queue (11.3) -/

/-- The BUSY reply of a request that was not kept (R179). -/
def busyReply (q : QueuedRequest) : Reply := ⟨q.tag, q.request.code, .busy, .none, []⟩

/-- A good request is offered to the request queue: appended, answered BUSY, or dropped (R179). -/
def State.offerRequest (s : State) (q : QueuedRequest) : State :=
  if s.requestQueue.length < Config.requestEntries then { s with requestQueue := s.requestQueue ++ [q] }
  else if s.replies.length < Config.replyEntries then { s with replies := s.replies ++ [busyReply q] }
  else s

/-! ## The transmit arbiter (11.7) -/

/-- The transmit arbiter chooses the next frame while the transmitter is idle: the oldest reply, or else the oldest queued
notice, which takes the notices-discarded flag as its mark (R184, R185). After RESTART's reply nothing is sent (R170). -/
def State.transmit (s : State) : State :=
  if s.transmitter = .idle ∧ s.alive ∧ s.restartReplySent = false then
    match s.replies with
    | _ :: _ => { s with transmitter := .reply 0 }
    | [] =>
      match s.notices with
      | [] => s
      | n :: rest => { s with notices := rest, transmitter := .notice n s.discarded, discarded := false }
  else s

/-- The end of every command of a live part: the arbiter's looks, the requests the processor takes, the next frame. -/
def State.settle (s : State) : State := s.arbitrate.takeRequests.transmit

/-! ## The end of a frame (R184) -/

/-- A reply has left the reply list: a reply that waited for room takes it (R181). -/
def State.placeWaiting (s : State) : State :=
  match s.processor with
  | .replying r => s.placeReply r
  | .free | .committing _ _ => s

/-- The reply is RESTART's own (R170, log 24). -/
def Reply.isRestart (r : Reply) : Bool := r.code == 0x03 && r.status == .ok

/-- The last byte of the reply part in hand goes out: the next part follows, or the reply leaves the list (R181, R189). -/
def State.endReplyPart (s : State) (part : Nat) : State :=
  match s.replies with
  | [] => { s with transmitter := .idle }
  | r :: rest =>
    if part + 1 < r.parts.length then { s with transmitter := .reply (part + 1) }
    else
      State.placeWaiting
        { s with
          replies := rest, transmitter := .idle,
          restartReplySent := s.restartReplySent || (s.restartTaken && r.isRestart) }

/-- The last byte of the frame in hand goes out; a notice's entry becomes FREE and the arbiter is told (R182, R184). -/
def State.endFrame (s : State) : State :=
  match s.transmitter with
  | .idle => s
  | .reply part => s.endReplyPart part
  | .notice _ _ => State.lookAtWaiting { s with transmitter := .idle }

end Sys2Proof.Machine
end

