-- ==== Sys2Proof/Machine/Link.lean ====
section
/-! DEFINITION. The frame check (R176), the frame receiver (R177) and the judgement of complete frames (R178). -/

namespace Sys2Proof.Machine

/-! ## The frame check (R176) -/

/-- One shift of the CRC register, polynomial 0x1021. -/
def crcShift (r : U16) : U16 := if r.getLsbD 15 then (r <<< 1) ^^^ 0x1021 else r <<< 1

/-- One byte enters the register, most significant bit first. -/
def crcByte (r : U16) (b : U8) : U16 :=
  let r := r ^^^ (b.setWidth 16 <<< 8)
  crcShift (crcShift (crcShift (crcShift (crcShift (crcShift (crcShift (crcShift r)))))))

/-- The check over a list of bytes. -/
def crc16 (bytes : List U8) : U16 := bytes.foldl crcByte 0xFFFF

/-! ## The receiver (R177) -/

/-- The start byte of every frame. -/
def startByte : U8 := 0xA5

/-- A length that a frame may have (R177). -/
def lengthInRange (n : Nat) : Bool := 3 ≤ n && n ≤ 1021

/-- One byte reaches the receiver; the second part of the answer is a frame that it completes, from its first length byte
to its last check byte (R177). -/
def Receiver.take (r : Receiver) (b : U8) : Receiver × Option (List U8) :=
  match r with
  | .hunting => (if b = startByte then .header [] else .hunting, none)
  | .header bytes =>
    let bytes := bytes ++ [b]
    if bytes.length < 2 then (.header bytes, none)
    else
      let n := (u16At bytes 0).toNat
      (if lengthInRange n then .body n bytes else .hunting, none)
  | .body n bytes =>
    let bytes := bytes ++ [b]
    if bytes.length < n + 4 then (.body n bytes, none) else (.hunting, some bytes)

/-! ## The judgement of a frame (R178) -/

/-- The class of a request (12.1). -/
def requestClass : U8 := 0x01

/-- The good request that a complete frame is, if it is one (R178): its check agrees and its class is request. The bytes run
from the first length byte to the last check byte. -/
def judgeFrame (bytes : List U8) : Option QueuedRequest :=
  let n := bytes.length - 2
  if crc16 (bytes.take n) = u16At bytes n ∧ u8At bytes 2 = requestClass then
    some ⟨u8At bytes 4, requestOf (u8At bytes 3) ((bytes.take n).drop 5)⟩
  else none

/-- A complete frame is judged: a good request is offered to the request queue, any other is discarded (R178). -/
def State.judge (s : State) : State :=
  match s.completeFrame with
  | none => s
  | some bytes =>
    let s := { s with completeFrame := none }
    match judgeFrame bytes with
    | some q => (s.offerRequest q).settle
    | none => s

end Sys2Proof.Machine
end

