-- ==== Sys2Proof/Machine/Restart.lean ====
section
/-! DEFINITION. Restarts, start-up and the device clock (10), and the due steps that every command takes first (log 6). -/

namespace Sys2Proof.Machine

/-! ## The device clock (R174) -/

/-- One tick of the seconds tick: the clock, the calibration ages, the windows (R36, R80, R174). -/
def State.tick (s : State) : State :=
  let s := { s with
    clock := (s.clock + 1) % Config.clockModulus
    stack := s.stack.map fun w => { w with remaining := w.remaining - 1 } }
  allLanes.foldl (fun s l => s.modifyLane l fun r => { r with age := min Config.maxAge (r.age + 1) }) s

/-! ## Restarts (10.3) -/

/-- A restart sets every volatile piece of state to its restart value (R21, R46, R52, R92, R119, R140, R150, R163, R168,
R187). The store's slots, the levels of the inputs and, where the restart is warm, the session overlay are kept. The lanes have
sent PARK from the beginning of the restart on, also of one that RESET holds (DESIGN CHOICE, log 44). -/
def State.restarted (s : State) (phase : Phase) (cause : RestartCause) : State :=
  { State.reset with
    pending := s.pending
    phase := phase
    resetLine := s.resetLine
    restartCause := cause
    refLock := s.refLock
    rateStrap := s.rateStrap
    bitRate := .ofStrap s.rateStrap
    overlay := s.overlay && cause != .cold
    senseLines := allLines.foldl (fun v (l : LineId) => v.set l { input := (s.line l).input }) State.reset.senseLines
    defSlots := s.defSlots
    baseSlots := s.baseSlots
    protSlot := s.protSlot
    freeCount := s.freeCount }

/-! ## The start-up scan (10.4) -/

/-- The tolerances of an override lie in the ranges of R2. -/
def Override.inRange (o : Override) : Bool :=
  (o.rise.all fun t => 10 ≤ t && t ≤ 2000) && (o.fall.all fun t => 10 ≤ t && t ≤ 2000) &&
    (o.delay.all fun t => 20 ≤ t && t ≤ 100000)

/-- Every field of a stored definition lies in its range (R164). -/
def Definition.inRange (d : Definition) : Bool :=
  1 ≤ d.channel && d.channel ≤ Config.maxChannel && 1 ≤ d.code && d.code ≤ Config.maxCode &&
    1 ≤ d.spans.length && d.spans.length ≤ Config.maxSpansOfCircuit && d.spans.all spanInRange &&
    decide d.spans.Nodup && d.override.inRange

/-- Every field of a stored baseline lies in its range (R164). -/
def Baseline.inRange (b : Baseline) : Bool :=
  decide (-600 ≤ b.level) && decide (b.level ≤ 5411) && b.delay ≤ 16777215 && 1 ≤ b.generation &&
    b.generation ≤ Config.maxGeneration && 1 ≤ b.channel && b.channel ≤ Config.maxChannel && 1 ≤ b.code &&
    b.code ≤ Config.maxCode

/-- The record of a slot that is valid (R164). -/
def Slot.valid {α : Type} (inRange : α → Bool) : Slot α → Option α
  | .erased | .damaged => none
  | .holding x => if inRange x then some x else none

/-- The slot is neither empty nor valid (R164). -/
def Slot.bad {α : Type} (inRange : α → Bool) : Slot α → Bool
  | .erased => false
  | .damaged => true
  | .holding x => !inRange x

/-- The definition that slot `c` gives, before code conflicts (R171). -/
def State.scannedDefinition (s : State) (c : Nat) : Option Definition :=
  (tableRead .erased s.defSlots c).valid Definition.inRange

/-- A lower-numbered circuit of the list holds the code (R171). -/
def State.codeTakenBelow (s : State) (c code : Nat) (ids : List Nat) : Bool :=
  ids.any fun c' => c' < c && (s.scannedDefinition c').any fun d => d.code == code

/-- The baseline that the scan finds for a circuit with definition `d` (R172). -/
def State.scannedBaseline (s : State) (c : Nat) (d : Definition) : Option Baseline :=
  ((tableRead .erased s.baseSlots c).valid Baseline.inRange).filter fun b =>
    b.lane == d.lane && b.channel == d.channel && b.code == d.code

/-- The record that the scan gives slot `c`, `ids` being the slots that are not erased (R171, R172). -/
def State.scannedCircuit (s : State) (ids : List Nat) (c : Nat) : Circuit :=
  match s.scannedDefinition c with
  | none => if (tableRead .erased s.defSlots c).bad Definition.inRange then { state := .unreadable } else {}
  | some d =>
    if s.codeTakenBelow c d.code ids then { state := .unreadable }
    else { state := .idle, definition := some d, baseline := s.scannedBaseline c d }

/-- Circuit `c` is scanned; a defined one is entered in the indexes (R171, R172). -/
def State.scanSlot (s : State) (ids : List Nat) (c : Nat) : State :=
  let r := s.scannedCircuit ids c
  let s := s.setCircuit c r
  match r.definition with
  | some d => (s.indexSpans c d.spans).ownCode d.code c
  | none => s

/-- n of a stored region lies in its range (R164). -/
def ProtectionRecord.inRange (p : ProtectionRecord) : Bool := p.region.n ≤ 32

/-- The protection slot is scanned (R149, R171). -/
def State.scanProtection (s : State) : State :=
  match s.protSlot.valid ProtectionRecord.inRange with
  | some p => { s with region := p.region, storedLevel := p.level }
  | none => { s with region := {}, storedLevel := .openLevel }

/-- The scan of the whole store (R171, R172). -/
def State.scanStore (s : State) : State :=
  let ids := s.defSlots.map (·.1)
  ids.foldl (fun s c => s.scanSlot ids c) { s.scanProtection with circuits := [], codeMap := [], spanIndex := [] }

/-- The RESTARTED notice (R173). -/
def State.restartedNotice (s : State) : Notice :=
  .restarted s.restartCause
    (s.circuits.countP fun e => e.2.defined)
    (s.circuits.countP fun e => e.2.state == .unreadable)
    (s.circuits.countP fun e => e.2.baseline.isSome)
    (s.protSlot.valid ProtectionRecord.inRange).isNone
    s.overlay

/-- Start-up step 4: the working copies stand, RESTARTED is queued, and an idle transmitter takes it before any request is
taken (R169, R173, R184, R187). -/
def State.announce (s : State) : State :=
  let s := s.scanStore
  (s.queueUnreserved s.restartedNotice).transmit

/-- The end of the start-up scan. At step 5 every lane starts its reference run before the waiting requests are taken (R169;
DESIGN CHOICE, log 37). -/
def State.endScan (s : State) : State :=
  State.settle (allLanes.foldl State.startRunIfDue { s.announce with phase := .running })

/-! ## Due steps (log 6) -/

/-- The warm restart of cause REQUEST begins where it is due (R170). -/
def State.beginRestart (s : State) : State := if s.restartDue then s.restarted .scanning .request else s

/-- The windows that have reached 0 expire (R37). -/
def State.expire (s : State) : State := if s.expiryDue then s.expireWindows.settle else s

/-- A lane that stands PARKED and due starts its reference run (R81). -/
def State.calibrate (s : State) (l : LaneId) : State :=
  if s.calibrationIsDue l then (s.startRunIfDue l).settle else s

/-- The steps that are due before any other is taken (log 6). -/
def State.takeDue (s : State) : State :=
  if s.restartDue then s.beginRestart
  else if s.alive then allLanes.foldl State.calibrate s.judge.expire
  else s

/-- An event of a live part: the due steps, the event's own effect, and the end that every command shares. A part without
power or held in restart takes no event (R168, log 25). -/
def State.whenAlive (s : State) (effect : State → State) : State :=
  let s := s.takeDue
  if s.alive then (effect s).settle else s

end Sys2Proof.Machine
end

