-- ==== Sys2Proof/Machine/LaneEvents.lean ====
section
/-! DEFINITION. The events of a lane (04): its head's messages, its timers, the results of its bursts, and the start of a due
reference run. -/

namespace Sys2Proof.Machine

/-! ## SETTLED -/

/-- A grant enters a phase of its work (R53). -/
def Lane.atPhase (r : Lane) (phase : GrantPhase) : Lane := { r with grant := r.grant.map fun g => { g with phase := phase } }

/-- The reference run's burst begins (R82, step 2). -/
def Lane.referenceBurst (r : Lane) : Lane :=
  { r with
    calStep := some .burst, burstLength := Config.referenceBurst, samples := [],
    headCommand := .burst Config.referenceBurst }

/-- SETTLED by the lane's state (R68, R71, R82). -/
def Lane.settle (r : Lane) : Lane :=
  match r.state with
  | .tuning => if r.work = .none then r.park else r.burst.atPhase .measuring
  | .calibrating => if r.calStep = some .tune then r.referenceBurst else r
  | .parked | .tuned | .measuring | .parking | .faulted => r

/-- SETTLED. -/
def execSettled (l : LaneId) (s : State) : Host.Outcome State Fault Refusal :=
  .next (s.whenAlive fun s => s.modifyLane l Lane.settle)

/-! ## SAMPLE -/

/-- The burst handed to the measurement unit with its inputs (R73, R93). -/
def Lane.handOver (r : Lane) (purpose : Purpose) (floor : Nat) (samples : List Sample) : HandedBurst where
  purpose := purpose
  samples := samples
  floor := floor
  trim := r.trim
  offset := r.offset
  stale := !r.fresh

/-- The purpose of a burst by the work in hand (R93). -/
def Work.purpose : Work → Purpose
  | .verification _ => .attempt
  | .capture _ => .capture
  | .referenceRun => .reference
  | .none => .attempt

/-- A burst of a verification or a capture is complete (R62, R73). -/
def Lane.completeBurst (r : Lane) (floor : Nat) (samples : List Sample) : Lane :=
  { r.atPhase .classifying with
    state := .tuned, errorCount := 0, samples := [], handed := some (r.handOver r.work.purpose floor samples) }

/-- The burst of a reference run is complete (R82). -/
def Lane.completeReference (r : Lane) (floor : Nat) (samples : List Sample) : Lane :=
  { r with calStep := some .judge, samples := [], handed := some (r.handOver .reference floor samples) }

/-- SAMPLE by the lane's state (R68, R73). -/
def Lane.takeSample (r : Lane) (floor : Nat) (x : Sample) : Lane :=
  let samples := r.samples ++ [x]
  match r.state with
  | .measuring =>
    if samples.length < r.burstLength then { r with samples := samples } else r.completeBurst floor samples
  | .calibrating =>
    if r.calStep = some .burst then
      if samples.length < r.burstLength then { r with samples := samples } else r.completeReference floor samples
    else r
  | .parked | .tuning | .tuned | .parking | .faulted => r

/-- SAMPLE. -/
def execSample (l : LaneId) (x : Sample) (s : State) : Host.Outcome State Fault Refusal :=
  .next (s.whenAlive fun s => s.modifyLane l fun r => r.takeSample s.profile.floor x)

/-! ## BURST_RESULT -/

/-- A reduced burst reaches the owner of the work, by its purpose (R101). -/
def State.takeResult (s : State) (l : LaneId) (b : HandedBurst) : State :=
  let r := s.lane l
  match b.purpose, r.grant, r.capture with
  | .attempt, some g, _ =>
    match (s.circuit g.entry.circuit).definition with
    | some d => s.takeAttempt l g d b
    | none => s
  | .capture, _, some w =>
    match (s.circuit w.circuit).definition with
    | some d => s.takeCaptureBurst l w d b
    | none => s
  | .reference, _, _ => s.modifyLane l fun r => r.closeRun (judgeReference b)
  | .attempt, none, _ => s
  | .capture, _, none => s

/-- The burst handed over on lane `l` is reduced, and its result reaches its owner (R93, R101). -/
def State.reduceHanded (s : State) (l : LaneId) : State :=
  match (s.lane l).handed with
  | none => s
  | some b => State.takeResult (s.modifyLane l fun r => { r with handed := none }) l b

/-- BURST_RESULT. -/
def execBurstResult (l : LaneId) (s : State) : Host.Outcome State Fault Refusal :=
  .next (s.whenAlive fun s => s.reduceHanded l)

/-! ## Timeouts -/

/-- The tune timeout lapses (R76, R82). -/
def State.tuneTimeout (s : State) (l : LaneId) : State :=
  let r := s.lane l
  match r.state with
  | .tuning => s.laneError l .tuneFailure
  | .calibrating => if r.calStep = some .tune then s.setLane l (r.closeRun ⟨.tuneFailure, 0, 0⟩) else s
  | .parked | .tuned | .measuring | .parking | .faulted => s

/-- TUNE_TIMEOUT. -/
def execTuneTimeout (l : LaneId) (s : State) : Host.Outcome State Fault Refusal :=
  .next (s.whenAlive fun s => s.tuneTimeout l)

/-- The burst gap timeout lapses (R77, R82). -/
def State.burstGapTimeout (s : State) (l : LaneId) : State :=
  let r := s.lane l
  match r.state with
  | .measuring => s.laneError l .burstFailure
  | .calibrating => if r.calStep = some .burst then s.setLane l (r.closeRun ⟨.burstFailure, 0, 0⟩) else s
  | .parked | .tuning | .tuned | .parking | .faulted => s

/-- BURST_GAP_TIMEOUT. -/
def execBurstGapTimeout (l : LaneId) (s : State) : Host.Outcome State Fault Refusal :=
  .next (s.whenAlive fun s => s.burstGapTimeout l)

/-! ## PARK_END and CALIBRATION_DUE -/

/-- The 1 ms of a park has passed: the lane settles, or its reference run ends (R74, R82). -/
def State.parkEnd (s : State) (l : LaneId) : State :=
  let r := s.lane l
  match r.state with
  | .parking => ((s.setLane l r.endPark).reportFault l).laneSettled l
  | .calibrating =>
    match r.calStep, r.calResult with
    | some .park, some result => ((s.setLane l (r.endRun result)).reportFault l).laneSettled l
    | _, _ => s
  | .parked | .tuning | .tuned | .measuring | .faulted => s

/-- PARK_END. -/
def execParkEnd (l : LaneId) (s : State) : Host.Outcome State Fault Refusal :=
  .next (s.whenAlive fun s => s.parkEnd l)

/-- CALIBRATION_DUE: a PARKED, due lane starts its reference run (R81). -/
def execCalibrationDue (l : LaneId) (s : State) : Host.Outcome State Fault Refusal := .next (s.calibrate l)

end Sys2Proof.Machine
end

