-- ==== Sys2Proof/Machine/LinkEvents.lean ====
section
/-! DEFINITION. The events of the serial line (11): bytes, framing errors, gaps, complete frames, and the end of a frame that
the part sends; and the rate strap. -/

namespace Sys2Proof.Machine

/-- A byte reaches the receiver (R177). -/
def State.receiveByte (s : State) (b : U8) : State :=
  let (receiver, frame) := s.receiver.take b
  { s with receiver := receiver, completeFrame := frame }

/-- BYTE_RECEIVED (R177). -/
def execByteReceived (b : U8) (s : State) : Host.Outcome State Fault Refusal :=
  .next (s.whenAlive fun s => s.receiveByte b)

/-- FRAME_RECEIVED: the complete frame is judged (R178). -/
def execFrameReceived (s : State) : Host.Outcome State Fault Refusal := .next (if s.alive then s.judge else s)

/-- FRAMING_ERROR: the byte is discarded, and a partial frame with it (R175). -/
def execFramingError (s : State) : Host.Outcome State Fault Refusal :=
  .next (s.whenAlive fun s => { s with receiver := .hunting })

/-- RECEIVE_GAP_TIMEOUT: more than 10 ms have passed without a byte, so a partial frame is discarded (R178). -/
def execReceiveGapTimeout (s : State) : Host.Outcome State Fault Refusal :=
  .next (s.whenAlive fun s => { s with receiver := .hunting })

/-- FRAME_SENT: the last byte of the frame in hand goes out (R184). -/
def execFrameSent (s : State) : Host.Outcome State Fault Refusal := .next (s.whenAlive State.endFrame)

/-- RATE_STRAP_CHANGE: no effect before the next restart (R175). -/
def execRateStrapChange (high : Bool) (s : State) : Host.Outcome State Fault Refusal :=
  .next { s.takeDue with rateStrap := high }

end Sys2Proof.Machine
end

