-- ==== Sys2Proof/Machine/Commits.lean ====
section
/-! DEFINITION. The end of each slot write of a commit (R166), and the conclusion of commits with their submitters. -/

namespace Sys2Proof.Machine

/-- A request's commit has concluded: its request goes on (R15, R17, R18, R146). -/
def State.continueJob (s : State) (success : Bool) : State :=
  match s.processor with
  | .free | .replying _ => s
  | .committing tag job =>
    match job with
    | .define id d kind clamped second => s.continueDefine tag id d kind clamped second success
    | .delete id usesPermit second => s.continueDelete tag id usesPermit second success
    | .clearBaseline id => s.continueClear tag id success
    | .protect p session => s.finishProtect tag p session success

/-- The baseline that a commit writes. -/
def StoreOp.baseline : StoreOp → Option Baseline
  | .writeBaseline _ b => some b
  | .writeDefinition _ _ | .eraseDefinition _ | .eraseBaseline _ | .writeProtection _ => none

/-- The outcome is reported to the commit's submitter (R133, R165). -/
def State.report (s : State) (c : Commit) (success : Bool) : State :=
  match c.submitter, c.op.baseline with
  | .processor, _ => s.continueJob success
  | .capture circuit, some b => s.concludeCapture circuit b success
  | .capture _, none => s

/-- The commit at the head concludes: it leaves the queue, its submitter acts, and the next commit begins (R165, R166). -/
def State.concludeCommit (s : State) (success : Bool) : State :=
  match s.commits with
  | [] => { s with writing := none }
  | c :: rest => (State.report { s with commits := rest, writing := none } c success).beginCommit

/-- The slot write in progress ends with its read-back (R166). `agrees` tells whether the cells agree with what was
written; `erased`, whether they are wholly erased once the check word has been (log 19). -/
def State.endWrite (s : State) (agrees erased : Bool) : State :=
  match s.writing, s.commits with
  | some w, c :: _ =>
    match w.step with
    | .write =>
      if agrees then (s.putSlot c.op.written).concludeCommit true
      else { s with writing := some { w with step := .rewrite } }
    | .rewrite =>
      if agrees then (s.putSlot c.op.written).concludeCommit true
      else { s with writing := some { w with step := .restore } }
    | .restore =>
      if agrees then (s.putSlot w.saved).concludeCommit false
      else { s with writing := some { w with step := .eraseCheck } }
    | .eraseCheck => (s.putSlot (w.saved.withCells (!erased))).concludeCommit false
  | _, _ => s

end Sys2Proof.Machine
end

