-- ==== Sys2Proof/Machine/PartEvents.lean ====
section
/-! DEFINITION. The events of the clock, the shelf and the store, of power and RESET, and of start-up. -/

namespace Sys2Proof.Machine

/-! ## The clock and the windows -/

/-- SECONDS_TICK (R36, R80, R174). -/
def execSecondsTick (s : State) : Host.Outcome State Fault Refusal := .next (s.whenAlive State.tick)

/-- WINDOW_EXPIRY (R37). -/
def execWindowExpiry (s : State) : Host.Outcome State Fault Refusal := .next (if s.alive then s.expire else s)

/-! ## The shelf -/

/-- SENSE_INPUT_TRANSITION: the input goes to a level; a part without power latches nothing (R152, R163). -/
def execSenseInputTransition (l : LineId) (high : Bool) (s : State) : Host.Outcome State Fault Refusal :=
  let s := s.takeDue
  .next (if s.phase = .off then s.setLine l { s.line l with input := high } else (s.senseInput l high).settle)

/-- REF_LOCK_CHANGE: the level alone changes (R145). -/
def execRefLockChange (asserted : Bool) (s : State) : Host.Outcome State Fault Refusal :=
  .next { s.takeDue with refLock := asserted }

/-! ## The store -/

/-- STORE_WRITE_DONE (R166). -/
def execStoreWriteDone (agrees erased : Bool) (s : State) : Host.Outcome State Fault Refusal :=
  .next (s.whenAlive fun s => s.endWrite agrees erased)

/-! ## Power and RESET (R167, R168)

These take no due step first: a complete frame that has not been judged when one of them comes is lost with the rest of the
volatile state, unjudged (DESIGN CHOICE, log 41). -/

/-- POWER_ON: a cold restart, held while RESET is asserted. -/
def execPowerOn (s : State) : Host.Outcome State Fault Refusal :=
  .next (s.restarted (if s.resetLine then .held else .scanning) .cold)

/-- POWER_FAIL: a write in progress is cut off, and the volatile state is lost. -/
def execPowerFail (erased : Bool) (s : State) : Host.Outcome State Fault Refusal :=
  .next ((s.cutWrite erased).restarted .off .cold)

/-- RESET_ASSERTED: a warm restart of cause LINE begins and is held; a write in progress is cut off. -/
def execResetAsserted (erased : Bool) (s : State) : Host.Outcome State Fault Refusal :=
  .next
    (if s.resetLine then s
    else if s.phase = .off then { s with resetLine := true }
    else { (s.cutWrite erased).restarted .held .line with resetLine := true })

/-- RESET_RELEASED: the start-up of a held part begins (R168, R169). -/
def execResetReleased (s : State) : Host.Outcome State Fault Refusal :=
  .next
    (if s.phase = .held then { s with resetLine := false, phase := .scanning, bitRate := .ofStrap s.rateStrap }
    else { s with resetLine := false })

/-! ## Start-up -/

/-- START_UP_SCAN_DONE (R169, R171 to R173). -/
def execStartUpScanDone (s : State) : Host.Outcome State Fault Refusal :=
  .next (if s.phase = .scanning then s.takeDue.endScan else s)

/-- RESTART_BEGINS: the warm restart of cause REQUEST (R170). -/
def execRestartBegins (s : State) : Host.Outcome State Fault Refusal := .next s.beginRestart

end Sys2Proof.Machine
end

