-- ==== Sys2Proof/Machine/Requests.lean ====
section
/-! DEFINITION. The request commands: a good request reaches the request queue (log 5), and the request processor handles it
whole as soon as it is free (R179, R180). -/

namespace Sys2Proof.Machine

/-- A good request reaches the request queue. -/
def State.arrive (s : State) (tag : U8) (r : Request) : Host.Outcome State Fault Refusal :=
  .next (s.whenAlive fun s => s.offerRequest ⟨tag, r⟩)

/-- IDENTIFY (R186). -/
def execIdentify (tag : U8) (s : State) : Host.Outcome State Fault Refusal := s.arrive tag .identify

/-- SET_TIME (R174). -/
def execSetTime (tag : U8) (p : Payload U32) (s : State) : Host.Outcome State Fault Refusal := s.arrive tag (.setTime p)

/-- RESTART (R170). -/
def execRestart (tag : U8) (s : State) : Host.Outcome State Fault Refusal := s.arrive tag .restart

/-- SET_PROFILE (R86, R87, R89). -/
def execSetProfile (tag : U8) (p : Payload SetProfileFields) (s : State) : Host.Outcome State Fault Refusal :=
  s.arrive tag (.setProfile p)

/-- GET_PROFILE (R90). -/
def execGetProfile (tag : U8) (s : State) : Host.Outcome State Fault Refusal := s.arrive tag .getProfile

/-- GET_LANES (R91). -/
def execGetLanes (tag : U8) (s : State) : Host.Outcome State Fault Refusal := s.arrive tag .getLanes

/-- RECALIBRATE (R85). -/
def execRecalibrate (tag : U8) (p : Payload U8) (s : State) : Host.Outcome State Fault Refusal :=
  s.arrive tag (.recalibrate p)

/-- DEFINE_CIRCUIT (R13 to R16). -/
def execDefineCircuit (tag : U8) (p : Payload DefineFields) (s : State) : Host.Outcome State Fault Refusal :=
  s.arrive tag (.defineCircuit p)

/-- DELETE_CIRCUIT (R17). -/
def execDeleteCircuit (tag : U8) (p : Payload U16) (s : State) : Host.Outcome State Fault Refusal :=
  s.arrive tag (.deleteCircuit p)

/-- CLEAR_BASELINE (R18). -/
def execClearBaseline (tag : U8) (p : Payload U16) (s : State) : Host.Outcome State Fault Refusal :=
  s.arrive tag (.clearBaseline p)

/-- GET_CIRCUIT (R19). -/
def execGetCircuit (tag : U8) (p : Payload U16) (s : State) : Host.Outcome State Fault Refusal :=
  s.arrive tag (.getCircuit p)

/-- PROBE_NOW (R20). -/
def execProbeNow (tag : U8) (p : Payload U16) (s : State) : Host.Outcome State Fault Refusal :=
  s.arrive tag (.probeNow p)

/-- GET_QUEUE (R51). -/
def execGetQueue (tag : U8) (s : State) : Host.Outcome State Fault Refusal := s.arrive tag .getQueue

/-- OPEN_WINDOW (R25 to R28). -/
def execOpenWindow (tag : U8) (p : Payload OpenFields) (s : State) : Host.Outcome State Fault Refusal :=
  s.arrive tag (.openWindow p)

/-- EXTEND_WINDOW (R29). -/
def execExtendWindow (tag : U8) (p : Payload ExtendFields) (s : State) : Host.Outcome State Fault Refusal :=
  s.arrive tag (.extendWindow p)

/-- CLOSE_WINDOW (R30, R31). -/
def execCloseWindow (tag : U8) (p : Payload U16) (s : State) : Host.Outcome State Fault Refusal :=
  s.arrive tag (.closeWindow p)

/-- ABORT_WINDOW (R34). -/
def execAbortWindow (tag : U8) (p : Payload U16) (s : State) : Host.Outcome State Fault Refusal :=
  s.arrive tag (.abortWindow p)

/-- GET_WINDOWS (R45). -/
def execGetWindows (tag : U8) (s : State) : Host.Outcome State Fault Refusal := s.arrive tag .getWindows

/-- PERMIT (R120). -/
def execPermit (tag : U8) (s : State) : Host.Outcome State Fault Refusal := s.arrive tag .permit

/-- WITHDRAW_PERMIT (R120). -/
def execWithdrawPermit (tag : U8) (s : State) : Host.Outcome State Fault Refusal := s.arrive tag .withdrawPermit

/-- START_CAPTURE (R124, R125). -/
def execStartCapture (tag : U8) (p : Payload StartFields) (s : State) : Host.Outcome State Fault Refusal :=
  s.arrive tag (.startCapture p)

/-- SUSPEND_CAPTURE (R135). -/
def execSuspendCapture (tag : U8) (s : State) : Host.Outcome State Fault Refusal := s.arrive tag .suspendCapture

/-- RESUME_CAPTURE (R135). -/
def execResumeCapture (tag : U8) (s : State) : Host.Outcome State Fault Refusal := s.arrive tag .resumeCapture

/-- CANCEL_CAPTURE (R136). -/
def execCancelCapture (tag : U8) (s : State) : Host.Outcome State Fault Refusal := s.arrive tag .cancelCapture

/-- GET_CAPTURE (R139). -/
def execGetCapture (tag : U8) (s : State) : Host.Outcome State Fault Refusal := s.arrive tag .getCapture

/-- SET_PROTECTION (R146). -/
def execSetProtection (tag : U8) (p : Payload ProtectFields) (s : State) : Host.Outcome State Fault Refusal :=
  s.arrive tag (.setProtection p)

/-- GET_PROTECTION (R148). -/
def execGetProtection (tag : U8) (s : State) : Host.Outcome State Fault Refusal := s.arrive tag .getProtection

/-- SET_SENSE (R154). -/
def execSetSense (tag : U8) (p : Payload SetSenseFields) (s : State) : Host.Outcome State Fault Refusal :=
  s.arrive tag (.setSense p)

/-- CLEAR_SENSE (R155). -/
def execClearSense (tag : U8) (p : Payload (List U8)) (s : State) : Host.Outcome State Fault Refusal :=
  s.arrive tag (.clearSense p)

/-- GET_SENSE (R162). -/
def execGetSense (tag : U8) (s : State) : Host.Outcome State Fault Refusal := s.arrive tag .getSense

/-- A request whose code names none of the thirty requests (R180, step 1). -/
def execUnknownRequest (tag code : U8) (s : State) : Host.Outcome State Fault Refusal := s.arrive tag (.unknown code)

end Sys2Proof.Machine
end

