-- ==== Sys2Proof/Machine/Dispatch.lean ====
section
/-! DEFINITION. One command's effect on everything but the queue of pending commands. -/

namespace Sys2Proof.Machine

/-- The effect of one command. -/
def exec (i : Instr) (s : State) : Host.Outcome State Fault Refusal :=
  match i with
  | .identify tag => Sys2Proof.Machine.execIdentify tag s
  | .setTime tag p => Sys2Proof.Machine.execSetTime tag p s
  | .restart tag => Sys2Proof.Machine.execRestart tag s
  | .setProfile tag p => Sys2Proof.Machine.execSetProfile tag p s
  | .getProfile tag => Sys2Proof.Machine.execGetProfile tag s
  | .getLanes tag => Sys2Proof.Machine.execGetLanes tag s
  | .recalibrate tag p => Sys2Proof.Machine.execRecalibrate tag p s
  | .defineCircuit tag p => Sys2Proof.Machine.execDefineCircuit tag p s
  | .deleteCircuit tag p => Sys2Proof.Machine.execDeleteCircuit tag p s
  | .clearBaseline tag p => Sys2Proof.Machine.execClearBaseline tag p s
  | .getCircuit tag p => Sys2Proof.Machine.execGetCircuit tag p s
  | .probeNow tag p => Sys2Proof.Machine.execProbeNow tag p s
  | .getQueue tag => Sys2Proof.Machine.execGetQueue tag s
  | .openWindow tag p => Sys2Proof.Machine.execOpenWindow tag p s
  | .extendWindow tag p => Sys2Proof.Machine.execExtendWindow tag p s
  | .closeWindow tag p => Sys2Proof.Machine.execCloseWindow tag p s
  | .abortWindow tag p => Sys2Proof.Machine.execAbortWindow tag p s
  | .getWindows tag => Sys2Proof.Machine.execGetWindows tag s
  | .permit tag => Sys2Proof.Machine.execPermit tag s
  | .withdrawPermit tag => Sys2Proof.Machine.execWithdrawPermit tag s
  | .startCapture tag p => Sys2Proof.Machine.execStartCapture tag p s
  | .suspendCapture tag => Sys2Proof.Machine.execSuspendCapture tag s
  | .resumeCapture tag => Sys2Proof.Machine.execResumeCapture tag s
  | .cancelCapture tag => Sys2Proof.Machine.execCancelCapture tag s
  | .getCapture tag => Sys2Proof.Machine.execGetCapture tag s
  | .setProtection tag p => Sys2Proof.Machine.execSetProtection tag p s
  | .getProtection tag => Sys2Proof.Machine.execGetProtection tag s
  | .setSense tag p => Sys2Proof.Machine.execSetSense tag p s
  | .clearSense tag p => Sys2Proof.Machine.execClearSense tag p s
  | .getSense tag => Sys2Proof.Machine.execGetSense tag s
  | .unknownRequest tag code => Sys2Proof.Machine.execUnknownRequest tag code s
  | .frameReceived => Sys2Proof.Machine.execFrameReceived s
  | .framingError => Sys2Proof.Machine.execFramingError s
  | .receiveGapTimeout => Sys2Proof.Machine.execReceiveGapTimeout s
  | .frameSent => Sys2Proof.Machine.execFrameSent s
  | .secondsTick => Sys2Proof.Machine.execSecondsTick s
  | .windowExpiry => Sys2Proof.Machine.execWindowExpiry s
  | .calibrationDue lane => Sys2Proof.Machine.execCalibrationDue lane s
  | .settled lane => Sys2Proof.Machine.execSettled lane s
  | .sample lane x => Sys2Proof.Machine.execSample lane x s
  | .burstResult lane => Sys2Proof.Machine.execBurstResult lane s
  | .tuneTimeout lane => Sys2Proof.Machine.execTuneTimeout lane s
  | .burstGapTimeout lane => Sys2Proof.Machine.execBurstGapTimeout lane s
  | .parkEnd lane => Sys2Proof.Machine.execParkEnd lane s
  | .senseInputTransition line high => Sys2Proof.Machine.execSenseInputTransition line high s
  | .refLockChange asserted => Sys2Proof.Machine.execRefLockChange asserted s
  | .storeWriteDone agrees erased => Sys2Proof.Machine.execStoreWriteDone agrees erased s
  | .powerOn => Sys2Proof.Machine.execPowerOn s
  | .powerFail erased => Sys2Proof.Machine.execPowerFail erased s
  | .resetAsserted erased => Sys2Proof.Machine.execResetAsserted erased s
  | .resetReleased => Sys2Proof.Machine.execResetReleased s
  | .startUpScanDone => Sys2Proof.Machine.execStartUpScanDone s
  | .restartBegins => Sys2Proof.Machine.execRestartBegins s
  | .byteReceived byte => Sys2Proof.Machine.execByteReceived byte s
  | .rateStrapChange high => Sys2Proof.Machine.execRateStrapChange high s

end Sys2Proof.Machine
end

