-- ==== Sys2Proof/Machine/Frames.lean ====
section
/-! DEFINITION. The frames that the transmitter sends (12.1, R176, R181, R185, R189). -/

namespace Sys2Proof.Machine

/-- A whole frame: start byte, length, class, code, tag, payload and check (R176). -/
def frameBytes (cls code tag : U8) (payload : List U8) : List U8 :=
  let covered := le16 (payload.length + 3) ++ [cls, code, tag] ++ payload
  startByte :: (covered ++ le16 (crc16 covered).toNat)

/-- The part byte: bits 0 to 6 the part number, bit 7 the mark of the last part (R189). -/
def partByte (part : Nat) (last : Bool) : U8 := BitVec.ofNat 8 (part % 128 + if last then 128 else 0)

/-- The payload of one part of a reply: the request code, for a long reply the part byte, and the contents (R181, R189). -/
def Reply.payload (r : Reply) (part : Nat) : List U8 :=
  match r.parts with
  | [] => r.code :: r.body.pieces.flatten
  | ns => r.code :: partByte part (part + 1 == ns.length) :: (dividedBy ns r.body.pieces).getD part []

/-- The frame of one part of a reply (R181, R189). -/
def Reply.frame (r : Reply) (part : Nat) : List U8 := frameBytes 0x02 r.status.code r.tag (r.payload part)

/-- The frame of a notice, its tag byte carrying the discarded mark (12.1, R185). -/
def Notice.frame (n : Notice) (mark : Bool) : List U8 := frameBytes 0x03 n.code (if mark then 0x01 else 0x00) n.payload

/-- The bytes of the frame that is going out. -/
def State.lineFrame (s : State) : Option (List U8) :=
  match s.transmitter with
  | .idle => none
  | .reply part => s.replies.head?.map fun r => r.frame part
  | .notice n mark => some (n.frame mark)

end Sys2Proof.Machine
end

