-- ==== Sys2Proof/Safety.lean ====
section
/-! DEFINITION. What counts as a sound state, and the states between commands in the terms that statements use. -/

namespace Sys2Proof.Machine

/-! ## Between commands -/

/-- The arbiter has no lane left to look at, and no lane is left TUNED at the end of its work (R54, R61). -/
def State.atRest (s : State) : Bool := s.looks.isEmpty && allLanes.all fun l => !(s.lane l).tunedAtEnd

/-- A running part between commands: no step is due, no request waits, RESTART has not been taken, and the transmitter is
busy or has nothing to send. -/
def State.calm (s : State) : Bool :=
  s.phase == .running && !s.restartTaken && !s.restartReplySent && s.requestQueue.isEmpty && s.completeFrame.isNone &&
    !s.expiryDue && (allLanes.all fun l => !s.startsRun l) && s.atRest &&
    (s.transmitter != .idle || (s.replies.isEmpty && s.notices.isEmpty))

/-- A calm part whose request processor is free and whose reply list has room: a request is handled as it arrives. -/
def State.ready (s : State) : Bool :=
  s.calm && s.processor == .free && decide (s.replies.length < Config.replyEntries)

/-- The state with one reply more in the reply list, which an idle transmitter begins to send (R181, R184). -/
def State.withReply (s : State) (r : Reply) : State :=
  { s with
    replies := s.replies ++ [r]
    transmitter := if s.transmitter = .idle then .reply 0 else s.transmitter }

/-- A short reply is placed. -/
def State.replied (s : State) (tag code : U8) (status : Status) (body : ReplyBody) : State :=
  s.withReply ⟨tag, code, status, body, []⟩

/-- A long OK reply is placed; a free value says how it is divided among parts (R189, log 10). -/
def State.repliedLong (s : State) (tag code : U8) (body : ReplyBody) : State :=
  { s.withReply ⟨tag, code, .ok, body, body.partsAt s.freeCount⟩ with freeCount := s.freeCount + 1 }

/-- The state after an unreserved notice: discarded where no entry is FREE, begun at once by an idle transmitter with nothing
else to send, and queued otherwise (R183, R184, R185). -/
def State.noticed (s : State) (n : Notice) : State :=
  if s.hasFree = false then { s with discarded := true }
  else if s.transmitter = .idle then { s with transmitter := .notice n s.discarded, discarded := false }
  else { s with notices := s.notices ++ [n] }

/-- No lane is ready for work (R54), so the arbiter gives none. -/
def State.lanesBusy (s : State) : Bool := allLanes.all fun l => !(s.lane l).ready

/-- A live part between commands, nothing due, whose request processor takes no request and whose transmitter is busy. -/
def State.waits (s : State) : Bool :=
  s.alive && !s.restartDue && !s.takesRequests && s.completeFrame.isNone && !s.expiryDue &&
    (allLanes.all fun l => !s.calibrationIsDue l) && s.atRest && s.transmitter != .idle

/-- The good request that a request command is (log 5). -/
def asRequest : Instr → Option QueuedRequest
  | .identify tag => some ⟨tag, .identify⟩
  | .setTime tag p => some ⟨tag, .setTime p⟩
  | .restart tag => some ⟨tag, .restart⟩
  | .setProfile tag p => some ⟨tag, .setProfile p⟩
  | .getProfile tag => some ⟨tag, .getProfile⟩
  | .getLanes tag => some ⟨tag, .getLanes⟩
  | .recalibrate tag p => some ⟨tag, .recalibrate p⟩
  | .defineCircuit tag p => some ⟨tag, .defineCircuit p⟩
  | .deleteCircuit tag p => some ⟨tag, .deleteCircuit p⟩
  | .clearBaseline tag p => some ⟨tag, .clearBaseline p⟩
  | .getCircuit tag p => some ⟨tag, .getCircuit p⟩
  | .probeNow tag p => some ⟨tag, .probeNow p⟩
  | .getQueue tag => some ⟨tag, .getQueue⟩
  | .openWindow tag p => some ⟨tag, .openWindow p⟩
  | .extendWindow tag p => some ⟨tag, .extendWindow p⟩
  | .closeWindow tag p => some ⟨tag, .closeWindow p⟩
  | .abortWindow tag p => some ⟨tag, .abortWindow p⟩
  | .getWindows tag => some ⟨tag, .getWindows⟩
  | .permit tag => some ⟨tag, .permit⟩
  | .withdrawPermit tag => some ⟨tag, .withdrawPermit⟩
  | .startCapture tag p => some ⟨tag, .startCapture p⟩
  | .suspendCapture tag => some ⟨tag, .suspendCapture⟩
  | .resumeCapture tag => some ⟨tag, .resumeCapture⟩
  | .cancelCapture tag => some ⟨tag, .cancelCapture⟩
  | .getCapture tag => some ⟨tag, .getCapture⟩
  | .setProtection tag p => some ⟨tag, .setProtection p⟩
  | .getProtection tag => some ⟨tag, .getProtection⟩
  | .setSense tag p => some ⟨tag, .setSense p⟩
  | .clearSense tag p => some ⟨tag, .clearSense p⟩
  | .getSense tag => some ⟨tag, .getSense⟩
  | .unknownRequest tag code => some ⟨tag, .unknown code⟩
  | .frameReceived | .framingError | .receiveGapTimeout | .frameSent | .secondsTick | .windowExpiry | .calibrationDue _
  | .settled _ | .sample _ _ | .burstResult _ | .tuneTimeout _ | .burstGapTimeout _ | .parkEnd _
  | .senseInputTransition _ _ | .refLockChange _ | .storeWriteDone _ _ | .powerOn | .powerFail _ | .resetAsserted _
  | .resetReleased | .startUpScanDone | .restartBegins | .byteReceived _ | .rateStrapChange _ => none

/-! ## Sound states -/

/-- The notice queue's queued notices plus its reservations never exceed 32, one being sent counted (R182). -/
def State.noticesFit (s : State) : Bool := decide (s.occupied ≤ Config.noticeEntries)

/-- Released equals the verdict counts plus re-held plus outstanding, and some circuit is outstanding (R42, R44). -/
def Closure.balanced (c : Closure) : Bool :=
  c.released == c.counts.sum + c.reHeld + c.outstanding && decide (1 ≤ c.outstanding)

/-- Every record of the closure list is balanced. -/
def State.closuresBalanced (s : State) : Bool := s.closures.all Closure.balanced

/-- The lists of the part keep their lengths (R23, R35, R40, R179, R181). -/
def State.listsFit (s : State) : Bool :=
  decide (s.stack.length ≤ Config.stackDepth) && decide (s.closures.length ≤ Config.closureDepth) &&
    decide (s.requestQueue.length ≤ Config.requestEntries) && decide (s.replies.length ≤ Config.replyEntries) &&
    s.stack.all fun w => decide (w.events.length ≤ Config.eventListDepth)

/-- The masked status of every line is set exactly when its raw status is set and it is enabled (R153). -/
def State.linesMasked (s : State) : Bool := allLines.all fun l => (s.line l).masked == ((s.line l).raw && (s.line l).enabled)

/-- The trim lies in −600..+600 and the delay offset in 0..65,535 (R83). -/
def figuresFit (trim : Int) (offset : Nat) : Bool :=
  decide (-Config.maxTrim ≤ trim) && decide (trim ≤ Config.maxTrim) && decide (offset ≤ Config.maxOffset)

/-- The figures of a lane lie in their ranges (R78, R80, R83), those a reference run is about to put in force included; a
FAULTED lane has two consecutive errors (R75). -/
def Lane.sound (r : Lane) : Bool :=
  figuresFit r.trim r.offset && decide (r.errorCount ≤ Config.faultCount) && decide (r.age ≤ Config.maxAge) &&
    (match r.calResult with
     | some c => c.outcome != .success || figuresFit c.trim c.offset
     | none => true) &&
    (r.state != .faulted || r.errorCount == Config.faultCount)

/-- Every lane is sound. -/
def State.lanesSound (s : State) : Bool := allLanes.all fun l => (s.lane l).sound

/-- Every table is in its canonical form; the marker-code map, whose every entry counts, has rising keys (R4). -/
def State.tablesCanonical (s : State) : Bool :=
  tableWf {} s.circuits && tableWf [] s.spanIndex && tableWf .erased s.defSlots && tableWf .erased s.baseSlots &&
    decide ((s.codeMap.map (·.1)).Pairwise (· < ·))

/-! ## The indexes -/

/-- The marker-code map leads from exactly the defined circuits' codes to their circuits (R4). -/
def State.codesExact (s : State) : Prop :=
  ∀ code c, s.codeOwner code = some c ↔ (s.circuit c).definition.map (·.code) = some code

/-- The span index lists under each span exactly the circuits whose span list contains it (R5). -/
def State.spansExact (s : State) : Prop :=
  ∀ p c, c ∈ s.crossing p ↔ ∃ d, (s.circuit c).definition = some d ∧ p ∈ d.spans

/-- The list of every span is ascending, without duplicates (R5). -/
def State.spansAscending (s : State) : Bool := s.spanIndex.all fun e => decide (e.2.Pairwise (· < ·))

/-- A DEFINE_CIRCUIT that waits for its commits was checked: no other circuit owns its code (R12, R14); and the processor is
free outside running. -/
def State.jobChecked (s : State) : Bool :=
  (match s.processor with
   | .committing _ (.define id d _ _ _) => s.codeOwner d.code == none || s.codeOwner d.code == some id
   | _ => true) &&
  (s.phase == .running || s.processor == .free)

/-! ## The records agree

What the blocks keep about the same circuit, lane, window or reservation agrees. `State.Agreed` puts the parts together: each
needs the others to be kept by every step. -/

/-- The hold count of every circuit is the number of open windows that cross its spans (R6). -/
def State.holdsCounted (s : State) : Prop :=
  ∀ c, (s.circuit c).holds = s.windowsOver (((s.circuit c).definition.map (·.spans)).getD [])

/-- A circuit is PENDING exactly when one queue entry names it, and no other circuit is named (R47). -/
def State.queueExact (s : State) : Prop :=
  ∀ c, (s.queue.countP fun e => e.circuit == c) = if (s.circuit c).state = .pending then 1 else 0

/-- The hold counts that a circuit's state allows (R6 to R8); a circuit whose capture is in its measuring phase has none
(R131). -/
def State.holdsFitState (s : State) : Prop :=
  ∀ c, match (s.circuit c).state with
    | .held => 1 ≤ (s.circuit c).holds
    | .idle | .pending | .probing => (s.circuit c).holds = 0
    | .capturing => s.entryIs c EntryStatus.isMeasuring = true → (s.circuit c).holds = 0
    | .empty | .unreadable => True

/-- The slots with a definition are those neither EMPTY nor UNREADABLE (R1). -/
def State.definedSlots (s : State) : Prop := ∀ c, (s.circuit c).definition.isSome = (s.circuit c).defined

/-- The lane is tuning, tuned or measuring: the states of a lane with verification or capture work (R65). -/
def Lane.working (r : Lane) : Bool := r.state == .tuning || r.state == .tuned || r.state == .measuring

/-- A lane's grant is its work: a PROBING circuit of the lane (R53, R57). -/
def State.grantAgrees (s : State) (l : LaneId) : Prop :=
  match (s.lane l).grant with
  | some g =>
    (s.circuit g.entry.circuit).state = .probing ∧ s.laneOf g.entry.circuit = some l ∧
      (s.lane l).work = .verification g.entry.circuit ∧ (s.lane l).capture = none ∧ (s.lane l).working = true
  | none => ∀ c, (s.lane l).work ≠ .verification c

/-- A lane's capture is its work: a circuit of the lane whose entry is MEASURING on it (R128). -/
def State.captureAgrees (s : State) (l : LaneId) : Prop :=
  match (s.lane l).capture with
  | some w =>
    s.laneOf w.circuit = some l ∧ s.campaign.entryFor w.circuit = some ⟨w.circuit, .measuring l⟩ ∧
      (s.lane l).work = .capture w.circuit ∧ (s.lane l).working = true
  | none => ∀ c, (s.lane l).work ≠ .capture c

/-- Every PROBING circuit has its grant on its lane (R57, R63). -/
def State.probingGranted (s : State) : Prop := ∀ c, (s.circuit c).state = .probing → (s.grantOf c).isSome = true

/-- The circuits CAPTURING are those with an entry in flight, and a MEASURING entry names the lane that measures it (R9,
R123). -/
def State.captureEntries (s : State) : Prop :=
  (s.campaign.entries.map (·.circuit)).Nodup ∧
    (∀ c, s.entryIs c EntryStatus.inFlight = ((s.circuit c).state == .capturing)) ∧
    ∀ e ∈ s.campaign.entries, ∀ l, e.status = .measuring l → (s.lane l).capture.map (·.circuit) = some e.circuit

/-- The circuits whose baselines wait for their commit or are being committed for the capture controller (R132). -/
def State.committing (s : State) : List Nat :=
  s.campaign.handOff.map (·.circuit) ++
    s.commits.filterMap fun c => match c.submitter with | .capture circuit => some circuit | .processor => none

/-- Every COMMITTING entry has its baseline in the hand-off list or the commit queue, once, and no other circuit has one
(R130, R132); a campaign is in progress while some entry is not FINISHED (R138). -/
def State.commitsAgree (s : State) : Prop :=
  (∀ c, s.committing.count c = if s.entryIs c EntryStatus.isCommitting then 1 else 0) ∧
    (∀ x ∈ s.commits, ∀ c, x.submitter = .capture c → ∃ b, x.op = .writeBaseline c b) ∧
    (s.campaign.state == .idle) = s.campaign.allFinished

/-- The slot of a request that waits for its commits has change in progress and no work (R12). -/
def State.jobQuiet (s : State) : Prop :=
  match s.processor with
  | .committing _ (.define id _ _ _ _) | .committing _ (.delete id _ _) | .committing _ (.clearBaseline id) =>
    (s.circuit id).changing = true ∧ (s.circuit id).state.changeRefusal = none
  | _ => True

/-- The window ids of the stack and the closure list are distinct (R25). -/
def State.windowIdsDistinct (s : State) : Prop := (s.stack.map (·.id) ++ s.closures.map (·.windowId)).Nodup

/-- Every reservation of the notice queue has its owner, and every owner its reservation (R182): a lane's grant, an open window
or closure record, a campaign in progress, a pending profile. -/
def State.reservationsOwned (s : State) : Prop :=
  s.reserved.verdict = (allLanes.countP fun l => (s.lane l).grant.isSome) ∧
    s.reserved.summary = s.stack.length + s.closures.length ∧
    s.reserved.captureDone = (if s.campaign.state = .idle then 0 else 1) ∧
    s.reserved.profileApplied = if s.pendingProfile.isSome then 1 else 0

/-- Outside running the circuit table is empty and no window is open (R21, R46, log 11). -/
def State.emptyOutside (s : State) : Prop := s.phase = .running ∨ (s.circuits = [] ∧ s.stack = [])

/-- The records that the blocks keep agree. -/
structure State.Agreed (s : State) : Prop where
  canonical : s.tablesCanonical = true
  codes : s.codesExact
  spans : s.spansExact
  ascending : s.spansAscending = true
  checked : s.jobChecked = true
  holds : s.holdsCounted
  queue : s.queueExact
  states : s.holdsFitState
  defined : s.definedSlots
  grants : ∀ l, s.grantAgrees l
  captures : ∀ l, s.captureAgrees l
  probing : s.probingGranted
  entries : s.captureEntries
  commits : s.commitsAgree
  job : s.jobQuiet
  ids : s.windowIdsDistinct
  reservations : s.reservationsOwned
  outside : s.emptyOutside

end Sys2Proof.Machine
end

