-- ==== Sys2Proof/Certificates/Slice0/Obligations.lean ====
section
/-! DEFINITION. The statements for the provers. The exact next states say both what a command does and what it leaves
unchanged. -/

open Sys2Proof Sys2Proof.Machine

/-- One step runs the command at the front of the queue, and idles on an empty queue (00 Block overview, How the
blocks work together, 95 What each step holds). The log entries that this rests on: log 1. -/
def Obligations.StepTakesFront : Prop :=
  (∀ (s : State) (c : Instr) (rest : List Instr),
     step { s with pending := c :: rest } = exec c { s with pending := rest }) ∧
  (∀ s : State, s.pending = [] → step s = .next s)

/-- The state after reset: the restart values, and every soundness property that steps keep (4.1 The lane record, 4.7
The profile, 7.2 The campaign and its entries, 9.1 The line record, 10.3 Restarts, 11.8 Identification and the
catalogue). The cold restart, the erased store and the low inputs are the model's choices: log 2, log 3, log 4. The
log entries that this rests on too: log 11. -/
def Obligations.ResetState : Prop :=
  ((∀ l, State.reset.lane l =
       { state := .parked, channel := 48, trim := 0, offset := 0, age := 0, calRequested := true, fresh := false,
         errorCount := 0, work := .none, lastOutcome := none, headCommand := .park })) ∧
  (State.reset.profile =
       { burstLength := 16, floor := 24, rise := 150, fall := 300, delay := 500, retries := 2, interval := 10,
         captureBursts := 4, spreadLimit := 60, quietPass := false } ∧
     State.reset.pendingProfile = none) ∧
  (State.reset.campaign =
       { state := .idle, host := false, window := false, entries := [], progressOwed := false, deferredSuspend := false,
         cancelled := false, handOff := [] } ∧
     State.reset.permit = false ∧ State.reset.overlay = false) ∧
  (∀ l, State.reset.line l =
       { enabled := false, mode := .edge, polarity := .high, bothEdges := false, span := 0, action := .logOnly,
         raw := false, masked := false, input := false }) ∧
  (State.reset.stack = [] ∧ State.reset.closures = [] ∧ State.reset.queue = [] ∧ State.reset.requestQueue = [] ∧
     State.reset.replies = [] ∧ State.reset.notices = [] ∧ State.reset.occupied = 0 ∧ State.reset.discarded = false ∧
     State.reset.commits = [] ∧ State.reset.clock = 0 ∧ State.reset.receiver = .hunting) ∧
  (State.reset.noticesFit = true ∧ State.reset.closuresBalanced = true ∧ State.reset.lanesSound = true ∧
     State.reset.linesMasked = true ∧ State.reset.listsFit = true ∧ State.reset.tablesCanonical = true ∧
     State.reset.codesExact ∧ State.reset.spansExact ∧ State.reset.spansAscending = true ∧
         State.reset.jobChecked = true ∧
     State.reset.Agreed)

/-- IDENTIFY, SET_TIME, PERMIT and WITHDRAW_PERMIT on a ready part: their effects and replies, and nothing else (11.8
Identification and the catalogue, 10.5 The device clock, 7.1 The permit). -/
def Obligations.ShortAnswers : Prop :=
  (∀ (s : State) (tag : U8),
     s.ready = true →
     exec (.identify tag) s =
       .next
         (s.replied tag 0x01 .ok (.identity 0xC808 1 8 512 256 96 4 8))) ∧
  (∀ (s : State) (tag : U8) (v : U32),
     s.ready = true →
     exec (.setTime tag (.fields v)) s =
       .next
         (State.replied { s with clock := v.toNat } tag 0x02 .ok (.clock s.clock v.toNat))) ∧
  (∀ (s : State) (tag : U8),
     s.ready = true →
     exec (.permit tag) s =
       .next
         (State.replied { s with permit := true } tag 0x40 .ok (.permit true))) ∧
  (∀ (s : State) (tag : U8),
     s.ready = true →
     exec (.withdrawPermit tag) s =
       .next
         (State.replied { s with permit := false } tag 0x41 .ok (.permit false)))

/-- GET_PROFILE, GET_LANES, GET_PROTECTION, GET_SENSE, GET_CIRCUIT, GET_QUEUE, GET_WINDOWS and GET_CAPTURE report and
change nothing (4.7 The profile, 4.9 Reading the lanes, 8.4 Reading the protection state, 9.6 Reading the lines, 1.6
Reading and probing a circuit, 3.1 The queue and its entries, 2.9 Reading the windows, 7.9 The end of a campaign, 12
Frame and record layouts, 12.8 Replies longer than one frame). The order of the withholding reasons is log 17, the
division into parts log 10. -/
def Obligations.ReadsReport : Prop :=
  (∀ (s : State) (tag : U8),
     s.ready = true →
     exec (.getProfile tag) s =
       .next
         (s.replied tag 0x11 .ok (.profiles s.profile s.pendingProfile))) ∧
  (∀ (s : State) (tag : U8),
     s.ready = true →
     exec (.getLanes tag) s =
       .next
         (s.replied tag 0x12 .ok
            (.lanes (allLanes.map fun l =>
              { state := (s.lane l).state, channel := (s.lane l).channel, trim := (s.lane l).trim, offset :=
                  (s.lane l).offset,
                age := (s.lane l).age, calRequested := (s.lane l).calRequested,
                due := decide (s.profile.interval ≤ (s.lane l).age) || (s.lane l).calRequested, fresh :=
                    (s.lane l).fresh,
                errorCount := (s.lane l).errorCount, lastOutcome := (s.lane l).lastOutcome, work :=
                    (s.lane l).work })))) ∧
  (∀ (s : State) (tag : U8),
     s.ready = true →
     exec (.getProtection tag) s =
       .next
         (s.replied tag 0x51 .ok
            (.protection
              { region := s.region
                level := if s.overlay then .session else if s.storedLevel = .line then .line else .openLevel
                storedLevel := s.storedLevel, refLock := s.refLock, permit := s.permit
                slotsInside := 16 * (List.range 32).countP fun b => s.region.inside (16 * b + 1) }))) ∧
  (∀ (s : State) (tag : U8),
     s.ready = true →
     exec (.getSense tag) s =
       .next
         (s.replied tag 0x62 .ok
            (.sense (allLines.map fun l =>
              ⟨s.line l,
                if (s.line l).span = 0 then none else
                    some (s.stack.any fun w => w.spans.contains (s.line l).span)⟩)))) ∧
  (∀ (s : State) (tag : U8) (id : U16),
     let r := s.circuit id.toNat;
     s.ready = true →
     exec (.getCircuit tag (.fields id)) s =
       .next
         (if id.toNat = 0 ∨ 512 < id.toNat then s.replied tag 0x23 .badField .none
          else if r.state = .empty then s.replied tag 0x23 .noSuchCircuit .none
          else if r.state = .unreadable then s.replied tag 0x23 .unreadable .none
          else
            s.replied tag 0x23 .ok
              (.circuit ⟨id.toNat, r.state, r.definition, r.baseline, r.holds, r.releaseOwed, r.lastVerdict⟩))) ∧
  (∀ (s : State) (tag : U8),
     s.ready = true →
     exec (.getQueue tag) s =
       .next
         (s.repliedLong tag 0x25
            (.queue (s.queue.map fun e => ⟨e, (s.circuit e.circuit).definition.map (·.lane)⟩)
              (allLanes.map fun l =>
                { errorCount := (s.lane l).errorCount
                  grant := (s.lane l).grant.map fun g => ⟨g.entry, g.burstLength, g.retries, g.attempts.map (·.cls)⟩
                  withheld :=
                    if s.pendingProfile.isSome = true then .profilePending
                    else if (s.lane l).state = .calibrating then .calibrating
                    else if (s.lane l).state ≠ .faulted ∧
                        (s.profile.interval ≤ (s.lane l).age ∨ (s.lane l).calRequested = true) then .due
                    else if ((s.lane l).state = .parked ∨ (s.lane l).state = .faulted) ∧ 32 ≤ s.occupied ∧
                        (∃ e ∈ s.queue, (s.circuit e.circuit).definition.map (·.lane) = some l) then .noNoticeEntry
                    else .none })))) ∧
  (∀ (s : State) (tag : U8),
     s.ready = true →
     exec (.getWindows tag) s =
       .next
         (s.repliedLong tag 0x34
            (.windows (s.stack.reverse.map fun w => ⟨w, (s.crossingAny w.spans).length⟩) s.closures))) ∧
  (∀ (s : State) (tag : U8),
     s.ready = true →
     exec (.getCapture tag) s =
       .next
         (s.repliedLong tag 0x46
            (.capture
              { state := s.campaign.state, host := s.campaign.host, window := s.campaign.window
                progressOwed := s.campaign.progressOwed, deferredSuspend := s.campaign.deferredSuspend
                cancelled := s.campaign.cancelled
                pendingCommits := s.campaign.entries.countP fun e => e.status.isCommitting
                entries := s.campaign.entries }))) ∧
  (∀ (b : ReplyBody) (n : Nat), b.isLong = true → (∀ p ∈ b.pieces, p.length ≤ 1016) →
     let ns := b.partsAt n
     ns ≠ [] ∧ ns.sum = b.pieces.length ∧ (dividedBy ns b.pieces).length = ns.length ∧
       (dividedBy ns b.pieces).flatten = b.pieces.flatten ∧ ∀ part ∈ dividedBy ns b.pieces, part.length ≤ 1016) ∧
  (∀ (r : Reply) (part : Nat), part < r.parts.length → part < 128 →
     r.payload part =
       [r.code, BitVec.ofNat 8 (if part + 1 = r.parts.length then part + 128 else part)] ++
         (dividedBy r.parts r.body.pieces)[part]?.getD [])

/-- A request with an unknown code or a short payload is answered UNKNOWN_REQUEST or BAD_LENGTH and changes nothing
(11.4 The request processor). -/
def Obligations.RefusedBeforeHandling : Prop :=
  (∀ (s : State) (tag code : U8),
     s.ready = true →
     exec (.unknownRequest tag code) s =
       .next
         (s.replied tag code .unknownRequest .none)) ∧
  (∀ (s : State) (tag : U8),
     s.ready = true →
     exec (.setTime tag .short) s =
       .next
         (s.replied tag 0x02 .badLength .none)) ∧
  (∀ (s : State) (tag : U8),
     s.ready = true →
     exec (.setProfile tag .short) s =
       .next
         (s.replied tag 0x10 .badLength .none)) ∧
  (∀ (s : State) (tag : U8),
     s.ready = true →
     exec (.recalibrate tag .short) s =
       .next
         (s.replied tag 0x13 .badLength .none)) ∧
  (∀ (s : State) (tag : U8),
     s.ready = true →
     exec (.defineCircuit tag .short) s =
       .next
         (s.replied tag 0x20 .badLength .none)) ∧
  (∀ (s : State) (tag : U8),
     s.ready = true →
     exec (.deleteCircuit tag .short) s =
       .next
         (s.replied tag 0x21 .badLength .none)) ∧
  (∀ (s : State) (tag : U8),
     s.ready = true →
     exec (.clearBaseline tag .short) s =
       .next
         (s.replied tag 0x22 .badLength .none)) ∧
  (∀ (s : State) (tag : U8),
     s.ready = true →
     exec (.getCircuit tag .short) s =
       .next
         (s.replied tag 0x23 .badLength .none)) ∧
  (∀ (s : State) (tag : U8),
     s.ready = true →
     exec (.probeNow tag .short) s =
       .next
         (s.replied tag 0x24 .badLength .none)) ∧
  (∀ (s : State) (tag : U8),
     s.ready = true →
     exec (.openWindow tag .short) s =
       .next
         (s.replied tag 0x30 .badLength .none)) ∧
  (∀ (s : State) (tag : U8),
     s.ready = true →
     exec (.extendWindow tag .short) s =
       .next
         (s.replied tag 0x31 .badLength .none)) ∧
  (∀ (s : State) (tag : U8),
     s.ready = true →
     exec (.closeWindow tag .short) s =
       .next
         (s.replied tag 0x32 .badLength .none)) ∧
  (∀ (s : State) (tag : U8),
     s.ready = true →
     exec (.abortWindow tag .short) s =
       .next
         (s.replied tag 0x33 .badLength .none)) ∧
  (∀ (s : State) (tag : U8),
     s.ready = true →
     exec (.startCapture tag .short) s =
       .next
         (s.replied tag 0x42 .badLength .none)) ∧
  (∀ (s : State) (tag : U8),
     s.ready = true →
     exec (.setProtection tag .short) s =
       .next
         (s.replied tag 0x50 .badLength .none)) ∧
  (∀ (s : State) (tag : U8),
     s.ready = true →
     exec (.setSense tag .short) s =
       .next
         (s.replied tag 0x60 .badLength .none)) ∧
  (∀ (s : State) (tag : U8),
     s.ready = true →
     exec (.clearSense tag .short) s =
       .next
         (s.replied tag 0x61 .badLength .none))

/-- A request that the processor cannot take waits in the queue of 8, or is answered BUSY, or is dropped (11.3 The
request queue, 10.3 Restarts). -/
def Obligations.RequestWaits : Prop :=
  ∀ (s : State) (cmd : Instr) (q : QueuedRequest),
    asRequest cmd = some q →
    s.waits = true →
    exec cmd s =
      .next
        (if s.requestQueue.length < 8 then { s with requestQueue := s.requestQueue ++ [q] }
         else if s.replies.length < 8 then
             { s with replies := s.replies ++ [⟨q.tag, q.request.code, .busy, .none, []⟩] }
         else s)

/-- SET_PROFILE with every lane PARKED or FAULTED applies the clamped profile at once and starts the runs of due lanes
(4.7 The profile). -/
def Obligations.ProfileApplied : Prop :=
  (∀ (s : State) (tag : U8) (f : SetProfileFields),
     s.ready = true →
     f.burstLength.toNat ∈ [8, 16, 32, 64] →
     f.quietPass = 0 ∨ f.quietPass = 1 →
     s.pendingProfile = none →
     (∀ l, (s.lane l).state = .parked ∨ (s.lane l).state = .faulted) →
     s.queue = [] →
     s.campaign.state ≠ .running →
     exec (.setProfile tag (.fields f)) s =
       .next
         (State.replied
            { s with
              profile := f.profile
              lanes := s.lanes.map fun r =>
                if r.state = .parked ∧ (f.profile.interval ≤ r.age ∨ r.calRequested = true) then r.startRun else r }
            tag 0x10 (if f.clamped then .adjusted else .ok) (.profileApplied f.profile))) ∧
  (∀ f : SetProfileFields,
     f.profile =
       { burstLength := f.burstLength.toNat
         floor := min 4095 (max 1 f.floor.toNat)
         rise := min 2000 (max 10 f.rise.toNat)
         fall := min 2000 (max 10 f.fall.toNat)
         delay := min 100000 (max 20 f.delay.toNat)
         retries := min 3 f.retries.toNat
         interval := min 60 (max 1 f.interval.toNat)
         captureBursts := min 8 (max 1 f.captureBursts.toNat)
         spreadLimit := min 500 (max 10 f.spread.toNat)
         quietPass := f.quietPass == 1 } ∧
     (f.clamped = false ↔
       f.profile.floor = f.floor.toNat ∧ f.profile.rise = f.rise.toNat ∧ f.profile.fall = f.fall.toNat ∧
         f.profile.delay = f.delay.toNat ∧ f.profile.retries = f.retries.toNat ∧ f.profile.interval = f.interval.toNat ∧
         f.profile.captureBursts = f.captureBursts.toNat ∧ f.profile.spreadLimit = f.spread.toNat))

/-- SET_PROFILE refused, made pending behind busy lanes with a reservation, or replacing the pending profile (4.7 The
profile, 11.6 The notice queue). -/
def Obligations.ProfileMadePending : Prop :=
  (∀ (s : State) (tag : U8) (f : SetProfileFields),
     s.ready = true →
     ¬(f.burstLength.toNat ∈ [8, 16, 32, 64] ∧ (f.quietPass = 0 ∨ f.quietPass = 1)) →
     exec (.setProfile tag (.fields f)) s =
       .next
         (s.replied tag 0x10 .badField .none)) ∧
  (∀ (s : State) (tag : U8) (f : SetProfileFields),
     s.ready = true →
     f.burstLength.toNat ∈ [8, 16, 32, 64] →
     f.quietPass = 0 ∨ f.quietPass = 1 →
     s.pendingProfile.isSome = true →
     exec (.setProfile tag (.fields f)) s =
       .next
         (State.replied { s with pendingProfile := some f.profile }
             tag 0x10 .accepted (.profilePending f.profile f.clamped))) ∧
  (∀ (s : State) (tag : U8) (f : SetProfileFields),
     s.ready = true →
     f.burstLength.toNat ∈ [8, 16, 32, 64] →
     f.quietPass = 0 ∨ f.quietPass = 1 →
     s.pendingProfile = none →
     (∃ l, (s.lane l).state ≠ .parked ∧ (s.lane l).state ≠ .faulted) →
     exec (.setProfile tag (.fields f)) s =
       .next
         (if s.occupied < 32 then
            State.replied
              { s with
                pendingProfile := some f.profile
                reserved := { s.reserved with profileApplied := s.reserved.profileApplied + 1 } }
              tag 0x10 .accepted (.profilePending f.profile f.clamped)
          else s.replied tag 0x10 .noticesFull .none))

/-- RECALIBRATE starts a run on a FAULTED or free PARKED lane and marks any other lane due (4.5 Calibration). -/
def Obligations.RecalibrateByState : Prop :=
  (∀ (s : State) (tag n : U8),
     s.ready = true →
     8 ≤ n.toNat →
     exec (.recalibrate tag (.fields n)) s =
       .next
         (s.replied tag 0x13 .badField .none)) ∧
  (∀ (s : State) (tag n : U8) (l : LaneId),
     let r := s.lane l;
     s.ready = true →
     n.toNat = l.val →
     exec (.recalibrate tag (.fields n)) s =
       .next
         (if r.state = .faulted then
            (s.setLane l { r with errorCount := 0 }.startRun).replied tag 0x13 .ok (.laneState .calibrating)
          else if r.state = .parked ∧ s.pendingProfile = none then
            (s.setLane l { r with calRequested := true }.startRun).replied tag 0x13 .ok (.laneState .calibrating)
          else (s.setLane l { r with calRequested := true }).replied tag 0x13 .ok (.laneState r.state)))

/-- What starting, parking, stopping and ending a lane's work set in its record and send to its head (4.2 The probe-
head port, 4.3 Lane states, 4.4 Lane errors and burst stops, 4.5 Calibration). -/
def Obligations.LaneOperations : Prop :=
  (∀ r : Lane, r.startRun =
     { r with
       state := .calibrating, work := .referenceRun, calStep := some .tune, calResult := none, samples := [],
       headCommand := .tuneReference }) ∧
  (∀ r : Lane, r.park = { r with state := .parking, samples := [], headCommand := .park }) ∧
  (∀ r : Lane, r.burst = { r with state := .measuring, samples := [], headCommand := .burst r.burstLength }) ∧
  (∀ r : Lane, r.endWork = { r with work := .none, grant := none, capture := none, handed := none }) ∧
  (∀ (r : Lane) (c : CalResult), r.closeRun c =
     { r with calStep := some .park, calResult := some c, samples := [], handed := none, headCommand := .park }) ∧
  (∀ (r : Lane) (channel n : Nat), r.begin channel n =
     if r.state = .tuned then { r with state := .measuring, samples := [], burstLength := n, headCommand := .burst n }
     else { r with state := .tuning, channel := channel, burstLength := n, headCommand := .tune channel }) ∧
  (∀ r : Lane, r.stop =
     if r.state = .tuned ∨ r.state = .measuring then r.endWork.park else r.endWork)

/-- A DEFINE_CIRCUIT that passes its checks marks the slot, hands on its commit, and changes nothing else yet (1.4
Defining a circuit, 1.1 The circuit record, 10.2 The commit queue). -/
def Obligations.DefineTaken : Prop :=
  (∀ (s : State) (tag : U8) (f : DefineFields) (l : LaneId),
     let d : Definition := ⟨l, f.channel.toNat, f.code.toNat, f.spans.map BitVec.toNat, f.override⟩;
     let id := f.id.toNat;
     let r := s.circuit id;
     let kind := r.defineKind d;
     s.ready = true →
     s.commits = [] →
     s.writing = none →
     f.lane.toNat = l.val →
     1 ≤ f.id.toNat ∧ f.id.toNat ≤ 512 →
     1 ≤ f.channel.toNat ∧ f.channel.toNat ≤ 96 →
     1 ≤ f.code.toNat ∧ f.code.toNat ≤ 1023 →
     f.presence.toNat < 8 →
     1 ≤ f.spans.length ∧ f.spans.length ≤ 12 →
     (∀ p ∈ f.spans, 1 ≤ p.toNat ∧ p.toNat ≤ 256) →
     f.spans.Nodup →
     s.codeOwner d.code = none ∨ s.codeOwner d.code = some id →
     r.state = .empty ∨ r.state = .idle ∨ r.state = .unreadable →
     r.state = .empty ∨ s.insideRegion id = false →
     kind ≠ .discarding ∨ s.permit = true →
     exec (.defineCircuit tag (.fields f)) s =
       .next
         ({ s.setCircuit id { r with changing := true } with
            processor := .committing tag (.define id d kind f.clamped false)
            commits := [⟨.writeDefinition id d, .processor⟩]
            writing := some ⟨.write, .definition id (tableRead .erased s.defSlots id)⟩
            defSlots := tableWrite .erased s.defSlots id .damaged })) ∧
  (∀ f : DefineFields,
     f.override =
       { rise := if f.presence.getLsbD 0 then some (min 2000 (max 10 f.rise.toNat)) else none
         fall := if f.presence.getLsbD 1 then some (min 2000 (max 10 f.fall.toNat)) else none
         delay := if f.presence.getLsbD 2 then some (min 100000 (max 20 f.delay.toNat)) else none } ∧
     (f.clamped = false ↔
       f.override =
         { rise := if f.presence.getLsbD 0 then some f.rise.toNat else none
           fall := if f.presence.getLsbD 1 then some f.fall.toNat else none
           delay := if f.presence.getLsbD 2 then some f.delay.toNat else none })) ∧
  (∀ (r : Circuit) (d : Definition), r.defineKind d =
     match r.definition with
     | none => .new
     | some old =>
       if old.lane = d.lane ∧ old.channel = d.channel ∧ old.code = d.code ∧ old.spans = d.spans then .overrideOnly
       else if r.baseline = none then .noBaseline
       else .discarding)

/-- The refusals of DEFINE_CIRCUIT, DELETE_CIRCUIT and CLEAR_BASELINE in order, and what each does to the permit (1.4
Defining a circuit, 1.5 Deleting a circuit and clearing its baseline, 7.1 The permit). The log entries that this rests
on: log 46. -/
def Obligations.ChangeRefusals : Prop :=
  (∀ (s : State) (tag : U8) (f : DefineFields),
     s.ready = true →
     (¬(f.lane.toNat < 8 ∧ (1 ≤ f.id.toNat ∧ f.id.toNat ≤ 512) ∧ (1 ≤ f.channel.toNat ∧ f.channel.toNat ≤ 96) ∧
         (1 ≤ f.code.toNat ∧ f.code.toNat ≤ 1023) ∧ f.presence.toNat < 8 ∧
         (1 ≤ f.spans.length ∧ f.spans.length ≤ 12) ∧ (∀ p ∈ f.spans, 1 ≤ p.toNat ∧ p.toNat ≤ 256) ∧ f.spans.Nodup)) →
     exec (.defineCircuit tag (.fields f)) s =
       .next
         (s.replied tag 0x20 .badField .none)) ∧
  (∀ (s : State) (tag : U8) (f : DefineFields) (l : LaneId) (o : Nat),
     let d : Definition := ⟨l, f.channel.toNat, f.code.toNat, f.spans.map BitVec.toNat, f.override⟩;
     let id := f.id.toNat;
     let r := s.circuit id;
     let kind := r.defineKind d;
     s.ready = true →
     f.lane.toNat = l.val →
     1 ≤ f.id.toNat ∧ f.id.toNat ≤ 512 →
     1 ≤ f.channel.toNat ∧ f.channel.toNat ≤ 96 →
     1 ≤ f.code.toNat ∧ f.code.toNat ≤ 1023 →
     f.presence.toNat < 8 →
     1 ≤ f.spans.length ∧ f.spans.length ≤ 12 →
     (∀ p ∈ f.spans, 1 ≤ p.toNat ∧ p.toNat ≤ 256) →
     f.spans.Nodup →
     s.codeOwner d.code = some o →
     o ≠ id →
     exec (.defineCircuit tag (.fields f)) s =
       .next
         (State.replied { s with permit := s.permit && kind != .discarding } tag 0x20 .codeInUse (.codeOwner o))) ∧
  (∀ (s : State) (tag : U8) (f : DefineFields) (l : LaneId),
     let d : Definition := ⟨l, f.channel.toNat, f.code.toNat, f.spans.map BitVec.toNat, f.override⟩;
     let id := f.id.toNat;
     let r := s.circuit id;
     let kind := r.defineKind d;
     s.ready = true →
     f.lane.toNat = l.val →
     1 ≤ f.id.toNat ∧ f.id.toNat ≤ 512 →
     1 ≤ f.channel.toNat ∧ f.channel.toNat ≤ 96 →
     1 ≤ f.code.toNat ∧ f.code.toNat ≤ 1023 →
     f.presence.toNat < 8 →
     1 ≤ f.spans.length ∧ f.spans.length ≤ 12 →
     (∀ p ∈ f.spans, 1 ≤ p.toNat ∧ p.toNat ≤ 256) →
     f.spans.Nodup →
     s.codeOwner d.code = none ∨ s.codeOwner d.code = some id →
     ¬((r.state = .empty ∨ r.state = .idle ∨ r.state = .unreadable) ∧ (r.state = .empty ∨ s.insideRegion id = false) ∧
        (kind ≠ .discarding ∨ s.permit = true)) →
     exec (.defineCircuit tag (.fields f)) s =
       .next
         (let spent : State := { s with permit := s.permit && kind != .discarding }
          if r.state = .held then spent.replied tag 0x20 .circuitHeld .none
          else if r.state = .pending ∨ r.state = .probing ∨ r.state = .capturing then
              spent.replied tag 0x20 .circuitBusy .none
          else if s.insideRegion id ∧ r.state ≠ .empty then spent.replied tag 0x20 .insideRegion .none
          else s.replied tag 0x20 .noPermit .none)) ∧
  (∀ (s : State) (tag : U8) (id : U16),
     let r := s.circuit id.toNat;
     s.ready = true →
     ¬((1 ≤ id.toNat ∧ id.toNat ≤ 512) ∧
        (r.state = .unreadable ∨
          (r.state = .idle ∧ s.insideRegion id.toNat = false ∧ (r.baseline = none ∨ s.permit = true)))) →
     exec (.deleteCircuit tag (.fields id)) s =
       .next
         (if id.toNat = 0 ∨ 512 < id.toNat then s.replied tag 0x21 .badField .none
          else if r.state = .empty then s.replied tag 0x21 .noSuchCircuit .none
          else if r.state = .held then s.replied tag 0x21 .circuitHeld .none
          else if r.state = .pending ∨ r.state = .probing ∨ r.state = .capturing then
              s.replied tag 0x21 .circuitBusy .none
          else if s.insideRegion id.toNat then
            State.replied { s with permit := s.permit && r.baseline.isNone } tag 0x21 .insideRegion .none
          else s.replied tag 0x21 .noPermit .none)) ∧
  (∀ (s : State) (tag : U8) (id : U16),
     let r := s.circuit id.toNat;
     s.ready = true →
     ¬((1 ≤ id.toNat ∧ id.toNat ≤ 512) ∧ r.state = .idle ∧ s.insideRegion id.toNat = false ∧ s.permit = true) →
     exec (.clearBaseline tag (.fields id)) s =
       .next
         (let spent : State := { s with permit := false }
          if id.toNat = 0 ∨ 512 < id.toNat then spent.replied tag 0x22 .badField .none
          else if r.state = .empty then spent.replied tag 0x22 .noSuchCircuit .none
          else if r.state = .unreadable then spent.replied tag 0x22 .unreadable .none
          else if r.state = .held then spent.replied tag 0x22 .circuitHeld .none
          else if r.state ≠ .idle then spent.replied tag 0x22 .circuitBusy .none
          else if s.insideRegion id.toNat then spent.replied tag 0x22 .insideRegion .none
          else s.replied tag 0x22 .noPermit .none))

/-- A DELETE_CIRCUIT or CLEAR_BASELINE that passes its checks marks the slot and begins the erase of its baseline slot
(1.5 Deleting a circuit and clearing its baseline, 10.2 The commit queue, 7.1 The permit). -/
def Obligations.DeleteAndClearTaken : Prop :=
  (∀ (s : State) (tag : U8) (id : U16),
     let r := s.circuit id.toNat;
     s.ready = true →
     s.commits = [] →
     s.writing = none →
     1 ≤ id.toNat ∧ id.toNat ≤ 512 →
     r.state = .unreadable ∨ (r.state = .idle ∧ s.insideRegion id.toNat = false ∧ (r.baseline = none ∨
         s.permit = true)) →
     exec (.deleteCircuit tag (.fields id)) s =
       .next
         ({ s.setCircuit id.toNat { r with changing := true } with
            processor := .committing tag (.delete id.toNat (r.state == .idle && r.baseline.isSome) false)
            commits := [⟨.eraseBaseline id.toNat, .processor⟩]
            writing := some ⟨.write, .baseline id.toNat (tableRead .erased s.baseSlots id.toNat)⟩
            baseSlots := tableWrite .erased s.baseSlots id.toNat .damaged })) ∧
  (∀ (s : State) (tag : U8) (id : U16),
     let r := s.circuit id.toNat;
     s.ready = true →
     s.commits = [] →
     s.writing = none →
     1 ≤ id.toNat ∧ id.toNat ≤ 512 →
     r.state = .idle →
     s.insideRegion id.toNat = false →
     s.permit = true →
     exec (.clearBaseline tag (.fields id)) s =
       .next
         (if r.baseline = none then State.replied { s with permit := false } tag 0x22 .ok .none
          else
            { s.setCircuit id.toNat { r with changing := true } with
              processor := .committing tag (.clearBaseline id.toNat)
              commits := [⟨.eraseBaseline id.toNat, .processor⟩]
              writing := some ⟨.write, .baseline id.toNat (tableRead .erased s.baseSlots id.toNat)⟩
              baseSlots := tableWrite .erased s.baseSlots id.toNat .damaged }))

/-- PROBE_NOW queues an IDLE circuit behind its busy lane and is refused by every other state (1.6 Reading and probing
a circuit, 3.1 The queue and its entries). -/
def Obligations.ProbeNowAnswered : Prop :=
  (∀ (s : State) (tag : U8) (id : U16) (d : Definition),
     let r := s.circuit id.toNat;
     s.ready = true →
     1 ≤ id.toNat ∧ id.toNat ≤ 512 →
     r.state = .idle →
     r.definition = some d →
     (s.lane d.lane).ready = false →
     exec (.probeNow tag (.fields id)) s =
       .next
         (State.replied
            (State.setCircuit { s with queue := s.queue ++ [⟨id.toNat, .request, none, false, false⟩] } id.toNat
              { r with state := .pending })
            tag 0x24 .ok .none)) ∧
  (∀ (s : State) (tag : U8) (id : U16),
     let r := s.circuit id.toNat;
     s.ready = true →
     ¬((1 ≤ id.toNat ∧ id.toNat ≤ 512) ∧ r.state = .idle) →
     exec (.probeNow tag (.fields id)) s =
       .next
         (if id.toNat = 0 ∨ 512 < id.toNat then s.replied tag 0x24 .badField .none
          else if r.state = .empty then s.replied tag 0x24 .noSuchCircuit .none
          else if r.state = .unreadable then s.replied tag 0x24 .unreadable .none
          else if r.state = .held then s.replied tag 0x24 .circuitHeld .none
          else if r.state = .capturing then s.replied tag 0x24 .circuitBusy .none
          else s.replied tag 0x24 .alreadyPending .none))

/-- PROBE_NOW of an IDLE circuit on a free PARKED lane is granted at once: PROBING, a reservation, and the lane tunes
(3.3 The lane arbiter, 3.2 The lane grant, 1.6 Reading and probing a circuit). -/
def Obligations.ProbeNowGranted : Prop :=
  ∀ (s : State) (tag : U8) (id : U16) (d : Definition),
    let r := s.circuit id.toNat;
    s.ready = true →
    1 ≤ id.toNat ∧ id.toNat ≤ 512 →
    r.state = .idle →
    r.definition = some d →
    s.pendingProfile = none →
    (s.lane d.lane).state = .parked →
    (s.lane d.lane).age < s.profile.interval →
    (s.lane d.lane).calRequested = false →
    (∀ e ∈ s.queue, (s.circuit e.circuit).definition.map (·.lane) ≠ some d.lane) →
    s.occupied < 32 →
    exec (.probeNow tag (.fields id)) s =
      .next
        (State.replied
           { (s.setCircuit id.toNat { r with state := .probing }).setLane d.lane
               { s.lane d.lane with
                 state := .tuning
                 channel := d.channel
                 headCommand := .tune d.channel
                 burstLength := s.profile.burstLength
                 work := .verification id.toNat
                 grant := some
                   { entry := ⟨id.toNat, .request, none, false, false⟩
                     burstLength := s.profile.burstLength
                     retries := s.profile.retries
                     attempts := []
                     phase := .tuning } } with
             reserved := { s.reserved with verdict := s.reserved.verdict + 1 } }
           tag 0x24 .ok .none)

/-- A taken OPEN_WINDOW reserves its summary, pushes the window, holds each circuit it crosses and suspends the
campaign (2.2 Opening a window, 1.3 Circuit states, 7.7 Suspension and resumption). -/
def Obligations.OpenWindowTaken : Prop :=
  ∀ (s : State) (tag : U8) (f : OpenFields),
    let spans := ascending (f.spans.map BitVec.toNat);
    let duration := min 86400 (max 60 f.duration.toNat);
    s.ready = true →
    1 ≤ f.id.toNat →
    f.spans ≠ [] →
    (∀ p ∈ f.spans, 1 ≤ p.toNat ∧ p.toNat ≤ 256) →
    spans.length ≤ 32 →
    s.stack.length < 4 →
    (∀ w ∈ s.stack, w.id ≠ f.id.toNat) →
    (∀ c ∈ s.closures, c.windowId ≠ f.id.toNat) →
    s.occupied < 32 →
    (∀ c ∈ s.crossingAny spans, (s.circuit c).state = .idle ∨ (s.circuit c).state = .held) →
    ∃ t, exec (.openWindow tag (.fields f)) s = .next t ∧
      (t =
         State.replied
           { s with
             stack := ⟨f.id.toNat, spans, duration, s.clock, [], false⟩ :: s.stack
             reserved := { s.reserved with summary := s.reserved.summary + 1 }
             circuits := t.circuits
             campaign :=
               if s.campaign.state = .idle then s.campaign
               else
                 { s.campaign with
                   window := true, state := if s.campaign.anyInFlight then .suspending else .suspended } }
           tag 0x30 (if duration = f.duration.toNat then .ok else .adjusted)
           (.windowOpened duration (s.crossingAny spans).length (s.stack.length + 1))) ∧
      (∀ c : Nat, t.circuit c =
         if c ∈ s.crossingAny spans then { s.circuit c with holds := (s.circuit c).holds + 1, state := .held }
         else s.circuit c)

/-- What a hold does to a circuit by its state: a PENDING one leaves the queue, a PROBING one is taken back from its
lane (1.3 Circuit states, 2.2 Opening a window, 2.8 Closure records and their accounting, 3.4 The attempt loop, 7.5
The measuring phase, 7.7 Suspension and resumption). -/
def Obligations.HoldTaken : Prop :=
  (∀ (s : State) (c : Nat), (s.circuit c).state = .idle ∨ (s.circuit c).state = .held →
     s.addHold c = s.setCircuit c { s.circuit c with holds := (s.circuit c).holds + 1, state := .held }) ∧
  (∀ (s : State) (c : Nat), (s.circuit c).state = .pending → s.queuedTag c = none →
     s.addHold c =
       { s.setCircuit c { s.circuit c with holds := (s.circuit c).holds + 1, state := .held } with
         queue := s.queue.filter fun e => e.circuit != c }) ∧
  (∀ (s : State) (c : Nat) (d : Definition) (g : Grant), (s.circuit c).state = .probing →
     (s.circuit c).definition = some d → (s.lane d.lane).grant = some g → g.entry.circuit = c → g.entry.tag = none →
     s.addHold c =
       { ((s.setCircuit c { s.circuit c with holds := (s.circuit c).holds + 1, state := .held }).setLane d.lane
           (s.lane d.lane).stop) with
         reserved := { s.reserved with verdict := s.reserved.verdict - 1 }
         looks := (s.addHold c).looks }) ∧
  (∀ (s : State) (c : Nat) (l : LaneId), (s.circuit c).state = .capturing →
     s.campaign.entryFor c = some ⟨c, .measuring l⟩ →
     let entries := s.campaign.entries.map fun e => if e.circuit = c then ⟨c, .unprocessed⟩ else e
     s.addHold c =
       { ((s.setCircuit c { s.circuit c with holds := (s.circuit c).holds + 1, state := .held }).setLane l
           (s.lane l).stop) with
         campaign :=
           { s.campaign with
             entries := entries
             state :=
               if s.campaign.state = .idle ∨ (s.campaign.host = false ∧ s.campaign.window = false) then s.campaign.state
               else if entries.any (fun e => e.status.inFlight) then .suspending
               else .suspended }
         looks := (s.addHold c).looks }) ∧
  (∀ (s : State) (c : Nat), (s.circuit c).state = .capturing → s.entryIs c EntryStatus.isMeasuring = false →
     s.addHold c =
       s.setCircuit c { s.circuit c with holds := (s.circuit c).holds + 1, releaseOwed := none }) ∧
  (∀ (s : State) (t : Nat) (r : Closure), s.closures.find? (fun c => c.windowId == t) = some r → 1 < r.outstanding →
     s.countReHold (some t) =
       { s with
         closures := s.closures.map fun c =>
           if c.windowId = t then { r with reHeld := r.reHeld + 1, outstanding := r.outstanding - 1 } else c }) ∧
  (∀ (s : State) (c t : Nat) (r : Closure), (s.circuit c).state = .pending → s.queuedTag c = some t →
     s.closures.find? (fun x => x.windowId == t) = some r → 1 ≤ s.reserved.summary →
     let reHeld (u : State) (r : Closure) : State :=
       let r' : Closure := { r with reHeld := r.reHeld + 1, outstanding := r.outstanding - 1 }
       if 1 < r.outstanding then
         { u with closures := u.closures.map fun x => if x.windowId = r.windowId then r' else x }
       else
         { u with
           closures := u.closures.filter fun x => x.windowId != r.windowId
           reserved := { u.reserved with summary := u.reserved.summary - 1 }
           notices := u.notices ++ [.windowSummary r' false] }
     s.addHold c =
       reHeld
         { s.setCircuit c { s.circuit c with holds := (s.circuit c).holds + 1, state := .held } with
           queue := s.queue.filter fun e => e.circuit != c }
         r) ∧
  (∀ (s : State) (c t : Nat) (r : Closure) (d : Definition) (g : Grant), (s.circuit c).state = .probing →
     (s.circuit c).definition = some d → (s.lane d.lane).grant = some g → g.entry.circuit = c → g.entry.tag = some t →
     s.closures.find? (fun x => x.windowId == t) = some r → 1 ≤ s.reserved.summary →
     let reHeld (u : State) (r : Closure) : State :=
       let r' : Closure := { r with reHeld := r.reHeld + 1, outstanding := r.outstanding - 1 }
       if 1 < r.outstanding then
         { u with closures := u.closures.map fun x => if x.windowId = r.windowId then r' else x }
       else
         { u with
           closures := u.closures.filter fun x => x.windowId != r.windowId
           reserved := { u.reserved with summary := u.reserved.summary - 1 }
           notices := u.notices ++ [.windowSummary r' false] }
     s.addHold c =
       { reHeld
           { ((s.setCircuit c { s.circuit c with holds := (s.circuit c).holds + 1, state := .held }).setLane d.lane
               (s.lane d.lane).stop) with
             reserved := { s.reserved with verdict := s.reserved.verdict - 1 } }
           r with
         looks := (s.addHold c).looks }) ∧
  (∀ (s : State) (c t : Nat), (s.circuit c).state = .pending → s.queuedTag c = some t →
     s.closures.find? (fun x => x.windowId == t) = none →
     s.addHold c =
       { s.setCircuit c { s.circuit c with holds := (s.circuit c).holds + 1, state := .held } with
         queue := s.queue.filter fun e => e.circuit != c })

/-- The refusals of OPEN_WINDOW, CLOSE_WINDOW and ABORT_WINDOW, in order, change nothing (2.2 Opening a window, 2.4
Closing a window, 2.5 Aborting a window). -/
def Obligations.WindowRefusals : Prop :=
  (∀ (s : State) (tag : U8) (f : OpenFields),
     let spans := ascending (f.spans.map BitVec.toNat);
     s.ready = true →
     (¬(1 ≤ f.id.toNat ∧ f.spans ≠ [] ∧ (∀ p ∈ f.spans, 1 ≤ p.toNat ∧ p.toNat ≤ 256) ∧ spans.length ≤ 32)) →
     exec (.openWindow tag (.fields f)) s =
       .next
         (s.replied tag 0x30 .badField .none)) ∧
  (∀ (s : State) (tag : U8) (f : OpenFields),
     let spans := ascending (f.spans.map BitVec.toNat);
     s.ready = true →
     1 ≤ f.id.toNat →
     f.spans ≠ [] →
     (∀ p ∈ f.spans, 1 ≤ p.toNat ∧ p.toNat ≤ 256) →
     spans.length ≤ 32 →
     (¬(s.stack.length < 4 ∧ (∀ w ∈ s.stack, w.id ≠ f.id.toNat) ∧ (∀ c ∈ s.closures, c.windowId ≠ f.id.toNat) ∧
         s.occupied < 32)) →
     exec (.openWindow tag (.fields f)) s =
       .next
         (if 4 ≤ s.stack.length then s.replied tag 0x30 .stackFull (.openWindows (s.stack.map (·.id)).reverse)
          else if ∃ w ∈ s.stack, w.id = f.id.toNat then s.replied tag 0x30 .idInUse (.idFound true)
          else if ∃ c ∈ s.closures, c.windowId = f.id.toNat then s.replied tag 0x30 .idInUse (.idFound false)
          else s.replied tag 0x30 .noticesFull .none)) ∧
  (∀ (s : State) (tag : U8) (id : U16),
     s.ready = true →
     id.toNat = 0 ∨ s.stack.head?.map (·.id) ≠ some id.toNat ∨ 8 ≤ s.closures.length →
     exec (.closeWindow tag (.fields id)) s =
       .next
         (if id.toNat = 0 then s.replied tag 0x32 .badField .none
          else
            match s.stack with
            | [] => s.replied tag 0x32 .noWindow .none
            | w :: _ =>
              if w.id ≠ id.toNat then s.replied tag 0x32 .notTop (.topWindow w.id)
              else s.replied tag 0x32 .summaryBacklog .none)) ∧
  (∀ (s : State) (tag : U8) (id : U16),
     s.ready = true →
     id.toNat = 0 ∨ s.stack.head?.map (·.id) ≠ some id.toNat →
     exec (.abortWindow tag (.fields id)) s =
       .next
         (if id.toNat = 0 then s.replied tag 0x33 .badField .none
          else
            match s.stack with
            | [] => s.replied tag 0x33 .noWindow .none
            | w :: _ => s.replied tag 0x33 .notTop (.topWindow w.id)))

/-- EXTEND_WINDOW adds its seconds to the named window up to 86,400, or is refused (2.3 Extending a window). -/
def Obligations.ExtendWindowAnswered : Prop :=
  ∀ (s : State) (tag : U8) (f : ExtendFields),
    s.ready = true →
    exec (.extendWindow tag (.fields f)) s =
      .next
        (if f.id.toNat = 0 ∨ f.seconds.toNat = 0 then s.replied tag 0x31 .badField .none
         else
           match s.stack.find? fun w => w.id == f.id.toNat with
           | none => s.replied tag 0x31 .noWindow .none
           | some w =>
             State.replied
               { s with
                 stack := s.stack.map fun (x : Window) =>
                   if x.id = f.id.toNat then { x with remaining := min 86400 (w.remaining + f.seconds.toNat) } else x }
               tag 0x31 (if 86400 < w.remaining + f.seconds.toNat then .adjusted else .ok)
               (.remaining (min 86400 (w.remaining + f.seconds.toNat))))

/-- A taken CLOSE_WINDOW removes the top window's holds and releases its circuits under a closure record, or sends its
summary (2.4 Closing a window, 2.8 Closure records and their accounting, 1.3 Circuit states, 3.1 The queue and its
entries). That the reply goes before the summary on an idle transmitter is the model's choice: log 9. -/
def Obligations.CloseWindowTaken : Prop :=
  ∀ (s : State) (tag : U8) (id : U16) (w : Window) (rest : List Window),
    let held := s.crossingAny w.spans;
    let released := held.filter fun c => (s.circuit c).state = .held ∧ (s.circuit c).holds = 1;
    let account : Closure :=
      { windowId := w.id, endKind := .closed, openedAt := w.openedAt, endedAt := s.clock, released := released.length
        outstanding := released.length, reHeld := 0, counts := {}, spanEvents := 0, events := w.events
        moreEvents := w.moreEvents };
    s.ready = true →
    s.lanesBusy = true →
    s.stack = w :: rest →
    id.toNat = w.id →
    w.id ≠ 0 →
    s.closures.length < 8 →
    s.campaign.state = .idle →
    s.campaign.window = false →
    1 ≤ s.reserved.summary →
    (∀ c ∈ held, 1 ≤ (s.circuit c).holds ∧ ((s.circuit c).state = .held ∨ (s.circuit c).state = .capturing)) →
    ∃ t, exec (.closeWindow tag (.fields id)) s = .next t ∧
      (t =
         State.replied
           { s with
             stack := rest
             circuits := t.circuits
             closures := if released = [] then s.closures else s.closures ++ [account]
             queue := s.queue ++ released.map fun c =>
               { circuit := c, cause := .windowClose, tag := some w.id, expired := false
                 spanEvent := w.events.any fun e => ((s.circuit c).definition.map (·.spans)).any (·.contains e.span) }
             reserved :=
               if released = [] then { s.reserved with summary := s.reserved.summary - 1 } else s.reserved
             notices := if released = [] then s.notices ++ [.windowSummary account false] else s.notices }
           tag 0x32 .ok (.released released.length)) ∧
      (∀ c : Nat, t.circuit c =
         let r := s.circuit c
         if c ∈ held then
           if 1 < r.holds then { r with holds := r.holds - 1 }
           else if r.state = .held then { r with holds := 0, state := .pending }
           else { r with holds := 0, releaseOwed := some .windowClose }
         else r)

/-- A taken ABORT_WINDOW returns the circuits it alone held to IDLE without verification and returns its reservation
(2.5 Aborting a window, 1.3 Circuit states, 11.6 The notice queue). -/
def Obligations.AbortWindowTaken : Prop :=
  ∀ (s : State) (tag : U8) (id : U16) (w : Window) (rest : List Window),
    let held := s.crossingAny w.spans;
    s.ready = true →
    s.lanesBusy = true →
    s.stack = w :: rest →
    id.toNat = w.id →
    w.id ≠ 0 →
    s.campaign.state = .idle →
    s.campaign.window = false →
    (∀ c ∈ held, 1 ≤ (s.circuit c).holds ∧ ((s.circuit c).state = .held ∨ (s.circuit c).state = .capturing)) →
    ∃ t, exec (.abortWindow tag (.fields id)) s = .next t ∧
      (t =
         State.replied
           { s with
             stack := rest
             circuits := t.circuits
             reserved := { s.reserved with summary := s.reserved.summary - 1 } }
           tag 0x33 .ok
           (.returned (held.filter fun c => (s.circuit c).state = .held ∧ (s.circuit c).holds = 1).length)) ∧
      (∀ c : Nat, t.circuit c =
         let r := s.circuit c
         if c ∈ held then
           if 1 < r.holds ∨ r.state ≠ .held then { r with holds := r.holds - 1 }
           else { r with holds := 0, state := .idle }
         else r)

/-- A taken START_CAPTURE reserves its notice, makes an UNPROCESSED entry for each circuit, starts and uses the permit
(7.3 Starting a campaign, 7.4 Reaching the entries, 7.5 The measuring phase, 7.9 The end of a campaign, 7.1 The
permit). That the reply goes before CAPTURE_DONE on an idle transmitter is the model's choice (log 9), and so is the
state carried by a campaign that ends at once (log 29). -/
def Obligations.StartCaptureTaken : Prop :=
  (∀ (s : State) (tag : U8) (f : StartFields) (ids : List Nat),
     s.ready = true →
     ((f.option = 0 ∧ f.ids ≠ [] ∧ f.ids.length ≤ 512 ∧ (∀ c ∈ f.ids, 1 ≤ c.toNat ∧ c.toNat ≤ 512) ∧
          ids = keepFirst (f.ids.map BitVec.toNat)) ∨
        (f.option = 1 ∧ f.count = 0 ∧ ids = s.unreferenced)) →
     ids ≠ [] →
     s.campaign.state = .idle →
     s.permit = true →
     s.occupied < 32 →
     s.stack ≠ [] →
     exec (.startCapture tag (.fields f)) s =
       .next
         (State.replied
            { s with
              campaign := { entries := ids.map fun c => ⟨c, .unprocessed⟩, state := .suspended, window := true }
              reserved := { s.reserved with captureDone := s.reserved.captureDone + 1 }
              permit := false }
            tag 0x42 .accepted (.captureStarted ids.length .suspended 0))) ∧
  (∀ (s : State) (tag : U8) (f : StartFields) (ids : List Nat),
     s.ready = true →
     ((f.option = 0 ∧ f.ids ≠ [] ∧ f.ids.length ≤ 512 ∧ (∀ c ∈ f.ids, 1 ≤ c.toNat ∧ c.toNat ≤ 512) ∧
          ids = keepFirst (f.ids.map BitVec.toNat)) ∨
        (f.option = 1 ∧ f.count = 0 ∧ ids = s.unreferenced)) →
     ids ≠ [] →
     s.campaign.state = .idle →
     s.permit = true →
     s.occupied < 32 →
     s.stack = [] →
     s.lanesBusy = true →
     (∀ c ∈ ids, (s.circuit c).state ≠ .empty ∧ (s.circuit c).state ≠ .unreadable) →
     exec (.startCapture tag (.fields f)) s =
       .next
         (State.replied
            { s with
              campaign := { entries := ids.map fun c => ⟨c, .unprocessed⟩, state := .running }
              reserved := { s.reserved with captureDone := s.reserved.captureDone + 1 }
              permit := false }
            tag 0x42 .accepted (.captureStarted ids.length .running 0))) ∧
  (∀ (s : State) (tag : U8) (f : StartFields) (ids : List Nat),
     s.ready = true →
     ((f.option = 0 ∧ f.ids ≠ [] ∧ f.ids.length ≤ 512 ∧ (∀ c ∈ f.ids, 1 ≤ c.toNat ∧ c.toNat ≤ 512) ∧
          ids = keepFirst (f.ids.map BitVec.toNat)) ∨
        (f.option = 1 ∧ f.count = 0 ∧ ids = s.unreferenced)) →
     s.campaign.state = .idle →
     s.permit = true →
     s.occupied < 32 →
     s.stack = [] →
     s.lanesBusy = true →
     (∃ c ∈ ids, (s.circuit c).state ≠ .empty ∧ (s.circuit c).state ≠ .unreadable) →
     (∀ c ∈ ids, (s.circuit c).changing = false) →
     exec (.startCapture tag (.fields f)) s =
       .next
         (State.replied
            { s with
              campaign :=
                { state := .running
                  entries := ids.map fun c =>
                    { circuit := c
                      status :=
                        if (s.circuit c).state = .empty then .finished .notDefined
                        else if (s.circuit c).state = .unreadable then .finished .unreadable
                        else .unprocessed } }
              reserved := { s.reserved with captureDone := s.reserved.captureDone + 1 }
              permit := false }
            tag 0x42 .accepted
            (.captureStarted ids.length .running
              (ids.countP fun c => (s.circuit c).state == .empty || (s.circuit c).state == .unreadable)))) ∧
  (∀ (s : State) (tag : U8) (f : StartFields) (ids : List Nat),
     s.ready = true →
     ((f.option = 0 ∧ f.ids ≠ [] ∧ f.ids.length ≤ 512 ∧ (∀ c ∈ f.ids, 1 ≤ c.toNat ∧ c.toNat ≤ 512) ∧
          ids = keepFirst (f.ids.map BitVec.toNat)) ∨
        (f.option = 1 ∧ f.count = 0 ∧ ids = s.unreferenced)) →
     ids ≠ [] →
     s.campaign.state = .idle →
     s.permit = true →
     s.occupied < 32 →
     s.stack = [] →
     s.lanesBusy = true →
     (∀ c ∈ ids, ((s.circuit c).state = .empty ∨ (s.circuit c).state = .unreadable) ∧ (s.circuit c).changing = false) →
     exec (.startCapture tag (.fields f)) s =
       .next
         (State.replied
            { s with
              campaign :=
                { entries := ids.map fun c =>
                    ⟨c, .finished (if (s.circuit c).state = .empty then .notDefined else .unreadable)⟩ }
              notices := s.notices ++
                [.captureDone ids.length
                  ({ entries := ids.map fun c =>
                      ⟨c, .finished (if (s.circuit c).state = .empty then .notDefined else
                          .unreadable)⟩ } : Campaign).resultCounts
                  false s.clock]
              permit := false }
            tag 0x42 .accepted (.captureStarted ids.length .running ids.length))) ∧
  (∀ (s : State) (tag : U8) (f : StartFields) (ids before after : List Nat) (c : Nat) (d : Definition) (l : LaneId),
     s.ready = true →
     ((f.option = 0 ∧ f.ids ≠ [] ∧ f.ids.length ≤ 512 ∧ (∀ c ∈ f.ids, 1 ≤ c.toNat ∧ c.toNat ≤ 512) ∧
          ids = keepFirst (f.ids.map BitVec.toNat)) ∨
        (f.option = 1 ∧ f.count = 0 ∧ ids = s.unreferenced)) →
     s.campaign.state = .idle →
     s.permit = true →
     s.occupied < 32 →
     s.stack = [] →
     (∀ c ∈ ids, (s.circuit c).state ≠ .empty ∧ (s.circuit c).state ≠ .unreadable) →
     (∀ l' : LaneId, l' ≠ l → (s.lane l').ready = false) →
     (∀ e ∈ s.queue, (s.circuit e.circuit).definition.map (·.lane) ≠ some l) →
     s.pendingProfile = none →
     (s.lane l).state = .parked →
     (s.lane l).fresh = true →
     (s.lane l).age < s.profile.interval ∧ (s.lane l).calRequested = false →
     ids = before ++ c :: after →
     (∀ x ∈ before, (s.circuit x).definition.map (·.lane) ≠ some l ∨ (s.circuit x).state ≠ .idle ∨
         (s.circuit x).changing = true) →
     (s.circuit c).definition = some d →
     d.lane = l →
     (s.circuit c).state = .idle →
     (s.circuit c).changing = false →
     s.insideRegion c = false →
     exec (.startCapture tag (.fields f)) s =
       .next
         (State.replied
            { (s.setCircuit c { s.circuit c with state := .capturing }).setLane l
                { s.lane l with
                  state := .tuning, channel := d.channel, headCommand := .tune d.channel, burstLength :=
                      s.profile.burstLength
                  work := .capture c
                  capture := some ⟨c, s.profile.burstLength, s.profile.captureBursts, s.profile.spreadLimit, []⟩ } with
              campaign := { state := .running, entries := ids.map fun x => ⟨x, if x = c then .measuring l else
                  .unprocessed⟩ }
              reserved := { s.reserved with captureDone := s.reserved.captureDone + 1 }
              permit := false }
            tag 0x42 .accepted (.captureStarted ids.length .running 0))) ∧
  (∀ (s : State) (tag : U8) (f : StartFields),
     s.ready = true →
     f.option = 1 ∧ f.count = 0 →
     s.unreferenced = [] →
     s.campaign.state = .idle →
     s.permit = true →
     s.occupied < 32 →
     exec (.startCapture tag (.fields f)) s =
       .next
         (State.replied
            { s with
              campaign := {}
              notices := s.notices ++ [.captureDone 0 ⟨0, 0, 0, 0, 0, 0, 0, 0, 0, 0, 0, 0⟩ false s.clock]
              permit := false }
            tag 0x42 .accepted (.captureStarted 0 .idle 0))) ∧
  (∀ s : State, s.tablesCanonical = true →
     s.unreferenced.Pairwise (· < ·) ∧
     ∀ c, c ∈ s.unreferenced ↔
       ((s.circuit c).state = .idle ∨ (s.circuit c).state = .held ∨ (s.circuit c).state = .pending ∨
           (s.circuit c).state = .probing) ∧
         (s.circuit c).baseline = none)

/-- A refused START_CAPTURE uses the permit up, except where it is refused NO_PERMIT (7.3 Starting a campaign, 7.1 The
permit). -/
def Obligations.StartCaptureRefused : Prop :=
  (∀ (s : State) (tag : U8) (f : StartFields),
     s.ready = true →
     (¬((f.option = 0 ∧ f.ids ≠ [] ∧ f.ids.length ≤ 512 ∧ (∀ c ∈ f.ids, 1 ≤ c.toNat ∧ c.toNat ≤ 512)) ∨
        (f.option = 1 ∧ f.count = 0))) →
     exec (.startCapture tag (.fields f)) s =
       .next
         (State.replied { s with permit := false } tag 0x42 .badField .none)) ∧
  (∀ (s : State) (tag : U8) (f : StartFields),
     s.ready = true →
     ((f.option = 0 ∧ f.ids ≠ [] ∧ f.ids.length ≤ 512 ∧ (∀ c ∈ f.ids, 1 ≤ c.toNat ∧ c.toNat ≤ 512)) ∨
        (f.option = 1 ∧ f.count = 0)) →
     ¬(s.campaign.state = .idle ∧ s.permit = true ∧ s.occupied < 32) →
     exec (.startCapture tag (.fields f)) s =
       .next
         (if s.campaign.state ≠ .idle then
            State.replied { s with permit := false } tag 0x42 .captureActive
              (.campaignState s.campaign.state s.campaign.host s.campaign.window)
          else if s.permit = false then s.replied tag 0x42 .noPermit .none
          else State.replied { s with permit := false } tag 0x42 .noticesFull .none))

/-- SUSPEND_CAPTURE adds HOST or defers it while progress is owed; RESUME_CAPTURE removes HOST and owes progress (7.7
Suspension and resumption). -/
def Obligations.SuspendAndResume : Prop :=
  (∀ (s : State) (tag : U8),
     let c : Campaign :=
       if s.campaign.host then s.campaign
       else if s.campaign.progressOwed then { s.campaign with deferredSuspend := true }
       else if s.campaign.anyInFlight then { s.campaign with host := true, state := .suspending }
       else { s.campaign with host := true, state := .suspended };
     s.ready = true →
     exec (.suspendCapture tag) s =
       .next
         (if s.campaign.state = .idle then s.replied tag 0x43 .noCapture .none
          else State.replied { s with campaign := c }
              tag 0x43 .ok (.captureReasons c.state c.host c.window c.deferredSuspend))) ∧
  (∀ (s : State) (tag : U8),
     let c : Campaign :=
       if s.campaign.host = false then s.campaign
       else
         { s.campaign with
           host := false, progressOwed := true, deferredSuspend := false
           state := if s.campaign.window then s.campaign.state else .running };
     s.ready = true →
     s.lanesBusy = true →
     (s.campaign.host = true → s.campaign.state ≠ .running) →
     (∀ e ∈ s.campaign.entries, e.status = .unprocessed →
         (s.circuit e.circuit).state ≠ .empty ∧ (s.circuit e.circuit).state ≠ .unreadable) →
     exec (.resumeCapture tag) s =
       .next
         (if s.campaign.state = .idle then s.replied tag 0x44 .noCapture .none
          else State.replied { s with campaign := c }
              tag 0x44 .ok (.captureReasons c.state c.host c.window c.deferredSuspend)))

/-- CANCEL_CAPTURE finishes every UNPROCESSED entry CANCELLED and leaves the committing ones to conclude (7.7
Suspension and resumption, 7.2 The campaign and its entries, 7.9 The end of a campaign, 4.4 Lane errors and burst
stops). That the reply goes before CAPTURE_DONE on an idle transmitter is the model's choice: log 9. -/
def Obligations.CancelCaptureTaken : Prop :=
  (∀ (s : State) (tag : U8),
     s.ready = true →
     s.campaign.state = .idle →
     exec (.cancelCapture tag) s =
       .next
         (s.replied tag 0x45 .noCapture .none)) ∧
  (∀ (s : State) (tag : U8),
     let n := s.campaign.entries.countP fun e => e.status == .unprocessed;
     s.ready = true →
     s.campaign.state = .running →
     s.campaign.host = false ∧ s.campaign.window = false ∧ s.campaign.deferredSuspend = false →
     (s.campaign.entries.map (·.circuit)).Nodup →
     (∃ e ∈ s.campaign.entries, e.status.isCommitting = true) →
     (∀ e ∈ s.campaign.entries, e.status.isMeasuring = false) →
     exec (.cancelCapture tag) s =
       .next
         (State.replied
            { s with
              campaign :=
                { s.campaign with
                  cancelled := true, progressOwed := s.campaign.progressOwed && n == 0
                  entries := s.campaign.entries.map fun e =>
                    if e.status = .unprocessed then { e with status := .finished .cancelled } else e } }
            tag 0x45 .ok (.cancelledEntries n))) ∧
  (∀ (s : State) (tag : U8),
     let entries := s.campaign.entries.map fun e =>
       if e.status = .unprocessed then { e with status := .finished .cancelled } else e;
     s.ready = true →
     s.campaign.state ≠ .idle →
     s.campaign.deferredSuspend = false →
     (s.campaign.entries.map (·.circuit)).Nodup →
     (∃ e ∈ s.campaign.entries, e.status = .unprocessed) →
     (∀ e ∈ s.campaign.entries, e.status.inFlight = false) →
     1 ≤ s.reserved.captureDone →
     exec (.cancelCapture tag) s =
       .next
         (State.replied
            { s with
              campaign :=
                { s.campaign with
                  state := .idle, host := false, window := false, cancelled := true, progressOwed := false
                  deferredSuspend := false, entries := entries }
              reserved := { s.reserved with captureDone := s.reserved.captureDone - 1 }
              notices := s.notices ++
                [.captureDone entries.length ({ s.campaign with entries := entries }
                    : Campaign).resultCounts true s.clock] }
            tag 0x45 .ok (.cancelledEntries (s.campaign.entries.countP fun e => e.status == .unprocessed)))) ∧
  (∀ (s : State) (tag : U8),
     let entries := s.campaign.entries.map fun e =>
       if e.status = .unprocessed ∨ e.status.isMeasuring = true then { e with status := .finished .cancelled } else e;
     let n := s.campaign.entries.countP fun e => e.status == .unprocessed || e.status.isMeasuring;
     s.ready = true →
     s.campaign.state ≠ .idle →
     s.campaign.deferredSuspend = false →
     (s.campaign.entries.map (·.circuit)).Nodup →
     (∃ e ∈ s.campaign.entries, e.status.isCommitting = true) →
     (∃ e ∈ s.campaign.entries, e.status.isMeasuring = true) →
     ∃ t, exec (.cancelCapture tag) s = .next t ∧
       (t =
          State.replied
            { s with
              circuits := t.circuits
              lanes := t.lanes
              campaign :=
                { s.campaign with
                  cancelled := true, progressOwed := false, entries := entries
                  state := if s.campaign.host || s.campaign.window then .suspending else s.campaign.state } }
            tag 0x45 .ok (.cancelledEntries n)) ∧
       (∀ c : Nat, t.circuit c =
          if s.entryIs c EntryStatus.isMeasuring then { s.circuit c with state := .idle } else s.circuit c) ∧
       (∀ l : LaneId, t.lane l =
          if ∃ e ∈ s.campaign.entries, e.status = .measuring l then (s.lane l).stop else s.lane l)) ∧
  (∀ (s : State) (tag : U8),
     let entries := s.campaign.entries.map fun e =>
       if e.status = .unprocessed ∨ e.status.isMeasuring = true then { e with status := .finished .cancelled } else e;
     let n := s.campaign.entries.countP fun e => e.status == .unprocessed || e.status.isMeasuring;
     s.ready = true →
     s.campaign.state ≠ .idle →
     s.campaign.deferredSuspend = false →
     (s.campaign.entries.map (·.circuit)).Nodup →
     (∀ e ∈ s.campaign.entries, e.status.isCommitting = false) →
     (∃ e ∈ s.campaign.entries, e.status.isMeasuring = true) →
     1 ≤ s.reserved.captureDone →
     ∃ t, exec (.cancelCapture tag) s = .next t ∧
       (t =
          State.replied
            { s with
              circuits := t.circuits
              lanes := t.lanes
              campaign :=
                { s.campaign with
                  state := .idle, host := false, window := false, cancelled := true, progressOwed := false
                  deferredSuspend := false, entries := entries }
              reserved := { s.reserved with captureDone := s.reserved.captureDone - 1 }
              notices := s.notices ++
                [.captureDone entries.length ({ s.campaign with entries := entries }
                    : Campaign).resultCounts true s.clock] }
            tag 0x45 .ok (.cancelledEntries n)) ∧
       (∀ c : Nat, t.circuit c =
          if s.entryIs c EntryStatus.isMeasuring then { s.circuit c with state := .idle } else s.circuit c) ∧
       (∀ l : LaneId, t.lane l =
          if ∃ e ∈ s.campaign.entries, e.status = .measuring l then (s.lane l).stop else s.lane l))

/-- SET_PROTECTION begins the commit of the new region and level, or is refused BAD_FIELD, LOCKED or NO_PERMIT (8.3
Changing the region and the level, 8.2 Lock levels). The REF_LOCK level in a LOCKED reply at SESSION is the model's
choice: log 39. -/
def Obligations.SetProtectionAnswered : Prop :=
  (∀ (s : State) (tag : U8) (f : ProtectFields),
     let level : LockLevel :=
       if s.overlay then .session else if s.storedLevel = .line then .line else .openLevel;
     s.ready = true →
     f.side.toNat ≤ 1 ∧ f.n.toNat ≤ 32 ∧ f.complement.toNat ≤ 1 ∧ f.level.toNat ≤ 2 →
     level = .session ∨ (level = .line ∧ s.refLock = true) ∨ s.permit = false →
     exec (.setProtection tag (.fields f)) s =
       .next
         (if level = .session ∨ (level = .line ∧ s.refLock = true) then
            s.replied tag 0x50 .locked (.locked level s.refLock)
          else s.replied tag 0x50 .noPermit .none)) ∧
  (∀ (s : State) (tag : U8) (f : ProtectFields),
     s.ready = true →
     ¬(f.side.toNat ≤ 1 ∧ f.n.toNat ≤ 32 ∧ f.complement.toNat ≤ 1 ∧ f.level.toNat ≤ 2) →
     exec (.setProtection tag (.fields f)) s =
       .next
         (State.replied { s with permit := false } tag 0x50 .badField .none)) ∧
  (∀ (s : State) (tag : U8) (f : ProtectFields),
     let level : LockLevel :=
       if s.overlay then .session else if s.storedLevel = .line then .line else .openLevel;
     let record : ProtectionRecord :=
       { region :=
           { side := if f.side = 0 then .low else .high, n := f.n.toNat, complement := f.complement == 1 }
         level := if f.level = 0 then .openLevel else if f.level = 1 then .line else s.storedLevel };
     s.ready = true →
     s.commits = [] →
     s.writing = none →
     f.side.toNat ≤ 1 ∧ f.n.toNat ≤ 32 ∧ f.complement.toNat ≤ 1 ∧ f.level.toNat ≤ 2 →
     level = .openLevel ∨ (level = .line ∧ s.refLock = false) →
     s.permit = true →
     exec (.setProtection tag (.fields f)) s =
       .next
         ({ s with
            regionBeingWritten := some record.region
            processor := .committing tag (.protect record (f.level == 2))
            commits := [⟨.writeProtection record, .processor⟩]
            writing := some ⟨.write, .protection s.protSlot⟩
            protSlot := .damaged }))

/-- SET_SENSE replaces a line's configuration and forms its status anew; CLEAR_SENSE clears the named lines (9.2
Latching and events, 9.3 Configuring and clearing the lines, 9.5 The SENSE notice). The model's choices: a reply
before the SENSE notices on an idle transmitter is log 9, the ascending order of the events and of the lines in
CLEAR_SENSE's reply, each once with its number, log 40. -/
def Obligations.SenseRequestsAnswered : Prop :=
  (∀ (s : State) (tag : U8) (f : SetSenseFields),
     s.ready = true →
     ¬(f.line.toNat < 16 ∧ f.enabled.toNat ≤ 1 ∧ f.mode.toNat ≤ 1 ∧ f.polarity.toNat ≤ 1 ∧ f.bothEdges.toNat ≤ 1 ∧
         f.action.toNat ≤ 1 ∧ f.binding.toNat ≤ 256 ∧ (f.mode = 0 ∨ f.bothEdges = 0)) →
     exec (.setSense tag (.fields f)) s =
       .next
         (s.replied tag 0x60 .badField .none)) ∧
  (∀ (s : State) (tag : U8) (f : SetSenseFields) (l : LineId),
     let r : SenseLine :=
       { s.line l with
         enabled := f.enabled == 1, mode := if f.mode = 0 then .edge else .level
         polarity := if f.polarity = 0 then .high else .low, bothEdges := f.bothEdges == 1, span := f.binding.toNat
         action := if f.action = 0 then .logOnly else .verify
         raw := (s.line l).raw || (f.mode == 1 && (s.line l).input == (f.polarity == 0))
         masked :=
           f.enabled == 1 && ((s.line l).raw || (f.mode == 1 && (s.line l).input == (f.polarity == 0))) };
     s.ready = true →
     f.line.toNat = l.val →
     f.enabled.toNat ≤ 1 ∧ f.mode.toNat ≤ 1 ∧ f.polarity.toNat ≤ 1 ∧ f.bothEdges.toNat ≤ 1 ∧ f.action.toNat ≤ 1 →
     f.binding.toNat ≤ 256 →
     f.mode = 0 ∨ f.bothEdges = 0 →
     (s.line l).masked = true ∨ r.masked = false →
     exec (.setSense tag (.fields f)) s =
       .next
         ((s.setLine l r).replied tag 0x60 .ok (.senseSet r false))) ∧
  (∀ (s : State) (tag : U8) (f : SetSenseFields) (l : LineId),
     let r : SenseLine :=
       { s.line l with
         enabled := f.enabled == 1, mode := if f.mode = 0 then .edge else .level
         polarity := if f.polarity = 0 then .high else .low, bothEdges := f.bothEdges == 1, span := f.binding.toNat
         action := if f.action = 0 then .logOnly else .verify
         raw := (s.line l).raw || (f.mode == 1 && (s.line l).input == (f.polarity == 0))
         masked :=
           f.enabled == 1 && ((s.line l).raw || (f.mode == 1 && (s.line l).input == (f.polarity == 0))) };
     s.ready = true →
     f.line.toNat = l.val →
     f.enabled.toNat ≤ 1 ∧ f.mode.toNat ≤ 1 ∧ f.polarity.toNat ≤ 1 ∧ f.bothEdges.toNat ≤ 1 ∧ f.action.toNat ≤ 1 →
     f.binding.toNat ≤ 256 →
     f.mode = 0 ∨ f.bothEdges = 0 →
     f.binding = 0 →
     (s.line l).masked = false ∧ r.masked = true →
     exec (.setSense tag (.fields f)) s =
       .next
         (State.replied
            (if s.occupied < 32 then
              { s.setLine l r with notices := s.notices ++ [Notice.sense l 0 r.mode s.clock .noticeOnly] }
            else { s.setLine l r with discarded := true })
            tag 0x60 .ok (.senseSet r true))) ∧
  (∀ (s : State) (tag : U8) (f : SetSenseFields) (l : LineId) (before after : List Window) (w : Window),
     let r : SenseLine :=
       { s.line l with
         enabled := f.enabled == 1, mode := if f.mode = 0 then .edge else .level
         polarity := if f.polarity = 0 then .high else .low, bothEdges := f.bothEdges == 1, span := f.binding.toNat
         action := if f.action = 0 then .logOnly else .verify
         raw := (s.line l).raw || (f.mode == 1 && (s.line l).input == (f.polarity == 0))
         masked :=
           f.enabled == 1 && ((s.line l).raw || (f.mode == 1 && (s.line l).input == (f.polarity == 0))) };
     let queued (u : State) (n : Notice) : State :=
       if s.occupied < 32 then { u with notices := u.notices ++ [n] } else { u with discarded := true };
     s.ready = true →
     f.line.toNat = l.val →
     f.enabled.toNat ≤ 1 ∧ f.mode.toNat ≤ 1 ∧ f.polarity.toNat ≤ 1 ∧ f.bothEdges.toNat ≤ 1 ∧ f.action.toNat ≤ 1 →
     f.binding.toNat ≤ 256 →
     f.mode = 0 ∨ f.bothEdges = 0 →
     f.binding ≠ 0 →
     (s.line l).masked = false ∧ r.masked = true →
     s.stack = before ++ w :: after →
     (∀ x ∈ before, r.span ∉ x.spans) →
     r.span ∈ w.spans →
     exec (.setSense tag (.fields f)) s =
       .next
         (State.replied
            (queued
              { s.setLine l r with
                stack :=
                  before ++
                    (if w.events.length < 16 then { w with events := w.events ++ [⟨l, r.span, s.clock, r.mode⟩] }
                      else { w with moreEvents := true }) :: after }
              (.sense l r.span r.mode s.clock (.window w.id (decide (w.events.length < 16)))))
            tag 0x60 .ok (.senseSet r true))) ∧
  (∀ (s : State) (tag : U8) (f : SetSenseFields) (l : LineId),
     let r : SenseLine :=
       { s.line l with
         enabled := f.enabled == 1, mode := if f.mode = 0 then .edge else .level
         polarity := if f.polarity = 0 then .high else .low, bothEdges := f.bothEdges == 1, span := f.binding.toNat
         action := if f.action = 0 then .logOnly else .verify
         raw := (s.line l).raw || (f.mode == 1 && (s.line l).input == (f.polarity == 0))
         masked :=
           f.enabled == 1 && ((s.line l).raw || (f.mode == 1 && (s.line l).input == (f.polarity == 0))) };
     let queued (u : State) (n : Notice) : State :=
       if s.occupied < 32 then { u with notices := u.notices ++ [n] } else { u with discarded := true };
     s.ready = true →
     f.line.toNat = l.val →
     f.enabled.toNat ≤ 1 ∧ f.mode.toNat ≤ 1 ∧ f.polarity.toNat ≤ 1 ∧ f.bothEdges.toNat ≤ 1 ∧ f.action.toNat ≤ 1 →
     f.binding.toNat ≤ 256 →
     f.mode = 0 ∨ f.bothEdges = 0 →
     f.binding ≠ 0 →
     (s.line l).masked = false ∧ r.masked = true →
     (∀ w ∈ s.stack, r.span ∉ w.spans) →
     f.action = 0 →
     exec (.setSense tag (.fields f)) s =
       .next
         (State.replied (queued (s.setLine l r) (.sense l r.span r.mode s.clock .noticeOnly))
             tag 0x60 .ok (.senseSet r true))) ∧
  (∀ (s : State) (tag : U8) (f : SetSenseFields) (l : LineId),
     let r : SenseLine :=
       { s.line l with
         enabled := f.enabled == 1, mode := if f.mode = 0 then .edge else .level
         polarity := if f.polarity = 0 then .high else .low, bothEdges := f.bothEdges == 1, span := f.binding.toNat
         action := if f.action = 0 then .logOnly else .verify
         raw := (s.line l).raw || (f.mode == 1 && (s.line l).input == (f.polarity == 0))
         masked :=
           f.enabled == 1 && ((s.line l).raw || (f.mode == 1 && (s.line l).input == (f.polarity == 0))) };
     let queued (u : State) (n : Notice) : State :=
       if s.occupied < 32 then { u with notices := u.notices ++ [n] } else { u with discarded := true };
     let found := (s.crossing r.span).filter fun c => (s.circuit c).state = .idle ∧ (s.circuit c).changing = false;
     s.ready = true →
     f.line.toNat = l.val →
     f.enabled.toNat ≤ 1 ∧ f.mode.toNat ≤ 1 ∧ f.polarity.toNat ≤ 1 ∧ f.bothEdges.toNat ≤ 1 ∧ f.action.toNat ≤ 1 →
     f.binding.toNat ≤ 256 →
     f.mode = 0 ∨ f.bothEdges = 0 →
     f.binding ≠ 0 →
     (s.line l).masked = false ∧ r.masked = true →
     (∀ w ∈ s.stack, r.span ∉ w.spans) →
     f.action = 1 →
     s.lanesBusy = true →
     (∀ c ∈ s.crossing r.span, (s.circuit c).state ≠ .capturing) →
     (s.crossing r.span).Nodup →
     ∃ t, exec (.setSense tag (.fields f)) s = .next t ∧
       (t =
          State.replied
            (queued
              { s.setLine l r with
                circuits := t.circuits
                queue := s.queue ++ found.map fun c => ⟨c, .sense, none, false, false⟩ }
              (.sense l r.span r.mode s.clock (.verify found.length 0)))
            tag 0x60 .ok (.senseSet r true)) ∧
       (∀ c : Nat, t.circuit c = if c ∈ found then { s.circuit c with state := .pending } else s.circuit c)) ∧
  (∀ (s : State) (tag : U8) (lines : List U8) (l : LineId),
     let queued (u : State) (n : Notice) : State :=
       if s.occupied < 32 then { u with notices := u.notices ++ [n] } else { u with discarded := true };
     s.ready = true →
     (lines ≠ [] ∧ ∀ n ∈ lines, n.toNat = l.val) →
     (s.line l).mode = .level ∧ (s.line l).atActive = true ∧ (s.line l).enabled = true →
     ((s.line l).span = 0 ∨ ((∀ w ∈ s.stack, (s.line l).span ∉ w.spans) ∧ (s.line l).action = .logOnly)) →
     exec (.clearSense tag (.fields lines)) s =
       .next
         (State.replied
            (queued (s.setLine l { s.line l with raw := true, masked := true })
              (.sense l (s.line l).span .level s.clock .noticeOnly))
            tag 0x61 .ok (.senseCleared [⟨l, true, true⟩] 1))) ∧
  (∀ (s : State) (tag : U8) (lines : List U8) (l : LineId) (before after : List Window) (w : Window),
     let queued (u : State) (n : Notice) : State :=
       if s.occupied < 32 then { u with notices := u.notices ++ [n] } else { u with discarded := true };
     s.ready = true →
     (lines ≠ [] ∧ ∀ n ∈ lines, n.toNat = l.val) →
     (s.line l).mode = .level ∧ (s.line l).atActive = true ∧ (s.line l).enabled = true →
     (s.line l).span ≠ 0 →
     s.stack = before ++ w :: after →
     (∀ x ∈ before, (s.line l).span ∉ x.spans) →
     (s.line l).span ∈ w.spans →
     exec (.clearSense tag (.fields lines)) s =
       .next
         (State.replied
            (queued
              { s.setLine l { s.line l with raw := true, masked := true } with
                stack :=
                  before ++
                    (if w.events.length < 16 then
                        { w with events := w.events ++ [⟨l, (s.line l).span, s.clock, .level⟩] }
                      else { w with moreEvents := true }) :: after }
              (.sense l (s.line l).span .level s.clock (.window w.id (decide (w.events.length < 16)))))
            tag 0x61 .ok (.senseCleared [⟨l, true, true⟩] 1))) ∧
  (∀ (s : State) (tag : U8) (lines : List U8),
     let named := allLines.filter fun l => l.val ∈ lines.map BitVec.toNat;
     let again (l : LineId) := (s.line l).mode == .level && (s.line l).atActive;
     s.ready = true →
     (lines ≠ [] ∧ ∀ n ∈ lines, n.toNat < 16) →
     (∀ l ∈ named, again l = true → (s.line l).enabled = false) →
     exec (.clearSense tag (.fields lines)) s =
       .next
         (State.replied
            { s with
              senseLines := Vector.ofFn fun (l : LineId) =>
                if l ∈ named then { s.line l with raw := again l, masked := false } else s.line l }
            tag 0x61 .ok (.senseCleared (named.map fun l => ⟨l, again l, false⟩) 0))) ∧
  (∀ (s : State) (tag : U8) (lines : List U8),
     s.ready = true →
     (lines = [] ∨ ∃ n ∈ lines, 16 ≤ n.toNat) →
     exec (.clearSense tag (.fields lines)) s =
       .next
         (s.replied tag 0x61 .badField .none)) ∧
  (∀ (s : State) (tag : U8) (lines : List U8),
     let named := allLines.filter fun l => l.val ∈ lines.map BitVec.toNat;
     s.ready = true →
     (lines ≠ [] ∧ ∀ n ∈ lines, n.toNat < 16) →
     (∀ l ∈ named, (s.line l).mode = .edge ∨ (s.line l).atActive = false) →
     exec (.clearSense tag (.fields lines)) s =
       .next
         (State.replied
            { s with
              senseLines := Vector.ofFn fun (l : LineId) =>
                if l ∈ named then { s.line l with raw := false, masked := false } else s.line l }
            tag 0x61 .ok (.senseCleared (named.map fun l => ⟨l, false, false⟩) 0))) ∧
  (∀ (s : State) (tag : U8) (f : SetSenseFields) (l : LineId),
     let r : SenseLine :=
       { s.line l with
         enabled := f.enabled == 1, mode := if f.mode = 0 then .edge else .level
         polarity := if f.polarity = 0 then .high else .low, bothEdges := f.bothEdges == 1, span := f.binding.toNat
         action := if f.action = 0 then .logOnly else .verify
         raw := (s.line l).raw || (f.mode == 1 && (s.line l).input == (f.polarity == 0))
         masked :=
           f.enabled == 1 && ((s.line l).raw || (f.mode == 1 && (s.line l).input == (f.polarity == 0))) };
     let queued (u : State) (n : Notice) : State :=
       if s.occupied < 32 then { u with notices := u.notices ++ [n] } else { u with discarded := true };
     let found := (s.crossing r.span).filter fun c => (s.circuit c).state = .idle ∧ (s.circuit c).changing = false;
     let capturing := (s.crossing r.span).filter fun c => (s.circuit c).state = .capturing;
     let measuring := capturing.filter fun c => s.entryIs c EntryStatus.isMeasuring;
     s.ready = true →
     f.line.toNat = l.val →
     f.enabled.toNat ≤ 1 ∧ f.mode.toNat ≤ 1 ∧ f.polarity.toNat ≤ 1 ∧ f.bothEdges.toNat ≤ 1 ∧ f.action.toNat ≤ 1 →
     f.binding.toNat ≤ 256 →
     f.mode = 0 ∨ f.bothEdges = 0 →
     f.binding ≠ 0 →
     (s.line l).masked = false ∧ r.masked = true →
     s.lanesBusy = true →
     (∀ w ∈ s.stack, r.span ∉ w.spans) →
     r.action = .verify →
     (s.crossing r.span).Nodup →
     (s.campaign.entries.map (·.circuit)).Nodup →
     s.campaign.host = false ∧ s.campaign.window = false ∧ s.campaign.deferredSuspend = false →
     (measuring = [] ∨ ∃ e ∈ s.campaign.entries, e.circuit ∉ measuring ∧ e.status.isFinished = false) →
     ∃ t, exec (.setSense tag (.fields f)) s = .next t ∧
       (t =
          State.replied
            (queued
              { s.setLine l r with
                circuits := t.circuits
                lanes := t.lanes
                queue := s.queue ++ (found ++ measuring).map fun c => ⟨c, .sense, none, false, false⟩
                campaign :=
                  { s.campaign with
                    progressOwed := s.campaign.progressOwed && measuring.isEmpty
                    entries := s.campaign.entries.map fun e =>
                      if e.circuit ∈ measuring then { e with status := .finished .disturbed } else e } }
              (.sense l r.span r.mode s.clock (.verify found.length capturing.length)))
            tag 0x60 .ok (.senseSet r true)) ∧
       (∀ c : Nat, t.circuit c =
          if c ∈ found ∨ c ∈ measuring then { s.circuit c with state := .pending }
          else if c ∈ capturing then { s.circuit c with disturbed := true }
          else s.circuit c) ∧
       (∀ k : LaneId, t.lane k =
          if ∃ c ∈ measuring, s.campaign.entryFor c = some ⟨c, .measuring k⟩ then (s.lane k).stop else s.lane k)) ∧
  (∀ (s : State) (tag : U8) (lines : List U8) (l : LineId),
     let r : SenseLine := { s.line l with raw := true, masked := true };
     let queued (u : State) (n : Notice) : State :=
       if s.occupied < 32 then { u with notices := u.notices ++ [n] } else { u with discarded := true };
     let found := (s.crossing r.span).filter fun c => (s.circuit c).state = .idle ∧ (s.circuit c).changing = false;
     let capturing := (s.crossing r.span).filter fun c => (s.circuit c).state = .capturing;
     let measuring := capturing.filter fun c => s.entryIs c EntryStatus.isMeasuring;
     s.ready = true →
     (lines ≠ [] ∧ ∀ n ∈ lines, n.toNat = l.val) →
     (s.line l).mode = .level ∧ (s.line l).atActive = true ∧ (s.line l).enabled = true →
     r.span ≠ 0 →
     s.lanesBusy = true →
     (∀ w ∈ s.stack, r.span ∉ w.spans) →
     r.action = .verify →
     (s.crossing r.span).Nodup →
     (s.campaign.entries.map (·.circuit)).Nodup →
     s.campaign.host = false ∧ s.campaign.window = false ∧ s.campaign.deferredSuspend = false →
     (measuring = [] ∨ ∃ e ∈ s.campaign.entries, e.circuit ∉ measuring ∧ e.status.isFinished = false) →
     ∃ t, exec (.clearSense tag (.fields lines)) s = .next t ∧
       (t =
          State.replied
            (queued
              { s.setLine l r with
                circuits := t.circuits
                lanes := t.lanes
                queue := s.queue ++ (found ++ measuring).map fun c => ⟨c, .sense, none, false, false⟩
                campaign :=
                  { s.campaign with
                    progressOwed := s.campaign.progressOwed && measuring.isEmpty
                    entries := s.campaign.entries.map fun e =>
                      if e.circuit ∈ measuring then { e with status := .finished .disturbed } else e } }
              (.sense l r.span r.mode s.clock (.verify found.length capturing.length)))
            tag 0x61 .ok (.senseCleared [⟨l, true, true⟩] 1)) ∧
       (∀ c : Nat, t.circuit c =
          if c ∈ found ∨ c ∈ measuring then { s.circuit c with state := .pending }
          else if c ∈ capturing then { s.circuit c with disturbed := true }
          else s.circuit c) ∧
       (∀ k : LaneId, t.lane k =
          if ∃ c ∈ measuring, s.campaign.entryFor c = some ⟨c, .measuring k⟩ then (s.lane k).stop else s.lane k)) ∧
  (∀ (s : State) (tag : U8) (lines : List U8),
     let named := allLines.filter fun l => l.val ∈ lines.map BitVec.toNat;
     let again (l : LineId) := (s.line l).mode == .level && (s.line l).atActive;
     let events := named.filter fun l => again l && (s.line l).enabled;
     let window (l : LineId) : Option Nat :=
       if (s.line l).span = 0 then none else s.stack.findIdx? fun w => w.spans.contains (s.line l).span;
     let route (l : LineId) : SenseRoute :=
       match (window l).bind fun i => s.stack[i]? with
       | some w =>
         .window w.id (decide (w.events.length + (events.countP fun k => k < l ∧ window k = window l) < 16))
       | none => .noticeOnly;
     let notices : List Notice := events.map fun l => .sense l (s.line l).span .level s.clock (route l);
     s.ready = true →
     (lines ≠ [] ∧ ∀ n ∈ lines, n.toNat < 16) →
     (∀ l ∈ events, (s.line l).span = 0 ∨ window l ≠ none ∨ (s.line l).action = .logOnly) →
     exec (.clearSense tag (.fields lines)) s =
       .next
         (State.replied
            { s with
              senseLines := Vector.ofFn fun (l : LineId) =>
                if l ∈ named then { s.line l with raw := again l, masked := again l && (s.line l).enabled } else
                    s.line l
              stack := s.stack.mapIdx fun i w =>
                let logged := events.filter fun l => window l = some i
                { w with
                  events := w.events ++
                    (logged.map fun l => ⟨l, (s.line l).span, s.clock, .level⟩).take (16 - w.events.length)
                  moreEvents := w.moreEvents || decide (logged ≠ [] ∧ 16 < w.events.length + logged.length) }
              notices := s.notices ++ notices.take (32 - s.occupied)
              discarded := s.discarded || decide (32 - s.occupied < notices.length) }
            tag 0x61 .ok
            (.senseCleared (named.map fun l => ⟨l, again l, again l && (s.line l).enabled⟩) events.length)))

/-- POWER_ON, POWER_FAIL, RESET_ASSERTED, RESET_RELEASED, RESTART and RESTART_BEGINS: what is set anew and what is
kept (10.3 Restarts, 8.5 Protection after a restart, 10.2 The commit queue, 11.8 Identification and the catalogue).
The model's choices: the working copies before the scan are log 11, PARK sent before the release of RESET log 44, a
complete frame or a due step lost to POWER_ON, POWER_FAIL or RESET_ASSERTED log 41, which cut-off writes are erases
log 19, the volatile values shown after POWER_FAIL log 30, the second sampling of the strap at RESET_RELEASED log 14,
POWER_ON with RESET asserted log 13. -/
def Obligations.RestartsSetEverythingAnew : Prop :=
  (∀ (s : State),
     let back (phase : Phase) (cause : RestartCause) (overlay : Bool) : State :=
       { State.reset with
         pending := s.pending, phase := phase, resetLine := s.resetLine, restartCause := cause, refLock := s.refLock
         rateStrap := s.rateStrap, bitRate := if s.rateStrap then .r460800 else .r115200, overlay := overlay
         senseLines := Vector.ofFn fun (l : LineId) => { input := (s.line l).input }
         defSlots := s.defSlots, baseSlots := s.baseSlots, protSlot := s.protSlot, freeCount := s.freeCount };
     exec .powerOn s =
       .next
         (back (if s.resetLine then .held else .scanning) .cold false)) ∧
  (∀ (s : State) (erased : Bool),
     let back (phase : Phase) (cause : RestartCause) (overlay : Bool) : State :=
       { State.reset with
         pending := s.pending, phase := phase, resetLine := s.resetLine, restartCause := cause, refLock := s.refLock
         rateStrap := s.rateStrap, bitRate := if s.rateStrap then .r460800 else .r115200, overlay := overlay
         senseLines := Vector.ofFn fun (l : LineId) => { input := (s.line l).input }
         defSlots := s.defSlots, baseSlots := s.baseSlots, protSlot := s.protSlot, freeCount := s.freeCount };
     s.writing = none ∨ s.commits = [] ∨ erased = false →
     exec (.powerFail erased) s =
       .next
         (back .off .cold false)) ∧
  (∀ (s : State) (c : Commit) (rest : List Commit) (id : Nat) (step : WriteStep) (saved : Slot Baseline),
     let back (phase : Phase) (cause : RestartCause) (overlay : Bool) : State :=
       { State.reset with
         pending := s.pending, phase := phase, resetLine := s.resetLine, restartCause := cause, refLock := s.refLock
         rateStrap := s.rateStrap, bitRate := if s.rateStrap then .r460800 else .r115200, overlay := overlay
         senseLines := Vector.ofFn fun (l : LineId) => { input := (s.line l).input }
         defSlots := s.defSlots, baseSlots := s.baseSlots, protSlot := s.protSlot, freeCount := s.freeCount };
     s.commits = c :: rest →
     s.writing = some ⟨step, .baseline id saved⟩ →
     ((step = .write ∨ step = .rewrite) ∧ c.op = .eraseBaseline id) ∨ (step = .restore ∧ saved = .erased) →
     exec (.powerFail true) s =
       .next
         ({ back .off .cold false with baseSlots := tableWrite .erased s.baseSlots id .erased })) ∧
  (∀ (s : State) (c : Commit) (rest : List Commit) (id : Nat) (step : WriteStep) (saved : Slot Definition),
     let back (phase : Phase) (cause : RestartCause) (overlay : Bool) : State :=
       { State.reset with
         pending := s.pending, phase := phase, resetLine := s.resetLine, restartCause := cause, refLock := s.refLock
         rateStrap := s.rateStrap, bitRate := if s.rateStrap then .r460800 else .r115200, overlay := overlay
         senseLines := Vector.ofFn fun (l : LineId) => { input := (s.line l).input }
         defSlots := s.defSlots, baseSlots := s.baseSlots, protSlot := s.protSlot, freeCount := s.freeCount };
     s.commits = c :: rest →
     s.writing = some ⟨step, .definition id saved⟩ →
     ((step = .write ∨ step = .rewrite) ∧ c.op = .eraseDefinition id) ∨ (step = .restore ∧ saved = .erased) →
     exec (.powerFail true) s =
       .next
         ({ back .off .cold false with defSlots := tableWrite .erased s.defSlots id .erased })) ∧
  (∀ (s : State) (c : Commit) (rest : List Commit),
     let back (phase : Phase) (cause : RestartCause) (overlay : Bool) : State :=
       { State.reset with
         pending := s.pending, phase := phase, resetLine := s.resetLine, restartCause := cause, refLock := s.refLock
         rateStrap := s.rateStrap, bitRate := if s.rateStrap then .r460800 else .r115200, overlay := overlay
         senseLines := Vector.ofFn fun (l : LineId) => { input := (s.line l).input }
         defSlots := s.defSlots, baseSlots := s.baseSlots, protSlot := s.protSlot, freeCount := s.freeCount };
     s.commits = c :: rest →
     s.writing = some ⟨.restore, .protection .erased⟩ →
     exec (.powerFail true) s =
       .next
         ({ back .off .cold false with protSlot := .erased })) ∧
  (∀ (s : State) (w : Writing) (c : Commit) (rest : List Commit),
     let back (phase : Phase) (cause : RestartCause) (overlay : Bool) : State :=
       { State.reset with
         pending := s.pending, phase := phase, resetLine := s.resetLine, restartCause := cause, refLock := s.refLock
         rateStrap := s.rateStrap, bitRate := if s.rateStrap then .r460800 else .r115200, overlay := overlay
         senseLines := Vector.ofFn fun (l : LineId) => { input := (s.line l).input }
         defSlots := s.defSlots, baseSlots := s.baseSlots, protSlot := s.protSlot, freeCount := s.freeCount };
     s.commits = c :: rest →
     s.writing = some w →
     (w.step = .write ∨ w.step = .rewrite → ∀ id : Nat, c.op ≠ .eraseDefinition id ∧ c.op ≠ .eraseBaseline id) →
     (w.step = .restore →
         w.saved ≠ .protection .erased ∧ ∀ id : Nat, w.saved ≠ .definition id .erased ∧
             w.saved ≠ .baseline id .erased) →
     exec (.powerFail true) s =
       .next
         (back .off .cold false)) ∧
  (∀ (s : State) (c : Commit) (rest : List Commit) (id : Nat) (step : WriteStep) (saved : Slot Baseline),
     let back (phase : Phase) (cause : RestartCause) (overlay : Bool) : State :=
       { State.reset with
         pending := s.pending, phase := phase, resetLine := s.resetLine, restartCause := cause, refLock := s.refLock
         rateStrap := s.rateStrap, bitRate := if s.rateStrap then .r460800 else .r115200, overlay := overlay
         senseLines := Vector.ofFn fun (l : LineId) => { input := (s.line l).input }
         defSlots := s.defSlots, baseSlots := s.baseSlots, protSlot := s.protSlot, freeCount := s.freeCount };
     s.resetLine = false →
     s.phase ≠ .off →
     s.commits = c :: rest →
     s.writing = some ⟨step, .baseline id saved⟩ →
     ((step = .write ∨ step = .rewrite) ∧ c.op = .eraseBaseline id) ∨ (step = .restore ∧ saved = .erased) →
     exec (.resetAsserted true) s =
       .next
         ({ back .held .line s.overlay with
            resetLine := true
            baseSlots := tableWrite .erased s.baseSlots id .erased })) ∧
  (∀ (s : State) (c : Commit) (rest : List Commit) (id : Nat) (step : WriteStep) (saved : Slot Definition),
     let back (phase : Phase) (cause : RestartCause) (overlay : Bool) : State :=
       { State.reset with
         pending := s.pending, phase := phase, resetLine := s.resetLine, restartCause := cause, refLock := s.refLock
         rateStrap := s.rateStrap, bitRate := if s.rateStrap then .r460800 else .r115200, overlay := overlay
         senseLines := Vector.ofFn fun (l : LineId) => { input := (s.line l).input }
         defSlots := s.defSlots, baseSlots := s.baseSlots, protSlot := s.protSlot, freeCount := s.freeCount };
     s.resetLine = false →
     s.phase ≠ .off →
     s.commits = c :: rest →
     s.writing = some ⟨step, .definition id saved⟩ →
     ((step = .write ∨ step = .rewrite) ∧ c.op = .eraseDefinition id) ∨ (step = .restore ∧ saved = .erased) →
     exec (.resetAsserted true) s =
       .next
         ({ back .held .line s.overlay with
            resetLine := true
            defSlots := tableWrite .erased s.defSlots id .erased })) ∧
  (∀ (s : State) (c : Commit) (rest : List Commit),
     let back (phase : Phase) (cause : RestartCause) (overlay : Bool) : State :=
       { State.reset with
         pending := s.pending, phase := phase, resetLine := s.resetLine, restartCause := cause, refLock := s.refLock
         rateStrap := s.rateStrap, bitRate := if s.rateStrap then .r460800 else .r115200, overlay := overlay
         senseLines := Vector.ofFn fun (l : LineId) => { input := (s.line l).input }
         defSlots := s.defSlots, baseSlots := s.baseSlots, protSlot := s.protSlot, freeCount := s.freeCount };
     s.resetLine = false →
     s.phase ≠ .off →
     s.commits = c :: rest →
     s.writing = some ⟨.restore, .protection .erased⟩ →
     exec (.resetAsserted true) s =
       .next
         ({ back .held .line s.overlay with
            resetLine := true
            protSlot := .erased })) ∧
  (∀ (s : State) (w : Writing) (c : Commit) (rest : List Commit),
     let back (phase : Phase) (cause : RestartCause) (overlay : Bool) : State :=
       { State.reset with
         pending := s.pending, phase := phase, resetLine := s.resetLine, restartCause := cause, refLock := s.refLock
         rateStrap := s.rateStrap, bitRate := if s.rateStrap then .r460800 else .r115200, overlay := overlay
         senseLines := Vector.ofFn fun (l : LineId) => { input := (s.line l).input }
         defSlots := s.defSlots, baseSlots := s.baseSlots, protSlot := s.protSlot, freeCount := s.freeCount };
     s.resetLine = false →
     s.phase ≠ .off →
     s.commits = c :: rest →
     s.writing = some w →
     (w.step = .write ∨ w.step = .rewrite → ∀ id : Nat, c.op ≠ .eraseDefinition id ∧ c.op ≠ .eraseBaseline id) →
     (w.step = .restore →
         w.saved ≠ .protection .erased ∧ ∀ id : Nat, w.saved ≠ .definition id .erased ∧
             w.saved ≠ .baseline id .erased) →
     exec (.resetAsserted true) s =
       .next
         ({ back .held .line s.overlay with resetLine := true })) ∧
  (∀ (s : State) (erased : Bool),
     let back (phase : Phase) (cause : RestartCause) (overlay : Bool) : State :=
       { State.reset with
         pending := s.pending, phase := phase, resetLine := s.resetLine, restartCause := cause, refLock := s.refLock
         rateStrap := s.rateStrap, bitRate := if s.rateStrap then .r460800 else .r115200, overlay := overlay
         senseLines := Vector.ofFn fun (l : LineId) => { input := (s.line l).input }
         defSlots := s.defSlots, baseSlots := s.baseSlots, protSlot := s.protSlot, freeCount := s.freeCount };
     s.writing = none ∨ s.commits = [] ∨ erased = false →
     exec (.resetAsserted erased) s =
       .next
         (if s.resetLine then s
          else if s.phase = .off then { s with resetLine := true }
          else { back .held .line s.overlay with resetLine := true })) ∧
  (∀ (s : State),
     exec .resetReleased s =
       .next
         (if s.phase = .held then
            { s with resetLine := false, phase := .scanning, bitRate := if s.rateStrap then .r460800 else .r115200 }
          else { s with resetLine := false })) ∧
  (∀ (s : State) (tag : U8),
     s.ready = true →
     exec (.restart tag) s =
       .next
         (State.replied { s with restartTaken := true } tag 0x03 .ok .none)) ∧
  (∀ (s : State),
     let back (phase : Phase) (cause : RestartCause) (overlay : Bool) : State :=
       { State.reset with
         pending := s.pending, phase := phase, resetLine := s.resetLine, restartCause := cause, refLock := s.refLock
         rateStrap := s.rateStrap, bitRate := if s.rateStrap then .r460800 else .r115200, overlay := overlay
         senseLines := Vector.ofFn fun (l : LineId) => { input := (s.line l).input }
         defSlots := s.defSlots, baseSlots := s.baseSlots, protSlot := s.protSlot, freeCount := s.freeCount };
     exec .restartBegins s =
       .next
         (if s.phase = .running ∧ s.restartTaken = true ∧ s.restartReplySent = true ∧ s.writing = none then
            back .scanning .request s.overlay
          else s))

/-- The start-up scan loads every circuit, baseline and index from the store, announces the restart and starts eight
runs (10.4 The start-up scan, 10.3 Restarts, 1.7 The table after a restart, 1.2 The marker-code map and the span
index, 8.5 Protection after a restart, 11.7 Sending, 11.8 Identification and the catalogue). -/
def Obligations.ScanLoadsTheStore : Prop :=
  (∀ (defs : Table (Slot Definition)) (bases : Table (Slot Baseline)) (prot : Slot ProtectionRecord)
      (cause : RestartCause)
     (overlay : Bool),
     let s : State :=
       { State.reset with
         defSlots := defs, baseSlots := bases, protSlot := prot, restartCause := cause, overlay := overlay };
     let definition (c : Nat) := (tableRead .erased defs c).valid Definition.inRange;
     let found := prot.valid ProtectionRecord.inRange;
     tableWf .erased defs = true →
     ∃ t, exec .startUpScanDone s = .next t ∧
       (t =
          { s with
            phase := .running
            circuits := t.circuits
            codeMap := t.codeMap
            spanIndex := t.spanIndex
            region := (found.map (·.region)).getD { side := .low, n := 32, complement := false }
            storedLevel := (found.map (·.level)).getD .openLevel
            lanes := Vector.replicate 8 ({} : Lane).startRun
            transmitter := .notice
              (.restarted cause (t.circuits.countP fun e => e.2.state == .idle)
                (t.circuits.countP fun e => e.2.state == .unreadable) (t.circuits.countP fun e => e.2.baseline.isSome)
                found.isNone overlay)
              false }) ∧
       (∀ c : Nat, t.circuit c =
          match definition c with
          | none => if (tableRead .erased defs c).bad Definition.inRange then { state := .unreadable } else {}
          | some d =>
            if (List.range c).any fun c' => (definition c').map (·.code) == some d.code then { state := .unreadable }
            else
              { state := .idle
                definition := some d
                baseline := ((tableRead .erased bases c).valid Baseline.inRange).filter fun b =>
                  b.lane == d.lane && b.channel == d.channel && b.code == d.code }) ∧
       (t.codesExact) ∧
       (t.spansExact) ∧
       (∀ p : Nat, (t.crossing p).Pairwise (· < ·))) ∧
  (∀ (s : State),
     s.phase = .scanning →
     s.transmitter = .idle →
     s.replies = [] ∧ s.notices = [] →
     s.restartReplySent = false →
     s.completeFrame = none →
     s.stack = [] →
     s.occupied < 32 →
     ∃ t, exec .startUpScanDone s = .next t ∧
       (t.phase = .running ∧ t.transmitter = .notice s.scanStore.restartedNotice s.discarded))

/-- The events of the serial line and of the two input pins on a part between commands, and what else they change:
nothing (11.2 Receiving frames, 11.1 The serial line, 8.2 Lock levels). -/
def Obligations.LineEvents : Prop :=
  (∀ (s : State) (b : U8),
     s.calm = true →
     exec (.byteReceived b) s =
       .next
         ({ s with receiver := (s.receiver.take b).1, completeFrame := (s.receiver.take b).2 })) ∧
  (∀ (s : State),
     s.calm = true →
     exec .framingError s =
       .next
         ({ s with receiver := .hunting })) ∧
  (∀ (s : State),
     s.calm = true →
     exec .receiveGapTimeout s =
       .next
         ({ s with receiver := .hunting })) ∧
  (∀ (s : State) (asserted : Bool),
     s.calm = true →
     exec (.refLockChange asserted) s =
       .next
         ({ s with refLock := asserted })) ∧
  (∀ (s : State) (high : Bool),
     s.calm = true →
     exec (.rateStrapChange high) s =
       .next
         ({ s with rateStrap := high })) ∧
  (∀ b : U8, Receiver.hunting.take b = (if b = 0xA5 then .header [] else .hunting, none)) ∧
  (∀ b₀ b₁ : U8,
     (Receiver.header []).take b₀ = (.header [b₀], none) ∧
     (Receiver.header [b₀]).take b₁ =
       (if 3 ≤ b₀.toNat + 256 * b₁.toNat ∧ b₀.toNat + 256 * b₁.toNat ≤ 1021 then
           .body (b₀.toNat + 256 * b₁.toNat) [b₀, b₁]
         else .hunting, none)) ∧
  (∀ (n : Nat) (bytes : List U8) (b : U8),
     (Receiver.body n bytes).take b =
       if bytes.length + 1 < 2 + n + 2 then (.body n (bytes ++ [b]), none) else (.hunting, some (bytes ++ [b])))

/-- A complete frame whose check fails or whose class is not request is discarded; a good request is handled as its
command (11.2 Receiving frames, 11.3 The request queue). The log entries that this rests on: log 5. -/
def Obligations.FrameReceivedJudged : Prop :=
  (∀ (s : State),
     s.alive = true →
     s.completeFrame = none →
     exec .frameReceived s =
       .next
         (s)) ∧
  (∀ (s : State) (bytes : List U8),
     s.alive = true →
     s.completeFrame = some bytes →
     crc16 (bytes.take (bytes.length - 2)) ≠ u16At bytes (bytes.length - 2) ∨ u8At bytes 2 ≠ 1 →
     exec .frameReceived s =
       .next
         ({ s with completeFrame := none })) ∧
  (∀ (s : State) (bytes : List U8) (c : Instr),
     State.calm { s with completeFrame := none } = true →
     s.completeFrame = some bytes →
     crc16 (bytes.take (bytes.length - 2)) = u16At bytes (bytes.length - 2) →
     u8At bytes 2 = 1 →
     asRequest c =
       some ⟨u8At bytes 4, requestOf (u8At bytes 3) ((bytes.take (bytes.length - 2)).drop 5)⟩ →
     exec .frameReceived s = exec c { s with completeFrame := none })

/-- The end of a frame: the next part, or the oldest reply, or the oldest notice with the discarded mark, or an idle
transmitter (11.7 Sending, 11.4 The request processor, 10.3 Restarts). -/
def Obligations.FrameSent : Prop :=
  (∀ (s : State),
     s.calm = true →
     s.transmitter = .idle →
     exec .frameSent s =
       .next
         (s)) ∧
  (∀ (s : State) (part : Nat) (r : Reply) (rest : List Reply),
     s.calm = true →
     s.transmitter = .reply part →
     s.replies = r :: rest →
     part + 1 < r.parts.length →
     exec .frameSent s =
       .next
         ({ s with transmitter := .reply (part + 1) })) ∧
  (∀ (s : State) (part : Nat) (r : Reply) (rest : List Reply),
     s.calm = true →
     s.transmitter = .reply part →
     s.replies = r :: rest →
     r.parts.length ≤ part + 1 →
     (match s.processor with | .replying _ => false | _ => true) = true →
     exec .frameSent s =
       .next
         (match rest with
          | _ :: _ => { s with replies := rest, transmitter := .reply 0 }
          | [] =>
            match s.notices with
            | [] => { s with replies := rest, transmitter := .idle }
            | n :: ns => { s with replies := rest, notices := ns, transmitter := .notice n s.discarded, discarded :=
                false })) ∧
  (∀ (s : State) (part : Nat) (r r' : Reply) (rest : List Reply),
     s.calm = true →
     s.transmitter = .reply part →
     s.replies = r :: rest →
     r.parts.length ≤ part + 1 →
     rest.length < 8 →
     s.processor = .replying r' →
     exec .frameSent s =
       .next
         ({ s with replies := rest ++ [r'], processor := .free, transmitter := .reply 0 })) ∧
  (∀ (s : State) (n : Notice) (mark : Bool),
     s.calm = true →
     s.transmitter = .notice n mark →
     s.lanesBusy = true ∨ s.queue = [] →
     exec .frameSent s =
       .next
         (match s.replies with
          | _ :: _ => { s with transmitter := .reply 0 }
          | [] =>
            match s.notices with
            | [] => { s with transmitter := .idle }
            | n :: ns => { s with notices := ns, transmitter := .notice n s.discarded, discarded := false })) ∧
  (∀ (s : State) (part : Nat) (r : Reply) (rest : List Reply),
     s.restartTaken = true ∧ s.restartReplySent = false →
     State.calm { s with restartTaken := false, requestQueue := [] } = true →
     s.transmitter = .reply part →
     s.replies = r :: rest →
     r.parts.length ≤ part + 1 →
     r.code = 0x03 ∧ r.status = .ok →
     s.processor = .free →
     exec .frameSent s =
       .next
         ({ s with replies := rest, transmitter := .idle, restartReplySent := true }))

/-- The seconds tick raises the clock modulo 2^32 and every calibration age up to 65,535, and lowers every window
(10.5 The device clock, 2.7 The seconds countdown and expiry, 4.5 Calibration). The log entries that this rests on:
log 6. -/
def Obligations.TickCounts : Prop :=
  ∀ (s : State),
    s.calm = true →
    s.clock < 4294967296 →
    exec .secondsTick s =
      .next
        ({ s with
           clock := if s.clock + 1 = 4294967296 then 0 else s.clock + 1
           stack := s.stack.map fun w => { w with remaining := w.remaining - 1 }
           lanes := s.lanes.map fun r => { r with age := min 65535 (r.age + 1) } })

/-- An expiry removes the window and all above it and releases its circuits as expired, on a full closure list after
an early summary (2.7 The seconds countdown and expiry, 2.8 Closure records and their accounting, 3.1 The queue and
its entries). -/
def Obligations.WindowExpires : Prop :=
  (∀ (s : State) (above below : List Window) (w : Window),
     State.calm { s with stack := [] } = true →
     s.stack = above ++ w :: below →
     w.remaining = 0 →
     (∀ x ∈ below, 1 ≤ x.remaining) →
     ∃ t, exec .windowExpiry s = .next t ∧ t.stack = below) ∧
  (∀ (s : State) (w : Window) (rest : List Window),
     let held := s.crossingAny w.spans;
     let released := held.filter fun c => (s.circuit c).state = .held ∧ (s.circuit c).holds = 1;
     let account : Closure :=
       { windowId := w.id, endKind := .expired, openedAt := w.openedAt, endedAt := s.clock, released := released.length
         outstanding := released.length, reHeld := 0, counts := {}, spanEvents := 0, events := w.events
         moreEvents := w.moreEvents };
     State.calm { s with stack := [] } = true →
     s.lanesBusy = true →
     s.transmitter ≠ .idle →
     s.stack = w :: rest →
     w.remaining = 0 →
     (∀ x ∈ rest, 1 ≤ x.remaining) →
     s.campaign.state = .idle →
     s.campaign.window = false →
     1 ≤ s.reserved.summary →
     (∀ c ∈ held, 1 ≤ (s.circuit c).holds ∧ ((s.circuit c).state = .held ∨ (s.circuit c).state = .capturing)) →
     released = [] ∨ s.closures.length < 8 →
     ∃ t, exec .windowExpiry s = .next t ∧
       (t =
          { s with
            stack := rest
            circuits := t.circuits
            closures := if released = [] then s.closures else s.closures ++ [account]
            queue := s.queue ++ released.map fun c =>
                { circuit := c, cause := .windowExpiry, tag := some w.id, expired := true
                  spanEvent := w.events.any fun e => ((s.circuit c).definition.map (·.spans)).any (·.contains e.span) }
            reserved :=
              if released = [] then { s.reserved with summary := s.reserved.summary - 1 } else s.reserved
            notices := if released = [] then s.notices ++ [.windowSummary account false] else s.notices }) ∧
       (∀ c : Nat, t.circuit c =
          let r := s.circuit c
          if c ∈ held then
            if 1 < r.holds then { r with holds := r.holds - 1 }
            else if r.state = .held then { r with holds := 0, state := .pending }
            else { r with holds := 0, releaseOwed := some .windowExpiry }
          else r)) ∧
  (∀ (s : State) (w : Window) (rest : List Window) (old : Closure) (others : List Closure),
     let held := s.crossingAny w.spans;
     let released := held.filter fun c => (s.circuit c).state = .held ∧ (s.circuit c).holds = 1;
     let account : Closure :=
       { windowId := w.id, endKind := .expired, openedAt := w.openedAt, endedAt := s.clock, released := released.length
         outstanding := released.length, reHeld := 0, counts := {}, spanEvents := 0, events := w.events
         moreEvents := w.moreEvents };
     let untag (e : QueueEntry) : QueueEntry := if e.tag = some old.windowId then { e with tag := none } else e;
     State.calm { s with stack := [] } = true →
     s.lanesBusy = true →
     s.transmitter ≠ .idle →
     s.stack = w :: rest →
     w.remaining = 0 →
     (∀ x ∈ rest, 1 ≤ x.remaining) →
     s.campaign.state = .idle →
     s.campaign.window = false →
     1 ≤ s.reserved.summary →
     (∀ c ∈ held, 1 ≤ (s.circuit c).holds ∧ ((s.circuit c).state = .held ∨ (s.circuit c).state = .capturing)) →
     s.closures = old :: others →
     others.length = 7 →
     released ≠ [] →
     ∃ t, exec .windowExpiry s = .next t ∧
       (t =
          { s with
            stack := rest
            circuits := t.circuits
            closures := others ++ [account]
            queue := s.queue.map untag ++ released.map fun c =>
                { circuit := c, cause := .windowExpiry, tag := some w.id, expired := true
                  spanEvent := w.events.any fun e => ((s.circuit c).definition.map (·.spans)).any (·.contains e.span) }
            lanes := s.lanes.map fun r => { r with grant := r.grant.map fun g => { g with entry := untag g.entry } }
            reserved := { s.reserved with summary := s.reserved.summary - 1 }
            notices := s.notices ++ [.windowSummary old true] }) ∧
       (∀ c : Nat, t.circuit c =
          let r := s.circuit c
          if c ∈ held then
            if 1 < r.holds then { r with holds := r.holds - 1 }
            else if r.state = .held then { r with holds := 0, state := .pending }
            else { r with holds := 0, releaseOwed := some .windowExpiry }
          else r))

/-- A PARKED lane that is due with no profile pending starts its reference run: CALIBRATING, tuned to the reference
setting (4.5 Calibration, 4.2 The probe-head port). The log entries that this rests on: log 6. -/
def Obligations.CalibrationStarts : Prop :=
  (∀ (s : State) (l : LaneId),
     s.phase = .running →
     (s.lane l).state = .parked →
     s.profile.interval ≤ (s.lane l).age ∨ (s.lane l).calRequested = true →
     s.pendingProfile = none →
     (s.setLane l (s.lane l).startRun).calm = true →
     exec (.calibrationDue l) s =
       .next
         ((s.setLane l
            { s.lane l with
              state := .calibrating
              work := .referenceRun
              calStep := some .tune
              calResult := none
              samples := []
              headCommand := .tuneReference }))) ∧
  (∀ (s : State) (l : LaneId),
     s.calm = true →
     exec (.calibrationDue l) s =
       .next
         (s))

/-- SETTLED and SAMPLE by the lane's state: bursts begin, samples are collected, and the last sample hands the burst
over (4.2 The probe-head port, 4.3 Lane states, 4.5 Calibration). -/
def Obligations.HeadMessages : Prop :=
  (∀ (s : State) (l : LaneId),
     s.calm = true →
     exec (.settled l) s =
       .next
         (match (s.lane l).state with
          | .tuning =>
            if (s.lane l).work = .none then
              s.setLane l { s.lane l with state := .parking, samples := [], headCommand := .park }
            else
              s.setLane l
                { s.lane l with
                  state := .measuring, samples := [], headCommand := .burst (s.lane l).burstLength
                  grant := (s.lane l).grant.map fun g => { g with phase := .measuring } }
          | .calibrating =>
            if (s.lane l).calStep = some .tune then
              s.setLane l
                { s.lane l with calStep := some .burst, burstLength := 64, samples := [], headCommand := .burst 64 }
            else s
          | .parked | .tuned | .measuring | .parking | .faulted => s)) ∧
  (∀ (s : State) (l : LaneId) (x : Sample),
     s.calm = true →
     (s.lane l).state = .measuring ∨ ((s.lane l).state = .calibrating ∧ (s.lane l).calStep = some .burst) →
     (s.lane l).samples.length + 1 < (s.lane l).burstLength →
     exec (.sample l x) s =
       .next
         ((s.setLane l
            { s.lane l with
              samples := (s.lane l).samples ++ [x] }))) ∧
  (∀ (s : State) (l : LaneId) (x : Sample) (purpose : Purpose),
     s.calm = true →
     (s.lane l).state = .measuring →
     (s.lane l).burstLength ≤ (s.lane l).samples.length + 1 →
     ((∃ c, (s.lane l).work = .verification c ∧ purpose = .attempt) ∨ (∃ c, (s.lane l).work = .capture c ∧
         purpose = .capture)) →
     exec (.sample l x) s =
       .next
         ((s.setLane l
            { s.lane l with
              state := .tuned
              errorCount := 0
              samples := []
              grant := (s.lane l).grant.map fun g => { g with phase := .classifying }
              handed :=
                some
                  { purpose := purpose, samples := (s.lane l).samples ++ [x], floor := s.profile.floor, trim :=
                      (s.lane l).trim
                    offset := (s.lane l).offset, stale := !(s.lane l).fresh } }))) ∧
  (∀ (s : State) (l : LaneId) (x : Sample),
     s.calm = true →
     (s.lane l).state = .calibrating ∧ (s.lane l).calStep = some .burst →
     (s.lane l).burstLength ≤ (s.lane l).samples.length + 1 →
     exec (.sample l x) s =
       .next
         ((s.setLane l
            { s.lane l with
              calStep := some .judge
              samples := []
              handed :=
                some
                  { purpose := .reference, samples := (s.lane l).samples ++ [x], floor := s.profile.floor
                    trim := (s.lane l).trim, offset := (s.lane l).offset, stale := !(s.lane l).fresh } }))) ∧
  (∀ (s : State) (l : LaneId) (x : Sample),
     s.calm = true →
     (s.lane l).state ≠ .measuring →
     ¬((s.lane l).state = .calibrating ∧ (s.lane l).calStep = some .burst) →
     exec (.sample l x) s =
       .next
         (s))

/-- BURST_RESULT: a reference burst is judged in the order of the tests, a failing attempt with a retry left is
measured again (5.6 Calibration arithmetic, 4.5 Calibration, 3.4 The attempt loop, 5.5 Deltas against the baseline).
-/
def Obligations.BurstJudgedOrRepeated : Prop :=
  (∀ (s : State) (l : LaneId),
     s.calm = true →
     (s.lane l).handed = none →
     exec (.burstResult l) s =
       .next
         (s)) ∧
  (∀ (s : State) (l : LaneId) (b : HandedBurst),
     s.calm = true →
     (s.lane l).handed = some b →
     (b.purpose = .attempt ∧ (s.lane l).grant = none) ∨ (b.purpose = .capture ∧ (s.lane l).capture = none) →
     exec (.burstResult l) s =
       .next
         (s.setLane l { s.lane l with handed := none })) ∧
  (∀ (s : State) (l : LaneId) (b : HandedBurst),
     s.calm = true →
     (s.lane l).handed = some b →
     b.purpose = .reference →
     exec (.burstResult l) s =
       .next
         ((s.setLane l
            { s.lane l with
              handed := none
              calStep := some .park
              calResult := some (judgeReference b)
              samples := []
              headCommand := .park }))) ∧
  (∀ b : HandedBurst, b.reduce.returned = none → (judgeReference b).outcome = .noReturn) ∧
  (∀ (b : HandedBurst) (r : Returned), b.reduce.returned = some r →
     judgeReference b =
       { outcome :=
           if r.code ≠ 0 then .wrongCode
           else if r.baseLevel < 2400 ∨ 3600 < r.baseLevel then .trimRange
           else if 65535 < r.rawDelay then .offsetRange
           else .success
         trim := 3000 - r.baseLevel
         offset := r.rawDelay }) ∧
  (∀ (s : State) (l : LaneId) (b : HandedBurst) (g : Grant) (d : Definition),
     let a := classify s.profile d (s.circuit g.entry.circuit).baseline b;
     s.calm = true →
     (s.lane l).handed = some b →
     b.purpose = .attempt →
     (s.lane l).grant = some g →
     (s.circuit g.entry.circuit).definition = some d →
     a.cls ≠ .pass ∧ a.cls ≠ .continuityOnly →
     g.attempts.length < g.retries →
     exec (.burstResult l) s =
       .next
         ((s.setLane l
            { s.lane l with
              handed := none
              state := .measuring
              samples := []
              headCommand := .burst (s.lane l).burstLength
              grant := some { g with attempts := g.attempts ++ [a], phase := .measuring } })))

/-- The last attempt: the verdict record is built from the attempts, reported to the table and the closure record, and
sent or withheld (6.4 The verdict record, 6.5 Concluding a verification, 6.2 Combining the attempts, 6.3 Qualifiers,
2.8 Closure records and their accounting, 3.4 The attempt loop, 3.3 The lane arbiter). -/
def Obligations.VerdictConcludes : Prop :=
  (∀ (s : State) (l : LaneId) (b : HandedBurst) (g : Grant) (d : Definition),
     let a := classify s.profile d (s.circuit g.entry.circuit).baseline b;
     let classes := g.attempts.map (·.cls) ++ [a.cls];
     let kind := combine (g.attempts.map (·.cls)) a.cls;
     let found := if kind = .misrouted then a.found else none;
     let v : Verdict :=
       { kind := kind
         qualifiers :=
           { clipped := g.attempts.any (·.clipped) || a.clipped
             degraded := g.attempts.any (·.stale) || a.stale
             expiredWindow := g.entry.expired
             spanEvent := g.entry.spanEvent
             laneFault := false }
         cause := g.entry.cause
         closureId := g.entry.tag
         classes := classes
         lane := l
         time := s.clock
         level := a.level
         deltaLevel := a.deltaLevel
         delay := a.delay
         deltaDelay := a.deltaDelay
         found := found
         otherCircuit := found.bind s.codeOwner
         generation := (s.circuit g.entry.circuit).baseline.map (·.generation) };
     s.calm = true →
     (∀ l' : LaneId, l' ≠ l → (s.lane l').ready = false) →
     (∀ e ∈ s.queue, (s.circuit e.circuit).definition.map (·.lane) ≠ some l) →
     s.campaign.state = .idle →
     s.transmitter ≠ .idle →
     1 ≤ s.reserved.verdict →
     (s.lane l).state = .tuned →
     (s.lane l).handed = some b →
     b.purpose = .attempt →
     (s.lane l).grant = some g →
     g.entry.tag = none →
     (s.circuit g.entry.circuit).definition = some d →
     a.cls = .pass ∨ a.cls = .continuityOnly ∨ g.retries ≤ g.attempts.length →
     exec (.burstResult l) s =
       .next
         ({ (s.setCircuit g.entry.circuit { s.circuit g.entry.circuit with lastVerdict := some v, state :=
             .idle }).setLane l
              { s.lane l with
                state := .parking, samples := [], headCommand := .park, handed := none, work := .none, grant := none
                capture := none } with
            reserved := { s.reserved with verdict := s.reserved.verdict - 1 }
            notices :=
              if s.profile.quietPass = true ∧ (kind = .pass ∨ kind = .continuityOnly) then s.notices
              else s.notices ++ [.verdict g.entry.circuit v] })) ∧
  (∀ (s : State) (l : LaneId) (b : HandedBurst) (g : Grant) (d : Definition) (tag : Nat) (r : Closure),
     let a := classify s.profile d (s.circuit g.entry.circuit).baseline b;
     let classes := g.attempts.map (·.cls) ++ [a.cls];
     let kind := combine (g.attempts.map (·.cls)) a.cls;
     let found := if kind = .misrouted then a.found else none;
     let v : Verdict :=
       { kind := kind
         qualifiers :=
           { clipped := g.attempts.any (·.clipped) || a.clipped
             degraded := g.attempts.any (·.stale) || a.stale
             expiredWindow := g.entry.expired
             spanEvent := g.entry.spanEvent
             laneFault := false }
         cause := g.entry.cause
         closureId := g.entry.tag
         classes := classes
         lane := l
         time := s.clock
         level := a.level
         deltaLevel := a.deltaLevel
         delay := a.delay
         deltaDelay := a.deltaDelay
         found := found
         otherCircuit := found.bind s.codeOwner
         generation := (s.circuit g.entry.circuit).baseline.map (·.generation) };
     let r' : Closure :=
       { r with
         counts := r.counts.bump kind, spanEvents := r.spanEvents + (if g.entry.spanEvent then 1 else 0)
         outstanding := r.outstanding - 1 };
     s.calm = true →
     (∀ l' : LaneId, l' ≠ l → (s.lane l').ready = false) →
     s.campaign.state = .idle →
     s.transmitter ≠ .idle →
     1 ≤ s.reserved.verdict →
     (s.lane l).state = .tuned →
     (s.lane l).handed = some b →
     b.purpose = .attempt →
     (s.lane l).grant = some g →
     g.entry.tag = some tag →
     (s.closures.find? (fun x => x.windowId == tag) = some r) →
     1 ≤ s.reserved.summary →
     (s.circuit g.entry.circuit).definition = some d →
     a.cls = .pass ∨ a.cls = .continuityOnly ∨ g.retries ≤ g.attempts.length →
     (∀ e ∈ s.queue, (s.circuit e.circuit).definition.map (·.lane) ≠ some l) →
     exec (.burstResult l) s =
       .next
         ({ (s.setCircuit g.entry.circuit { s.circuit g.entry.circuit with lastVerdict := some v, state :=
             .idle }).setLane l
              { s.lane l with
                state := .parking, samples := [], headCommand := .park, handed := none, work := .none, grant := none
                capture := none } with
            closures :=
              if 1 < r.outstanding then s.closures.map fun x => if x.windowId = tag then r' else x
              else s.closures.filter fun x => x.windowId != tag
            reserved :=
              { s.reserved with
                verdict := s.reserved.verdict - 1
                summary := if 1 < r.outstanding then s.reserved.summary else s.reserved.summary - 1 }
            notices :=
              s.notices ++ (if 1 < r.outstanding then [] else [.windowSummary r' false]) ++
                if s.profile.quietPass = true ∧ (kind = .pass ∨ kind = .continuityOnly) then []
                else [.verdict g.entry.circuit v] })) ∧
  (∀ (s : State) (l : LaneId) (b : HandedBurst) (g : Grant) (d d' : Definition) (e : QueueEntry)
     (before after : List QueueEntry),
     let a := classify s.profile d (s.circuit g.entry.circuit).baseline b;
     let classes := g.attempts.map (·.cls) ++ [a.cls];
     let kind := combine (g.attempts.map (·.cls)) a.cls;
     let found := if kind = .misrouted then a.found else none;
     let v : Verdict :=
       { kind := kind
         qualifiers :=
           { clipped := g.attempts.any (·.clipped) || a.clipped
             degraded := g.attempts.any (·.stale) || a.stale
             expiredWindow := g.entry.expired
             spanEvent := g.entry.spanEvent
             laneFault := false }
         cause := g.entry.cause
         closureId := g.entry.tag
         classes := classes
         lane := l
         time := s.clock
         level := a.level
         deltaLevel := a.deltaLevel
         delay := a.delay
         deltaDelay := a.deltaDelay
         found := found
         otherCircuit := found.bind s.codeOwner
         generation := (s.circuit g.entry.circuit).baseline.map (·.generation) };
     let sent : List Notice :=
       if s.profile.quietPass = true ∧ (kind = .pass ∨ kind = .continuityOnly) then []
       else [.verdict g.entry.circuit v];
     s.calm = true →
     (∀ l' : LaneId, l' ≠ l → (s.lane l').ready = false) →
     s.campaign.state = .idle →
     s.transmitter ≠ .idle →
     1 ≤ s.reserved.verdict →
     (s.lane l).state = .tuned →
     (s.lane l).handed = some b →
     b.purpose = .attempt →
     (s.lane l).grant = some g →
     g.entry.tag = none →
     (s.circuit g.entry.circuit).definition = some d →
     a.cls = .pass ∨ a.cls = .continuityOnly ∨ g.retries ≤ g.attempts.length →
     s.pendingProfile = none →
     (s.lane l).age < s.profile.interval ∧ (s.lane l).calRequested = false →
     s.queue = before ++ e :: after →
     (∀ x ∈ before, (s.circuit x.circuit).definition.map (·.lane) ≠ some l) →
     (∀ x ∈ before ++ after, x.circuit ≠ e.circuit) →
     e.circuit ≠ g.entry.circuit →
     (s.circuit e.circuit).definition = some d' →
     d'.lane = l →
     s.occupied < 32 →
     exec (.burstResult l) s =
       .next
         (if d'.channel = (s.lane l).channel then
            { ((s.setCircuit g.entry.circuit { s.circuit g.entry.circuit with lastVerdict := some v, state :=
                .idle }).setCircuit
                  e.circuit { s.circuit e.circuit with state := .probing }).setLane l
                { s.lane l with
                  state := .measuring, samples := [], burstLength := s.profile.burstLength
                  headCommand := .burst s.profile.burstLength, handed := none, work := .verification e.circuit
                  grant := some ⟨e, s.profile.burstLength, s.profile.retries, [], .measuring⟩, capture := none } with
              queue := before ++ after
              notices := s.notices ++ sent
              reserved := { s.reserved with verdict := s.reserved.verdict - 1 + 1 } }
          else
            { (s.setCircuit g.entry.circuit { s.circuit g.entry.circuit with lastVerdict := some v, state :=
                .idle }).setLane l
                { s.lane l with
                  state := .parking, samples := [], headCommand := .park, handed := none, work := .none, grant := none
                  capture := none } with
              notices := s.notices ++ sent
              reserved := { s.reserved with verdict := s.reserved.verdict - 1 } })) ∧
  (∀ (s : State) (t : Nat) (r : Closure) (kind : VerdictKind) (spanEvent : Bool),
     s.closures.find? (fun c => c.windowId == t) = some r →
     1 ≤ s.reserved.summary →
     s.countVerdict (some t) kind spanEvent =
       let r' : Closure :=
         { r with
           counts := r.counts.bump kind, spanEvents := r.spanEvents + (if spanEvent then 1 else 0)
           outstanding := r.outstanding - 1 }
       if 1 < r.outstanding then
         { s with closures := s.closures.map fun c => if c.windowId = t then r' else c }
       else
         { s with
           closures := s.closures.filter fun c => c.windowId != t
           reserved := { s.reserved with summary := s.reserved.summary - 1 }
           notices := s.notices ++ [.windowSummary r' false] })

/-- A capture burst is kept and repeated, or fails the capture, or completes it: spread judged, baseline formed and
handed on (7.5 The measuring phase, 5.7 Capture arithmetic, 7.6 The commit phase, 1.1 The circuit record, 7.2 The
campaign and its entries). -/
def Obligations.CaptureBursts : Prop :=
  (∀ (s : State) (l : LaneId) (b : HandedBurst) (w : CaptureWork) (d : Definition) (r : Returned),
     s.calm = true →
     (s.lane l).handed = some b →
     b.purpose = .capture →
     (s.lane l).capture = some w →
     (s.circuit w.circuit).definition = some d →
     b.reduce.returned = some r →
     r.code = d.code →
     b.reduce.clipped = false →
     w.kept.length + 1 < w.bursts →
     exec (.burstResult l) s =
       .next
         ((s.setLane l
            { s.lane l with
              handed := none
              state := .measuring
              samples := []
              headCommand := .burst (s.lane l).burstLength
              capture := some { w with kept := w.kept ++ [(levelOf r b.trim, pathDelay r.rawDelay b.offset)] } }))) ∧
  (∀ (s : State) (l : LaneId) (b : HandedBurst) (w : CaptureWork) (d : Definition) (result : CaptureResult),
     s.calm = true →
     (s.lane l).handed = some b →
     b.purpose = .capture →
     (s.lane l).capture = some w →
     (s.circuit w.circuit).definition = some d →
     (∀ l' : LaneId, l' ≠ l → (s.lane l').ready = false) →
     (∀ e ∈ s.queue, (s.circuit e.circuit).definition.map (·.lane) ≠ some l) →
     (s.lane l).state = .tuned →
     s.campaign.host = false ∧ s.campaign.window = false ∧ s.campaign.deferredSuspend = false →
     (∀ e ∈ s.campaign.entries, e.status ≠ .unprocessed) →
     (∃ e ∈ s.campaign.entries, e.circuit ≠ w.circuit ∧ e.status.isCommitting = true) →
     (match b.reduce.returned with
      | none => some (.noReturn (w.kept.length + 1) b.reduce.mean)
      | some r =>
        let levels := w.kept.map (·.1) ++ [levelOf r b.trim]
        if r.code ≠ d.code then some (.wrongCode (w.kept.length + 1) r.code)
        else if b.reduce.clipped = true then some (.clipped (w.kept.length + 1))
        else if w.bursts ≤ w.kept.length + 1 ∧ w.spreadLimit < spreadOf levels then
          some (.unstableCapture (spreadOf levels))
        else none) = some result →
     exec (.burstResult l) s =
       .next
         ({ (s.setCircuit w.circuit { s.circuit w.circuit with state := .idle }).setLane l
              { s.lane l with
                state := .parking, samples := [], headCommand := .park, handed := none, work := .none, grant := none
                capture := none } with
            campaign :=
              { s.campaign with
                progressOwed := false
                entries := s.campaign.entries.map fun e =>
                  if e.circuit = w.circuit then { e with status := .finished result } else e } })) ∧
  (∀ (s : State) (l : LaneId) (b : HandedBurst) (w : CaptureWork) (d : Definition) (r : Returned),
     let kept := w.kept ++ [(levelOf r b.trim, pathDelay r.rawDelay b.offset)];
     let baseline : Baseline :=
       { level := meanLevel (kept.map (·.1)), delay := meanDelay (kept.map (·.2)), captureTime := s.clock
         generation :=
           match (s.circuit w.circuit).baseline with
           | none => 1
           | some b => if b.generation = 65535 then 1 else b.generation + 1
         lane := d.lane, channel := d.channel, code := d.code };
     s.calm = true →
     (s.lane l).handed = some b →
     b.purpose = .capture →
     (s.lane l).capture = some w →
     (s.circuit w.circuit).definition = some d →
     (∀ l' : LaneId, l' ≠ l → (s.lane l').ready = false) →
     (∀ e ∈ s.queue, (s.circuit e.circuit).definition.map (·.lane) ≠ some l) →
     (s.lane l).state = .tuned →
     s.campaign.host = false ∧ s.campaign.window = false ∧ s.campaign.deferredSuspend = false →
     (∀ e ∈ s.campaign.entries, e.status ≠ .unprocessed) →
     b.reduce.returned = some r →
     r.code = d.code →
     b.reduce.clipped = false →
     w.bursts ≤ w.kept.length + 1 →
     spreadOf (kept.map (·.1)) ≤ w.spreadLimit →
     s.insideRegion w.circuit = false →
     s.campaign.handOff = [] →
     s.commits = [] ∧ s.writing = none →
     exec (.burstResult l) s =
       .next
         ({ s.setLane l
              { s.lane l with
                state := .parking, samples := [], headCommand := .park, handed := none, work := .none, grant := none
                capture := none } with
            campaign :=
              { s.campaign with
                entries := s.campaign.entries.map fun e =>
                  if e.circuit = w.circuit then { e with status := .committing l } else e }
            commits := [⟨.writeBaseline w.circuit baseline, .capture w.circuit⟩]
            writing := some ⟨.write, .baseline w.circuit (tableRead .erased s.baseSlots w.circuit)⟩
            baseSlots := tableWrite .erased s.baseSlots w.circuit .damaged }))

/-- A tune timeout in TUNING and a burst gap in MEASURING park the lane, count one error and return its work, else
nothing (4.4 Lane errors and burst stops, 3.5 A lane error during a grant, 4.5 Calibration, 7.5 The measuring phase).
-/
def Obligations.TimeoutsByState : Prop :=
  (∀ (s : State) (l : LaneId) (g : Grant),
     s.calm = true →
     s.lanesBusy = true →
     (s.lane l).state = .tuning →
     (s.lane l).grant = some g →
     exec (.tuneTimeout l) s =
       .next
         ({ (s.setCircuit g.entry.circuit { s.circuit g.entry.circuit with state := .pending }).setLane l
              { s.lane l with
                state := .parking, samples := [], headCommand := .park, handed := none, work := .none, grant := none
                capture := none, errorCount := min 2 ((s.lane l).errorCount + 1)
                lastError := some ⟨.tuneFailure, some g.entry.circuit⟩ } with
            reserved := { s.reserved with verdict := s.reserved.verdict - 1 }
            queue := g.entry :: s.queue })) ∧
  (∀ (s : State) (l : LaneId) (w : CaptureWork),
     s.calm = true →
     s.lanesBusy = true →
     (s.lane l).state = .tuning →
     (s.lane l).grant = none →
     (s.lane l).capture = some w →
     s.campaign.host = false ∧ s.campaign.window = false →
     exec (.tuneTimeout l) s =
       .next
         ({ (s.setCircuit w.circuit { s.circuit w.circuit with state := .idle }).setLane l
              { s.lane l with
                state := .parking, samples := [], headCommand := .park, handed := none, work := .none, grant := none
                capture := none, errorCount := min 2 ((s.lane l).errorCount + 1)
                lastError := some ⟨.tuneFailure, some w.circuit⟩ } with
            campaign :=
              { s.campaign with
                entries := s.campaign.entries.map fun e =>
                  if e.circuit = w.circuit then { e with status := .unprocessed } else e } })) ∧
  (∀ (s : State) (l : LaneId),
     s.calm = true →
     (s.lane l).state = .tuning →
     (s.lane l).grant = none →
     (s.lane l).capture = none →
     exec (.tuneTimeout l) s =
       .next
         (s.setLane l
              { s.lane l with
                state := .parking, samples := [], headCommand := .park, handed := none, work := .none, grant := none
                capture := none, errorCount := min 2 ((s.lane l).errorCount + 1)
                lastError := some ⟨.tuneFailure, none⟩ })) ∧
  (∀ (s : State) (l : LaneId),
     s.calm = true →
     (s.lane l).state = .calibrating →
     exec (.tuneTimeout l) s =
       .next
         (if (s.lane l).calStep = some .tune then
            s.setLane l
              { s.lane l with
                calStep := some .park, calResult := some ⟨.tuneFailure, 0, 0⟩, samples := [], handed := none,
                    headCommand := .park }
          else s)) ∧
  (∀ (s : State) (l : LaneId),
     s.calm = true →
     (s.lane l).state ≠ .tuning →
     (s.lane l).state ≠ .calibrating →
     exec (.tuneTimeout l) s =
       .next
         (s)) ∧
  (∀ (s : State) (l : LaneId) (g : Grant),
     s.calm = true →
     s.lanesBusy = true →
     (s.lane l).state = .measuring →
     (s.lane l).grant = some g →
     exec (.burstGapTimeout l) s =
       .next
         ({ (s.setCircuit g.entry.circuit { s.circuit g.entry.circuit with state := .pending }).setLane l
              { s.lane l with
                state := .parking, samples := [], headCommand := .park, handed := none, work := .none, grant := none
                capture := none, errorCount := min 2 ((s.lane l).errorCount + 1)
                lastError := some ⟨.burstFailure, some g.entry.circuit⟩ } with
            reserved := { s.reserved with verdict := s.reserved.verdict - 1 }
            queue := g.entry :: s.queue })) ∧
  (∀ (s : State) (l : LaneId) (w : CaptureWork),
     s.calm = true →
     s.lanesBusy = true →
     (s.lane l).state = .measuring →
     (s.lane l).grant = none →
     (s.lane l).capture = some w →
     s.campaign.host = false ∧ s.campaign.window = false →
     exec (.burstGapTimeout l) s =
       .next
         ({ (s.setCircuit w.circuit { s.circuit w.circuit with state := .idle }).setLane l
              { s.lane l with
                state := .parking, samples := [], headCommand := .park, handed := none, work := .none, grant := none
                capture := none, errorCount := min 2 ((s.lane l).errorCount + 1)
                lastError := some ⟨.burstFailure, some w.circuit⟩ } with
            campaign :=
              { s.campaign with
                entries := s.campaign.entries.map fun e =>
                  if e.circuit = w.circuit then { e with status := .unprocessed } else e } })) ∧
  (∀ (s : State) (l : LaneId),
     s.calm = true →
     (s.lane l).state = .measuring →
     (s.lane l).grant = none →
     (s.lane l).capture = none →
     exec (.burstGapTimeout l) s =
       .next
         (s.setLane l
              { s.lane l with
                state := .parking, samples := [], headCommand := .park, handed := none, work := .none, grant := none
                capture := none, errorCount := min 2 ((s.lane l).errorCount + 1)
                lastError := some ⟨.burstFailure, none⟩ })) ∧
  (∀ (s : State) (l : LaneId),
     s.calm = true →
     (s.lane l).state = .calibrating →
     exec (.burstGapTimeout l) s =
       .next
         (if (s.lane l).calStep = some .burst then
            s.setLane l
              { s.lane l with
                calStep := some .park, calResult := some ⟨.burstFailure, 0, 0⟩, samples := [], handed := none,
                    headCommand := .park }
          else s)) ∧
  (∀ (s : State) (l : LaneId),
     s.calm = true →
     (s.lane l).state ≠ .measuring →
     (s.lane l).state ≠ .calibrating →
     exec (.burstGapTimeout l) s =
       .next
         (s))

/-- The end of a park: a reference run, a grant of the oldest entry, PARKED, or FAULTED with its notice and
UNMEASURABLE verdicts (4.4 Lane errors and burst stops, 3.3 The lane arbiter, 4.7 The profile, 6.4 The verdict record,
3.2 The lane grant, 7.4 Reaching the entries, 7.5 The measuring phase). -/
def Obligations.ParkEnds : Prop :=
  (∀ (s : State) (l : LaneId),
     s.calm = true →
     (s.lane l).state ≠ .parking →
     (s.lane l).state ≠ .calibrating →
     exec (.parkEnd l) s =
       .next
         (s)) ∧
  (∀ (s : State) (l : LaneId),
     s.calm = true →
     (s.lane l).state = .parking →
     s.pendingProfile = none →
     (s.lane l).errorCount ≠ 2 →
     (s.lane l).age < s.profile.interval ∧ (s.lane l).calRequested = false →
     (∀ e ∈ s.queue, (s.circuit e.circuit).definition.map (·.lane) ≠ some l) →
     s.campaign.state ≠ .running →
     exec (.parkEnd l) s =
       .next
         (s.setLane l { s.lane l with state := .parked })) ∧
  (∀ (s : State) (l : LaneId),
     s.calm = true →
     (s.lane l).state = .parking →
     s.pendingProfile = none →
     (s.lane l).errorCount ≠ 2 →
     s.profile.interval ≤ (s.lane l).age ∨ (s.lane l).calRequested = true →
     exec (.parkEnd l) s =
       .next
         ((s.setLane l
            { s.lane l with
              state := .calibrating, work := .referenceRun, calStep := some .tune, calResult := none, samples := []
              headCommand := .tuneReference }))) ∧
  (∀ (s : State) (l : LaneId) (err : LaneError),
     s.calm = true →
     (s.lane l).state = .parking →
     s.pendingProfile = none →
     (s.lane l).errorCount = 2 →
     (s.lane l).lastError = some err →
     (∀ e ∈ s.queue, (s.circuit e.circuit).definition.map (·.lane) ≠ some l) →
     s.campaign.state ≠ .running →
     exec (.parkEnd l) s =
       .next
         ((s.setLane l { s.lane l with state := .faulted }).noticed (.laneFault l err.kind err.circuit s.clock))) ∧
  (∀ (s : State) (l : LaneId) (e : QueueEntry) (before after : List QueueEntry) (d : Definition),
     s.calm = true →
     (s.lane l).state = .parking →
     s.pendingProfile = none →
     (s.lane l).errorCount ≠ 2 →
     (s.lane l).age < s.profile.interval ∧ (s.lane l).calRequested = false →
     s.queue = before ++ e :: after →
     (∀ x ∈ before, (s.circuit x.circuit).definition.map (·.lane) ≠ some l) →
     (∀ x ∈ before ++ after, x.circuit ≠ e.circuit) →
     (s.circuit e.circuit).definition = some d →
     d.lane = l →
     s.occupied < 32 →
     exec (.parkEnd l) s =
       .next
         ({ (s.setCircuit e.circuit { s.circuit e.circuit with state := .probing }).setLane l
              { s.lane l with
                state := .tuning, channel := d.channel, headCommand := .tune d.channel, burstLength :=
                    s.profile.burstLength
                work := .verification e.circuit
                grant := some ⟨e, s.profile.burstLength, s.profile.retries, [], .tuning⟩ } with
            queue := before ++ after
            reserved := { s.reserved with verdict := s.reserved.verdict + 1 } })) ∧
  (∀ (s : State) (l : LaneId) (err : LaneError) (e : QueueEntry) (before after : List QueueEntry) (d : Definition),
     let v : Verdict :=
       { kind := .unmeasurable
         qualifiers := { expiredWindow := e.expired, spanEvent := e.spanEvent, laneFault := true }
         cause := e.cause, closureId := none, classes := [], lane := l, time := s.clock, level := none, deltaLevel :=
             none
         delay := none, deltaDelay := none, found := none, otherCircuit := none, generation := none };
     s.calm = true →
     (s.lane l).state = .parking →
     s.pendingProfile = none →
     (s.lane l).errorCount = 2 →
     (s.lane l).lastError = some err →
     s.queue = before ++ e :: after →
     (∀ x ∈ before ++ after, (s.circuit x.circuit).definition.map (·.lane) ≠ some l) →
     (∀ x ∈ before ++ after, x.circuit ≠ e.circuit) →
     (s.circuit e.circuit).definition = some d →
     d.lane = l →
     e.tag = none →
     s.campaign.state = .idle →
     s.transmitter ≠ .idle →
     s.occupied < 31 →
     exec (.parkEnd l) s =
       .next
         ({ (s.setCircuit e.circuit { s.circuit e.circuit with state := .idle, lastVerdict := some v }).setLane l
              { s.lane l with state := .faulted } with
            queue := before ++ after
            notices := s.notices ++ [.laneFault l err.kind err.circuit s.clock, .verdict e.circuit v] })) ∧
  (∀ (s : State) (l : LaneId) (p : Profile),
     s.calm = true →
     (s.lane l).state = .parking →
     s.pendingProfile = some p →
     (s.lane l).errorCount ≠ 2 →
     (∀ l' : LaneId, l' ≠ l → (s.lane l').state = .parked ∨ (s.lane l').state = .faulted) →
     s.queue = [] →
     s.campaign.state ≠ .running →
     s.transmitter ≠ .idle →
     1 ≤ s.reserved.profileApplied →
     exec (.parkEnd l) s =
       .next
         ({ s with
            profile := p
            pendingProfile := none
            lanes := (s.setLane l { s.lane l with state := .parked }).lanes.map fun r =>
              if r.state = .parked ∧ (p.interval ≤ r.age ∨ r.calRequested = true) then r.startRun else r
            reserved := { s.reserved with profileApplied := s.reserved.profileApplied - 1 }
            notices := s.notices ++ [.profileApplied p] })) ∧
  (∀ (s : State) (l : LaneId) (before after : List CaptureEntry) (c : Nat) (d : Definition),
     let waits (x : CaptureEntry) : Bool :=
       x.status == .unprocessed && (s.circuit x.circuit).definition.map (·.lane) == some l &&
         (s.circuit x.circuit).state == .idle && !(s.circuit x.circuit).changing;
     s.calm = true →
     (s.lane l).state = .parking →
     s.pendingProfile = none →
     (s.lane l).errorCount ≠ 2 →
     (s.lane l).age < s.profile.interval ∧ (s.lane l).calRequested = false →
     (∀ e ∈ s.queue, (s.circuit e.circuit).definition.map (·.lane) ≠ some l) →
     s.campaign.state = .running →
     (s.campaign.entries.map (·.circuit)).Nodup →
     (s.lane l).fresh = true →
     s.campaign.entries = before ++ ⟨c, .unprocessed⟩ :: after →
     (∀ x ∈ before, waits x = false) →
     waits ⟨c, .unprocessed⟩ = true →
     (s.circuit c).definition = some d →
     s.insideRegion c = false →
     ((s.campaign.entries.countP fun x => x.status.isCommitting) < 8) →
     exec (.parkEnd l) s =
       .next
         ({ (s.setCircuit c { s.circuit c with state := .capturing }).setLane l
              { s.lane l with
                state := .tuning, channel := d.channel, headCommand := .tune d.channel, burstLength :=
                    s.profile.burstLength
                work := .capture c
                capture := some ⟨c, s.profile.burstLength, s.profile.captureBursts, s.profile.spreadLimit, []⟩ } with
            campaign := { s.campaign with entries := before ++ ⟨c, .measuring l⟩ :: after } })) ∧
  (∀ (s : State) (l : LaneId),
     let waits (x : CaptureEntry) : Bool :=
       x.status == .unprocessed && (s.circuit x.circuit).definition.map (·.lane) == some l &&
         (s.circuit x.circuit).state == .idle && !(s.circuit x.circuit).changing;
     s.calm = true →
     (s.lane l).state = .parking →
     s.pendingProfile = none →
     (s.lane l).errorCount ≠ 2 →
     (s.lane l).age < s.profile.interval ∧ (s.lane l).calRequested = false →
     (∀ e ∈ s.queue, (s.circuit e.circuit).definition.map (·.lane) ≠ some l) →
     s.campaign.state = .running →
     (s.campaign.entries.map (·.circuit)).Nodup →
     s.campaign.host = false ∧ s.campaign.window = false ∧ s.campaign.deferredSuspend = false →
     (∃ x ∈ s.campaign.entries, waits x = false ∧ x.status.isFinished = false) →
     (∃ x ∈ s.campaign.entries, waits x = true) →
     (∀ x ∈ s.campaign.entries, waits x = true → s.insideRegion x.circuit = true) →
     exec (.parkEnd l) s =
       .next
         ({ s.setLane l { s.lane l with state := .parked } with
            campaign :=
              { s.campaign with
                progressOwed := false
                entries := s.campaign.entries.map fun x =>
                  if waits x then { x with status := .finished .insideRegion } else x } })) ∧
  (∀ (s : State) (l : LaneId) (err : LaneError),
     let waits (x : CaptureEntry) : Bool :=
       x.status == .unprocessed && (s.circuit x.circuit).definition.map (·.lane) == some l &&
         (s.circuit x.circuit).state == .idle && !(s.circuit x.circuit).changing;
     s.calm = true →
     (s.lane l).state = .parking →
     s.pendingProfile = none →
     (s.lane l).errorCount = 2 →
     (s.lane l).lastError = some err →
     (∀ e ∈ s.queue, (s.circuit e.circuit).definition.map (·.lane) ≠ some l) →
     s.campaign.state = .running →
     (s.campaign.entries.map (·.circuit)).Nodup →
     s.campaign.host = false ∧ s.campaign.window = false ∧ s.campaign.deferredSuspend = false →
     (∃ x ∈ s.campaign.entries, waits x = false ∧ x.status.isFinished = false) →
     (∃ x ∈ s.campaign.entries, waits x = true) →
     exec (.parkEnd l) s =
       .next
         (State.noticed
            { s.setLane l { s.lane l with state := .faulted } with
              campaign :=
                { s.campaign with
                  progressOwed := false
                  entries := s.campaign.entries.map fun x =>
                    if waits x then
                      { x with status := .finished (if s.insideRegion x.circuit then .insideRegion else .laneFault) }
                    else x } }
            (.laneFault l err.kind err.circuit s.clock))) ∧
  (∀ (s : State) (l : LaneId),
     let waits (x : CaptureEntry) : Bool :=
       x.status == .unprocessed && (s.circuit x.circuit).definition.map (·.lane) == some l &&
         (s.circuit x.circuit).state == .idle && !(s.circuit x.circuit).changing;
     s.calm = true →
     (s.lane l).state = .parking →
     s.pendingProfile = none →
     (s.lane l).errorCount ≠ 2 →
     (s.lane l).age < s.profile.interval ∧ (s.lane l).calRequested = false →
     (∀ e ∈ s.queue, (s.circuit e.circuit).definition.map (·.lane) ≠ some l) →
     s.campaign.state = .running →
     ((s.lane l).fresh = false ∨ 8 ≤ s.campaign.entries.countP fun x => x.status.isCommitting) →
     (∀ x ∈ s.campaign.entries, waits x = true → s.insideRegion x.circuit = false) →
     (s.campaign.entries.map (·.circuit)).Nodup →
     exec (.parkEnd l) s =
       .next
         (s.setLane l { s.lane l with state := .parked }))

/-- The end of a reference run: success sets trim and offset, FRESH and no errors; a failure keeps them, STALE, and
counts one error (4.5 Calibration, 4.4 Lane errors and burst stops). -/
def Obligations.ReferenceRunEnds : Prop :=
  (∀ (s : State) (l : LaneId) (r : CalResult),
     s.calm = true →
     (s.lane l).state = .calibrating →
     (s.lane l).calStep = some .park →
     (s.lane l).calResult = some r →
     s.pendingProfile = none →
     1 ≤ s.profile.interval →
     (∀ e ∈ s.queue, (s.circuit e.circuit).definition.map (·.lane) ≠ some l) →
     s.campaign.state ≠ .running →
     r.outcome = .success →
     exec (.parkEnd l) s =
       .next
         ((s.setLane l
            { s.lane l with
              state := .parked, trim := r.trim, offset := r.offset, fresh := true, errorCount := 0, age := 0
              calRequested := false, lastOutcome := some .success, work := .none, calStep := none, calResult :=
                  none }))) ∧
  (∀ (s : State) (l : LaneId) (r : CalResult),
     s.calm = true →
     (s.lane l).state = .calibrating →
     (s.lane l).calStep = some .park →
     (s.lane l).calResult = some r →
     s.pendingProfile = none →
     1 ≤ s.profile.interval →
     (∀ e ∈ s.queue, (s.circuit e.circuit).definition.map (·.lane) ≠ some l) →
     s.campaign.state ≠ .running →
     r.outcome ≠ .success →
     (s.lane l).errorCount = 0 →
     exec (.parkEnd l) s =
       .next
         ((s.setLane l
            { s.lane l with
              state := .parked, fresh := false, errorCount := 1, lastError := some ⟨.calibration r.outcome, none⟩
              age := 0, calRequested := false, lastOutcome := some r.outcome, work := .none, calStep := none,
                  calResult := none }))) ∧
  (∀ (s : State) (l : LaneId) (r : CalResult),
     s.calm = true →
     (s.lane l).state = .calibrating →
     (s.lane l).calStep = some .park →
     (s.lane l).calResult = some r →
     s.pendingProfile = none →
     1 ≤ s.profile.interval →
     (∀ e ∈ s.queue, (s.circuit e.circuit).definition.map (·.lane) ≠ some l) →
     s.campaign.state ≠ .running →
     r.outcome ≠ .success →
     1 ≤ (s.lane l).errorCount →
     exec (.parkEnd l) s =
       .next
         ((s.setLane l
            { s.lane l with
              state := .faulted, fresh := false, errorCount := 2, lastError := some ⟨.calibration r.outcome, none⟩
              age := 0, calRequested := false, lastOutcome := some r.outcome, work := .none, calStep := none,
                  calResult := none }).noticed (.laneFault l (.calibration r.outcome) none s.clock)))

/-- A transition of a sense line latches by mode and polarity; a newly set masked status is an event, routed and
reported (9.2 Latching and events, 9.4 Routing an event, 2.6 The window event list, 9.5 The SENSE notice, 7.8
Disturbance by the shelf). A level that is repeated is no transition (log 34); latching without power is log 12. -/
def Obligations.SenseTransition : Prop :=
  (∀ (s : State) (l : LineId) (high : Bool),
     s.calm = true →
     (s.line l).input = high →
     exec (.senseInputTransition l high) s =
       .next
         (s)) ∧
  (∀ (s : State) (l : LineId) (high : Bool),
     let latched := (((s.line l).mode == .edge && (s.line l).bothEdges) || high == ((s.line l).polarity == .high));
     let r : SenseLine :=
       { s.line l with
         input := high, raw := (s.line l).raw || latched, masked := ((s.line l).raw || latched) && (s.line l).enabled };
     s.calm = true →
     (s.line l).input ≠ high →
     (s.line l).masked = true ∨ r.masked = false →
     exec (.senseInputTransition l high) s =
       .next
         (s.setLine l r)) ∧
  (∀ (s : State) (l : LineId) (high : Bool),
     let latched := (((s.line l).mode == .edge && (s.line l).bothEdges) || high == ((s.line l).polarity == .high));
     let r : SenseLine :=
       { s.line l with
         input := high, raw := (s.line l).raw || latched, masked := ((s.line l).raw || latched) && (s.line l).enabled };
     s.calm = true →
     (s.line l).input ≠ high →
     (s.line l).masked = false ∧ r.masked = true →
     (r.span = 0 ∨ ((∀ w ∈ s.stack, r.span ∉ w.spans) ∧ r.action = .logOnly)) →
     exec (.senseInputTransition l high) s =
       .next
         ((s.setLine l r).noticed (.sense l r.span r.mode s.clock .noticeOnly))) ∧
  (∀ (s : State) (l : LineId) (high : Bool) (before after : List Window) (w : Window),
     let latched := (((s.line l).mode == .edge && (s.line l).bothEdges) || high == ((s.line l).polarity == .high));
     let r : SenseLine :=
       { s.line l with
         input := high, raw := (s.line l).raw || latched, masked := ((s.line l).raw || latched) && (s.line l).enabled };
     s.calm = true →
     (s.line l).input ≠ high →
     (s.line l).masked = false ∧ r.masked = true →
     r.span ≠ 0 →
     s.stack = before ++ w :: after →
     (∀ x ∈ before, r.span ∉ x.spans) →
     r.span ∈ w.spans →
     exec (.senseInputTransition l high) s =
       .next
         (State.noticed
            { s.setLine l r with
              stack :=
                before ++
                  (if w.events.length < 16 then { w with events := w.events ++ [⟨l, r.span, s.clock, r.mode⟩] }
                    else { w with moreEvents := true }) :: after }
            (.sense l r.span r.mode s.clock (.window w.id (decide (w.events.length < 16)))))) ∧
  (∀ (s : State) (l : LineId) (high : Bool),
     let latched := (((s.line l).mode == .edge && (s.line l).bothEdges) || high == ((s.line l).polarity == .high));
     let r : SenseLine :=
       { s.line l with
         input := high, raw := (s.line l).raw || latched, masked := ((s.line l).raw || latched) && (s.line l).enabled };
     let found := (s.crossing r.span).filter fun c => (s.circuit c).state = .idle ∧ (s.circuit c).changing = false;
     s.calm = true →
     (s.line l).input ≠ high →
     (s.line l).masked = false ∧ r.masked = true →
     s.lanesBusy = true →
     r.span ≠ 0 →
     (∀ w ∈ s.stack, r.span ∉ w.spans) →
     r.action = .verify →
     (∀ c ∈ s.crossing r.span, (s.circuit c).state ≠ .capturing) →
     (s.crossing r.span).Nodup →
     ∃ t, exec (.senseInputTransition l high) s = .next t ∧
       (t =
          State.noticed
            { s.setLine l r with
              circuits := t.circuits
              queue := s.queue ++ found.map fun c => ⟨c, .sense, none, false, false⟩ }
            (.sense l r.span r.mode s.clock (.verify found.length 0))) ∧
       (∀ c : Nat, t.circuit c = if c ∈ found then { s.circuit c with state := .pending } else s.circuit c)) ∧
  (∀ (s : State) (l : LineId) (high : Bool),
     s.phase = .off →
     exec (.senseInputTransition l high) s =
       .next
         (s.setLine l { s.line l with input := high })) ∧
  (∀ (s : State) (l : LineId) (high : Bool),
     let latched := (((s.line l).mode == .edge && (s.line l).bothEdges) || high == ((s.line l).polarity == .high));
     let r : SenseLine :=
       { s.line l with
         input := high, raw := (s.line l).raw || latched, masked := ((s.line l).raw || latched) && (s.line l).enabled };
     let found := (s.crossing r.span).filter fun c => (s.circuit c).state = .idle ∧ (s.circuit c).changing = false;
     let capturing := (s.crossing r.span).filter fun c => (s.circuit c).state = .capturing;
     let measuring := capturing.filter fun c => s.entryIs c EntryStatus.isMeasuring;
     s.calm = true →
     (s.line l).input ≠ high →
     (s.line l).masked = false ∧ r.masked = true →
     s.lanesBusy = true →
     r.span ≠ 0 →
     (∀ w ∈ s.stack, r.span ∉ w.spans) →
     r.action = .verify →
     (s.crossing r.span).Nodup →
     (s.campaign.entries.map (·.circuit)).Nodup →
     s.campaign.host = false ∧ s.campaign.window = false ∧ s.campaign.deferredSuspend = false →
     (measuring = [] ∨ ∃ e ∈ s.campaign.entries, e.circuit ∉ measuring ∧ e.status.isFinished = false) →
     ∃ t, exec (.senseInputTransition l high) s = .next t ∧
       (t =
          State.noticed
            { s.setLine l r with
              circuits := t.circuits
              lanes := t.lanes
              queue := s.queue ++ (found ++ measuring).map fun c => ⟨c, .sense, none, false, false⟩
              campaign :=
                { s.campaign with
                  progressOwed := s.campaign.progressOwed && measuring.isEmpty
                  entries := s.campaign.entries.map fun e =>
                    if e.circuit ∈ measuring then { e with status := .finished .disturbed } else e } }
            (.sense l r.span r.mode s.clock (.verify found.length capturing.length))) ∧
       (∀ c : Nat, t.circuit c =
          if c ∈ found ∨ c ∈ measuring then { s.circuit c with state := .pending }
          else if c ∈ capturing then { s.circuit c with disturbed := true }
          else s.circuit c) ∧
       (∀ k : LaneId, t.lane k =
          if ∃ c ∈ measuring, s.campaign.entryFor c = some ⟨c, .measuring k⟩ then (s.lane k).stop else s.lane k))

/-- A slot write: agreed, or rewritten once, or the old cells restored, or the check word erased; and what
SET_PROTECTION's becomes (10.2 The commit queue, 8.3 Changing the region and the level, 8.2 Lock levels). -/
def Obligations.StoreWriteSteps : Prop :=
  (∀ (s : State) (agrees erased : Bool),
     s.calm = true →
     s.writing = none ∨ s.commits = [] →
     exec (.storeWriteDone agrees erased) s =
       .next
         (s)) ∧
  (∀ (s : State) (erased : Bool) (w : Writing),
     s.calm = true →
     s.commits ≠ [] →
     s.writing = some w →
     w.step ≠ .eraseCheck →
     exec (.storeWriteDone false erased) s =
       .next
         ({ s with
            writing :=
              some { w with step := match w.step with | .write => .rewrite | .rewrite => .restore | _ => .eraseCheck }
                  })) ∧
  (∀ (s : State) (agrees erased : Bool) (w : Writing) (tag : U8) (p : ProtectionRecord) (session : Bool),
     s.calm = true →
     s.processor = .committing tag (.protect p session) →
     s.commits = [⟨.writeProtection p, .processor⟩] →
     s.writing = some w →
     s.replies.length < 8 →
     agrees = true →
     w.step = .write ∨ w.step = .rewrite →
     exec (.storeWriteDone agrees erased) s =
       .next
         (State.replied
            { s with
              processor := .free, commits := [], writing := none, permit := false, regionBeingWritten := none
              protSlot := .holding p, region := p.region, storedLevel := p.level, overlay := s.overlay || session }
            tag 0x50 .ok
            (.protectionSet p.region
              (if s.overlay || session then .session else if p.level = .line then .line else .openLevel)))) ∧
  (∀ (s : State) (agrees erased : Bool) (w : Writing) (tag : U8) (p : ProtectionRecord) (session : Bool)
      (x : Slot ProtectionRecord),
     s.calm = true →
     s.processor = .committing tag (.protect p session) →
     s.commits = [⟨.writeProtection p, .processor⟩] →
     s.writing = some w →
     s.replies.length < 8 →
     w.saved = .protection x →
     agrees = true →
     w.step = .restore →
     exec (.storeWriteDone agrees erased) s =
       .next
         (State.replied
            { s with
              processor := .free, commits := [], writing := none, permit := false, regionBeingWritten := none
              protSlot := x }
            tag 0x50 .storeFault .none)) ∧
  (∀ (s : State) (agrees erased : Bool) (w : Writing) (tag : U8) (p : ProtectionRecord) (session : Bool)
      (x : Slot ProtectionRecord),
     s.calm = true →
     s.processor = .committing tag (.protect p session) →
     s.commits = [⟨.writeProtection p, .processor⟩] →
     s.writing = some w →
     s.replies.length < 8 →
     w.saved = .protection x →
     w.step = .eraseCheck →
     exec (.storeWriteDone agrees erased) s =
       .next
         (State.replied
            { s with
              processor := .free, commits := [], writing := none, permit := false, regionBeingWritten := none
              protSlot := if erased then .erased else .damaged }
            tag 0x50 .storeFault .none))

/-- The commits of DEFINE_CIRCUIT, DELETE_CIRCUIT and CLEAR_BASELINE take effect in the table and both indexes, then
are answered (1.4 Defining a circuit, 1.5 Deleting a circuit and clearing its baseline, 1.2 The marker-code map and
the span index, 10.2 The commit queue). Whether cells are wholly erased after a check word has been is an operand: log
19. -/
def Obligations.CommitsTakeEffect : Prop :=
  (∀ (s : State) (erased : Bool) (w : Writing) (tag : U8) (id : Nat) (d : Definition) (kind : DefineKind)
      (clamped second : Bool),
     let holds := s.stack.countP fun x => d.spans.any fun p => x.spans.contains p;
     s.calm = true →
     s.processor = .committing tag (.define id d kind clamped second) →
     s.commits = [⟨.writeDefinition id d, .processor⟩] →
     s.writing = some w →
     w.step = .write ∨ w.step = .rewrite →
     s.replies.length < 8 →
     s.campaign.state = .idle →
     second = false →
     kind ≠ .discarding →
     (kind = .new → (s.circuit id).state ≠ .unreadable) →
     s.spansExact →
     ∃ t, exec (.storeWriteDone true erased) s = .next t ∧
       (t =
          State.replied
            { s with
              processor := .free, commits := [], writing := none
              defSlots := tableWrite .erased s.defSlots id (.holding d)
              circuits := t.circuits, codeMap := t.codeMap, spanIndex := t.spanIndex }
            tag 0x20 (if clamped then .adjusted else .ok) (if clamped then .override d.override else .none)) ∧
       (∀ c : Nat, t.circuit c =
          if c = id then
            { s.circuit id with
              definition := some d, holds := holds, state := if holds = 0 then .idle else .held, changing := false
              baseline := if kind = .overrideOnly ∨ kind = .noBaseline then (s.circuit id).baseline else none
              lastVerdict := if kind = .overrideOnly then (s.circuit id).lastVerdict else none }
          else s.circuit c) ∧
       (∀ code : Nat, t.codeOwner code =
          if code = d.code then some id
          else if (s.circuit id).definition.map (·.code) = some code then none
          else s.codeOwner code) ∧
       (∀ p : Nat, ∀ c : Nat, c ∈ t.crossing p ↔ if c = id then p ∈ d.spans else c ∈ s.crossing p) ∧
       (s.spansAscending = true → t.spansAscending = true)) ∧
  (∀ (s : State) (erased : Bool) (w : Writing) (tag : U8) (id : Nat) (d : Definition) (kind : DefineKind)
      (clamped : Bool),
     s.calm = true →
     s.processor = .committing tag (.define id d kind clamped false) →
     kind = .discarding ∨ (kind = .new ∧ (s.circuit id).state = .unreadable) →
     s.commits = [⟨.writeDefinition id d, .processor⟩] →
     s.writing = some w →
     w.step = .write ∨ w.step = .rewrite →
     exec (.storeWriteDone true erased) s =
       .next
         ({ s with
            defSlots := tableWrite .erased s.defSlots id (.holding d)
            processor := .committing tag (.define id d kind clamped true)
            commits := [⟨.eraseBaseline id, .processor⟩]
            writing := some ⟨.write, .baseline id (tableRead .erased s.baseSlots id)⟩
            baseSlots := tableWrite .erased s.baseSlots id .damaged })) ∧
  (∀ (s : State) (erased : Bool) (w : Writing) (tag : U8) (id : Nat) (usesPermit : Bool),
     s.calm = true →
     s.processor = .committing tag (.delete id usesPermit false) →
     s.commits = [⟨.eraseBaseline id, .processor⟩] →
     s.writing = some w →
     w.step = .write ∨ w.step = .rewrite →
     exec (.storeWriteDone true erased) s =
       .next
         ({ s with
            baseSlots := tableWrite .erased s.baseSlots id .erased
            processor := .committing tag (.delete id usesPermit true)
            commits := [⟨.eraseDefinition id, .processor⟩]
            writing := some ⟨.write, .definition id (tableRead .erased s.defSlots id)⟩
            defSlots := tableWrite .erased s.defSlots id .damaged })) ∧
  (∀ (s : State) (erased : Bool) (w : Writing) (tag : U8) (id : Nat) (usesPermit : Bool),
     s.calm = true →
     s.processor = .committing tag (.delete id usesPermit true) →
     s.commits = [⟨.eraseDefinition id, .processor⟩] →
     s.writing = some w →
     w.step = .write ∨ w.step = .rewrite →
     s.replies.length < 8 →
     s.campaign.state = .idle →
     s.spansExact →
     ∃ t, exec (.storeWriteDone true erased) s = .next t ∧
       (t =
          State.replied
            { s with
              processor := .free, commits := [], writing := none, permit := s.permit && !usesPermit
              defSlots := tableWrite .erased s.defSlots id .erased
              circuits := t.circuits, codeMap := t.codeMap, spanIndex := t.spanIndex }
            tag 0x21 .ok .none) ∧
       (∀ c : Nat, t.circuit c = if c = id then {} else s.circuit c) ∧
       (∀ code : Nat, t.codeOwner code =
          if (s.circuit id).definition.map (·.code) = some code then none else s.codeOwner code) ∧
       (∀ p : Nat, ∀ c : Nat, c ∈ t.crossing p ↔ c ≠ id ∧ c ∈ s.crossing p) ∧
       (s.spansAscending = true → t.spansAscending = true)) ∧
  (∀ (s : State) (erased : Bool) (w : Writing) (tag : U8) (id : Nat),
     s.calm = true →
     s.processor = .committing tag (.clearBaseline id) →
     s.commits = [⟨.eraseBaseline id, .processor⟩] →
     s.writing = some w →
     w.step = .write ∨ w.step = .rewrite →
     s.replies.length < 8 →
     s.campaign.state = .idle →
     exec (.storeWriteDone true erased) s =
       .next
         (State.replied
            { s.setCircuit id { s.circuit id with baseline := none, changing := false } with
              processor := .free, commits := [], writing := none, permit := false
              baseSlots := tableWrite .erased s.baseSlots id .erased }
            tag 0x22 .ok .none)) ∧
  (∀ (s : State) (erased : Bool) (w : Writing) (tag : U8) (id : Nat) (d : Definition) (kind : DefineKind)
      (clamped : Bool),
     let holds := s.stack.countP fun x => d.spans.any fun p => x.spans.contains p;
     s.calm = true →
     s.processor = .committing tag (.define id d kind clamped true) →
     kind = .new ∨ kind = .discarding →
     s.commits = [⟨.eraseBaseline id, .processor⟩] →
     s.writing = some w →
     w.step = .write ∨ w.step = .rewrite →
     s.replies.length < 8 →
     s.campaign.state = .idle →
     s.spansExact →
     ∃ t, exec (.storeWriteDone true erased) s = .next t ∧
       (t =
          State.replied
            { s with
              processor := .free, commits := [], writing := none, permit := s.permit && decide (kind ≠ .discarding)
              baseSlots := tableWrite .erased s.baseSlots id .erased
              circuits := t.circuits, codeMap := t.codeMap, spanIndex := t.spanIndex }
            tag 0x20 (if clamped then .adjusted else .ok) (if clamped then .override d.override else .none)) ∧
       (∀ c : Nat, t.circuit c =
          if c = id then
            { s.circuit id with
              definition := some d, holds := holds, state := if holds = 0 then .idle else .held, changing := false
              baseline := none, lastVerdict := none }
          else s.circuit c) ∧
       (∀ code : Nat, t.codeOwner code =
          if code = d.code then some id
          else if (s.circuit id).definition.map (·.code) = some code then none
          else s.codeOwner code) ∧
       (∀ p : Nat, ∀ c : Nat, c ∈ t.crossing p ↔ if c = id then p ∈ d.spans else c ∈ s.crossing p) ∧
       (s.spansAscending = true → t.spansAscending = true)) ∧
  (∀ (s : State) (agrees erased : Bool) (w : Writing) (tag code : U8) (job : Job) (op : StoreOp) (id : Nat)
      (uses : Bool) (d : Definition)
     (kind : DefineKind) (clamped : Bool) (x : Slot Definition),
     s.calm = true →
     s.processor = .committing tag job →
     s.commits = [⟨op, .processor⟩] →
     s.writing = some w →
     (agrees = true ∧ w.step = .restore) ∨ w.step = .eraseCheck →
     s.replies.length < 8 →
     s.campaign.state = .idle →
     w.saved = .definition id x →
     (job = .define id d kind clamped false ∧ uses = (kind == .discarding) ∧ code = 0x20) ∨
       (job = .delete id uses true ∧ code = 0x21) →
     exec (.storeWriteDone agrees erased) s =
       .next
         (State.replied
            { s.setCircuit id { s.circuit id with changing := false } with
              processor := .free, commits := [], writing := none, permit := s.permit && !uses
              defSlots := tableWrite .erased s.defSlots id (if w.step = .restore then x else if erased then .erased else
                  .damaged) }
            tag code .storeFault .none)) ∧
  (∀ (s : State) (agrees erased : Bool) (w : Writing) (tag code : U8) (job : Job) (op : StoreOp) (id : Nat)
      (uses : Bool) (d : Definition)
     (kind : DefineKind) (clamped : Bool) (x : Slot Baseline),
     s.calm = true →
     s.processor = .committing tag job →
     s.commits = [⟨op, .processor⟩] →
     s.writing = some w →
     (agrees = true ∧ w.step = .restore) ∨ w.step = .eraseCheck →
     s.replies.length < 8 →
     s.campaign.state = .idle →
     w.saved = .baseline id x →
     (job = .define id d kind clamped true ∧ uses = (kind == .discarding) ∧ code = 0x20) ∨
       (job = .delete id uses false ∧ code = 0x21) ∨ (job = .clearBaseline id ∧ uses = true ∧ code = 0x22) →
     exec (.storeWriteDone agrees erased) s =
       .next
         (State.replied
            { s.setCircuit id { s.circuit id with changing := false } with
              processor := .free, commits := [], writing := none, permit := s.permit && !uses
              baseSlots := tableWrite .erased s.baseSlots id (if w.step = .restore then x else if erased then
                  .erased else .damaged) }
            tag code .storeFault .none))

/-- A capture's concluded commit finishes its entry WRITTEN or STORE_FAULT, settles the circuit, and hands on the next
baseline (7.6 The commit phase, 1.3 Circuit states, 3.1 The queue and its entries, 10.2 The commit queue, 7.7
Suspension and resumption, 7.9 The end of a campaign, 8.1 The protected region). The order in which dropped baselines
are concluded is log 28; whether cells are wholly erased is an operand, log 19. -/
def Obligations.CaptureCommitConcludes : Prop :=
  (∀ (s : State) (agrees erased ok : Bool) (w : Writing) (c : Nat) (b : Baseline) (x : Slot Baseline),
     let r := s.circuit c;
     let result : CaptureResult := if ok then .written b.level b.delay b.generation else .storeFault;
     let slot : Slot Baseline := if ok then .holding b else if w.step = .restore then x else if erased then .erased else
         .damaged;
     let entries := s.campaign.entries.map fun e => if e.circuit = c then { e with status := .finished result } else e;
     let host := s.campaign.host || s.campaign.deferredSuspend;
     s.calm = true →
     s.lanesBusy = true →
     s.commits = [⟨.writeBaseline c b, .capture c⟩] →
     s.writing = some w →
     w.saved = .baseline c x →
     (ok = true ∧ agrees = true ∧ (w.step = .write ∨ w.step = .rewrite)) ∨
       (ok = false ∧ ((agrees = true ∧ w.step = .restore) ∨ w.step = .eraseCheck)) →
     s.campaign.handOff = [] →
     s.campaign.state ≠ .idle →
     (∃ e ∈ s.campaign.entries, e.circuit ≠ c ∧ e.status.isFinished = false) →
     (∀ e ∈ s.campaign.entries, e.circuit = c → e.status.isCommitting = true) →
     ∃ t, exec (.storeWriteDone agrees erased) s = .next t ∧
       (t =
          { s with
            circuits := t.circuits
            commits := [], writing := none
            baseSlots := tableWrite .erased s.baseSlots c slot
            campaign :=
              { s.campaign with
                progressOwed := false, deferredSuspend := false, host := host, entries := entries
                state :=
                  if host || s.campaign.window then if ∃ e ∈ entries, e.status.inFlight = true then .suspending else
                      .suspended
                  else s.campaign.state }
            queue :=
              s.queue ++
                (if 0 < r.holds then []
                  else match r.releaseOwed with
                  | some .windowClose => [⟨c, .windowClose, none, false, false⟩]
                  | some .windowExpiry => [⟨c, .windowExpiry, none, true, false⟩]
                  | none => if r.disturbed then [⟨c, .sense, none, false, false⟩] else []) }) ∧
       (∀ k : Nat, t.circuit k =
          if k = c then
            { r with
              baseline := if ok then some b else r.baseline, releaseOwed := none, disturbed := false
              state :=
                if 0 < r.holds then .held else if r.releaseOwed.isSome ∨ r.disturbed = true then .pending else .idle }
          else s.circuit k)) ∧
  (∀ (s : State) (agrees erased ok : Bool) (w : Writing) (c : Nat) (b : Baseline) (x : Slot Baseline),
     let r := s.circuit c;
     let result : CaptureResult := if ok then .written b.level b.delay b.generation else .storeFault;
     let slot : Slot Baseline := if ok then .holding b else if w.step = .restore then x else if erased then .erased else
         .damaged;
     let entries := s.campaign.entries.map fun e => if e.circuit = c then { e with status := .finished result } else e;
     s.calm = true →
     s.lanesBusy = true →
     s.transmitter ≠ .idle →
     1 ≤ s.reserved.captureDone →
     s.commits = [⟨.writeBaseline c b, .capture c⟩] →
     s.writing = some w →
     w.saved = .baseline c x →
     (ok = true ∧ agrees = true ∧ (w.step = .write ∨ w.step = .rewrite)) ∨
       (ok = false ∧ ((agrees = true ∧ w.step = .restore) ∨ w.step = .eraseCheck)) →
     s.campaign.handOff = [] →
     s.campaign.state ≠ .idle →
     (∃ e ∈ s.campaign.entries, e.circuit = c) →
     (∀ e ∈ s.campaign.entries, if e.circuit = c then e.status.isCommitting = true else e.status.isFinished = true) →
     ∃ t, exec (.storeWriteDone agrees erased) s = .next t ∧
       (t =
          { s with
            circuits := t.circuits
            commits := [], writing := none
            baseSlots := tableWrite .erased s.baseSlots c slot
            campaign :=
              { s.campaign with
                state := .idle, host := false, window := false, progressOwed := false, deferredSuspend := false
                entries := entries }
            reserved := { s.reserved with captureDone := s.reserved.captureDone - 1 }
            notices := s.notices ++
              [.captureDone entries.length ({ s.campaign with entries := entries }
                  : Campaign).resultCounts s.campaign.cancelled
                s.clock]
            queue :=
              s.queue ++
                (if 0 < r.holds then []
                  else match r.releaseOwed with
                  | some .windowClose => [⟨c, .windowClose, none, false, false⟩]
                  | some .windowExpiry => [⟨c, .windowExpiry, none, true, false⟩]
                  | none => if r.disturbed then [⟨c, .sense, none, false, false⟩] else []) }) ∧
       (∀ k : Nat, t.circuit k =
          if k = c then
            { r with
              baseline := if ok then some b else r.baseline, releaseOwed := none, disturbed := false
              state :=
                if 0 < r.holds then .held else if r.releaseOwed.isSome ∨ r.disturbed = true then .pending else .idle }
          else s.circuit k)) ∧
  (∀ (s : State) (agrees erased ok : Bool) (w : Writing) (c : Nat) (b : Baseline) (x : Slot Baseline)
     (others tail : List Commit) (gone rest : List HandOff) (h : HandOff) (c₂ : Nat) (b₂ : Baseline),
     let result : CaptureResult := if ok then .written b.level b.delay b.generation else .storeFault;
     let slot : Slot Baseline := if ok then .holding b else if w.step = .restore then x else if erased then .erased else
         .damaged;
     let slots := tableWrite .erased s.baseSlots c slot;
     let entries := s.campaign.entries.map fun e =>
       if e.circuit = c then { e with status := .finished result }
       else if e.circuit ∈ gone.map (·.circuit) then { e with status := .finished .insideRegion }
       else e;
     let host := s.campaign.host || s.campaign.deferredSuspend;
     let owed (k : Nat) : List QueueEntry :=
       if 0 < (s.circuit k).holds then []
       else match (s.circuit k).releaseOwed with
       | some .windowClose => [⟨k, .windowClose, none, false, false⟩]
       | some .windowExpiry => [⟨k, .windowExpiry, none, true, false⟩]
       | none => if (s.circuit k).disturbed then [⟨k, .sense, none, false, false⟩] else [];
     s.calm = true →
     s.lanesBusy = true →
     s.commits = ⟨.writeBaseline c b, .capture c⟩ :: others →
     s.writing = some w →
     w.saved = .baseline c x →
     (ok = true ∧ agrees = true ∧ (w.step = .write ∨ w.step = .rewrite)) ∨
       (ok = false ∧ ((agrees = true ∧ w.step = .restore) ∨ w.step = .eraseCheck)) →
     s.campaign.handOff = gone ++ h :: rest →
     (∀ g ∈ gone, s.insideRegion g.circuit = true) →
     s.insideRegion h.circuit = false →
     (c :: gone.map (·.circuit)).Nodup →
     ((others.countP fun x => x.submitter != .processor) < 8 ∧
        (rest = [] ∨ (others.countP fun x => x.submitter != .processor) = 7)) →
     others ++ [⟨.writeBaseline h.circuit h.baseline, .capture h.circuit⟩] = ⟨.writeBaseline c₂ b₂,
         .capture c₂⟩ :: tail →
     s.campaign.state ≠ .idle →
     h.circuit ∉ c :: gone.map (·.circuit) →
     (∃ e ∈ s.campaign.entries, e.circuit = h.circuit ∧ e.status.isCommitting = true) →
     ∃ t, exec (.storeWriteDone agrees erased) s = .next t ∧
       (t =
          { s with
            circuits := t.circuits
            queue := s.queue ++ (c :: gone.map (·.circuit)).flatMap owed
            commits := ⟨.writeBaseline c₂ b₂, .capture c₂⟩ :: tail
            writing := some ⟨.write, .baseline c₂ (tableRead .erased slots c₂)⟩
            baseSlots := tableWrite .erased slots c₂ .damaged
            campaign :=
              { s.campaign with
                handOff := rest, progressOwed := false, deferredSuspend := false, host := host, entries := entries
                state := if host || s.campaign.window then .suspending else s.campaign.state } }) ∧
       (∀ k : Nat, t.circuit k =
          let r := s.circuit k
          if k ∈ c :: gone.map (·.circuit) then
            { r with
              baseline := if k = c ∧ ok = true then some b else r.baseline, releaseOwed := none, disturbed := false
              state :=
                if 0 < r.holds then .held else if r.releaseOwed.isSome ∨ r.disturbed = true then .pending else .idle }
          else r))

/-- The base level is 301/64 of the piecewise-linear base-2 logarithm of the mean count, rounded, never decreasing, in
0 to 4811 (R98). -/
def Obligations.BaseLevel : Prop :=
  (∀ m e : Nat, 2 ^ e ≤ m → m < 2 ^ (e + 1) → m ≤ 65535 →
     let f := if 6 ≤ e then (m - 2 ^ e) / 2 ^ (e - 6) else (m - 2 ^ e) * 2 ^ (6 - e)
     e ≤ 15 ∧ f ≤ 63 ∧ (64 * e + f) * 301 ≤ 307923 ∧ baseLevel m = ((64 * e + f) * 301 + 32) / 64 ∧
         baseLevel m ≤ 4811) ∧
  (∀ m n : Nat, 1 ≤ m → m ≤ n → n ≤ 65535 → baseLevel m ≤ baseLevel n) ∧
  (∀ m n e : Nat, 6 ≤ e → e ≤ 15 → 2 ^ e ≤ m → m < 2 ^ (e + 1) → 2 ^ e ≤ n → n < 2 ^ (e + 1) →
     m / 2 ^ (e - 6) = n / 2 ^ (e - 6) → baseLevel m = baseLevel n) ∧
  (∀ m n : Nat, 1 ≤ m → m < n → n ≤ 64 → baseLevel m < baseLevel n) ∧
  (∀ row ∈
       [(1, 0, 0, 0, 0), (2, 1, 0, 301, 301), (3, 1, 32, 452, 477), (24, 4, 32, 1355, 1380), (940, 9, 53, 2958, 2973),
         (1024, 10, 0, 3010, 3010), (1198, 10, 10, 3057, 3078), (65535, 15, 63, 4811, 4816)],
     let (m, e, f, l, v) := row
     m.log2 = e ∧ octaveFraction m = f ∧ baseLevel m = l ∧ 10 ^ (2 * v) ≤ 10 * m ^ 2000 ∧ m ^ 2000 < 10 ^ (2 * v + 1))

/-- A burst's mean, clipped mark, return test, code vote and raw delay, for every list of samples and every floor (5.2
Mean count, clip and return, 5.3 Code vote and delay, 5.1 The burst and its result). -/
def Obligations.BurstReduced : Prop :=
  (∀ (samples : List Sample) (h : Nat), 0 < h → samples.length = 2 * h →
     let n := samples.length
     let sum := (samples.map fun x => x.count.toNat).sum
     meanCount samples = (sum + n / 2) / n ∧ meanCount samples ≤ 65535 ∧
       2 * n * meanCount samples ≤ 2 * sum + n ∧ 2 * sum + n < 2 * n * (meanCount samples + 1)) ∧
  (∀ (floor : Nat) (samples : List Sample),
     (reduce floor samples).mean = meanCount samples ∧
       ((reduce floor samples).clipped = true ↔ ∃ x ∈ samples, x.count.toNat = 65535)) ∧
  (∀ (floor : Nat) (samples : List Sample) (h : Nat), 0 < h → samples.length = 2 * h → 1 ≤ floor →
     ((reduce floor samples).returned.isSome = true ↔ floor ≤ meanCount samples)) ∧
  (∀ (floor : Nat) (samples : List Sample) (r : Returned), (reduce floor samples).returned = some r →
     let votes (code : Nat) := samples.filter fun x => decide (floor ≤ x.count.toNat) && x.code.toNat == code
     let winners := votes r.code
     let sum := (winners.map fun x => x.delay.toNat).sum
     r.votes = winners.length ∧ 1 ≤ r.votes ∧ r.votes ≤ samples.length ∧
       (∀ code, (votes code).length < r.votes ∨ ((votes code).length = r.votes ∧ r.code ≤ code)) ∧
       r.rawDelay = (sum + r.votes / 2) / r.votes ∧ r.rawDelay ≤ 16777215 ∧
       r.baseLevel = baseLevel (meanCount samples)) ∧
  (∀ raw offset : Nat, pathDelay raw offset = raw - offset)

/-- The spread of a capture is its greatest level difference; level and delay are the means of the bursts, ties up
(5.7 Capture arithmetic). -/
def Obligations.CaptureArithmetic : Prop :=
  (∀ levels : List Int, levels ≠ [] →
     (∀ p ∈ levels, ∀ q ∈ levels, p - q ≤ spreadOf levels) ∧
     (∃ p ∈ levels, ∃ q ∈ levels, p - q = spreadOf levels) ∧
     ((∀ p ∈ levels, -600 ≤ p ∧ p ≤ 5411) → spreadOf levels ≤ 6011)) ∧
  (∀ levels : List Int, levels ≠ [] →
     2 * levels.length * meanLevel levels ≤ 2 * levels.sum + levels.length ∧
     2 * levels.sum + levels.length < 2 * levels.length * (meanLevel levels + 1) ∧
     ∀ low high, (∀ p ∈ levels, low ≤ p ∧ p ≤ high) → low ≤ meanLevel levels ∧ meanLevel levels ≤ high) ∧
  (∀ delays : List Nat, delays ≠ [] →
     2 * delays.length * meanDelay delays ≤ 2 * delays.sum + delays.length ∧
     2 * delays.sum + delays.length < 2 * delays.length * (meanDelay delays + 1) ∧
     ∀ low high, (∀ p ∈ delays, low ≤ p ∧ p ≤ high) → low ≤ meanDelay delays ∧ meanDelay delays ≤ high) ∧
  (∀ p : Int, spreadOf [p] = 0 ∧ meanLevel [p] = p) ∧
  (meanLevel [-1, -2] = -1)

/-- An attempt's class by the six tests in order, each tolerance from the override or else the profile, compared with
above (6.1 Classifying an attempt, 5.5 Deltas against the baseline, 5.4 Level). -/
def Obligations.AttemptClassified : Prop :=
  (∀ (p : Profile) (d : Definition) (base : Option Baseline) (b : HandedBurst), b.reduce.returned = none →
     classify p d base b =
       { cls := .noReturn, clipped := b.reduce.clipped, stale := b.stale, found := none, level := none, delay := none
         deltaLevel := none, deltaDelay := none }) ∧
  (∀ (p : Profile) (d : Definition) (base : Option Baseline) (b : HandedBurst) (r : Returned),
     b.reduce.returned = some r →
     let level : Int := r.baseLevel + b.trim
     let delay : Nat := r.rawDelay - b.offset
     classify p d base b =
       { cls :=
           if r.code ≠ d.code then .misrouted
           else
             match base with
             | none => .continuityOnly
             | some q =>
               if ((d.override.rise.getD p.rise : Nat) : Int) < q.level - level ∨
                   ((d.override.fall.getD p.fall : Nat) : Int) < level - q.level then .lossShift
               else if ((d.override.delay.getD p.delay : Nat) : Int) < |(delay : Int) - q.delay| then .pathChanged
               else .pass
         clipped := b.reduce.clipped
         stale := b.stale
         found := if r.code ≠ d.code then some r.code else none
         level := some level
         delay := some delay
         deltaLevel := base.map fun q => q.level - level
         deltaDelay := base.map fun q => (delay : Int) - q.delay })

/-- The verdict kind of a list of attempts: the passing last one, the class that all share, or UNSTABLE (R110). -/
def Obligations.AttemptsCombined : Prop :=
  (∀ (earlier : List AttemptClass) (last : AttemptClass),
     combine earlier last =
       if last = .pass then .pass
       else if last = .continuityOnly then .continuityOnly
       else if ∀ a ∈ earlier, a = last then last.kind
       else .unstable) ∧
  (∀ (earlier : List AttemptClass) (last : AttemptClass), last ≠ .pass → last ≠ .continuityOnly →
     (combine earlier last = .unstable ↔ ∃ a ∈ earlier ++ [last], ∃ b ∈ earlier ++ [last], a ≠ b)) ∧
  (∀ c : AttemptClass,
     c.kind =
         (match c with
           | .pass => .pass
           | .continuityOnly => .continuityOnly
           | .noReturn => .noReturn
           | .misrouted => .misrouted
           | .lossShift => .lossShift
           | .pathChanged => .pathChanged) ∧
       c.kind ≠ .unstable ∧ c.kind ≠ .unmeasurable) ∧
  (∀ (earlier : List AttemptClass) (last : AttemptClass), combine earlier last ≠ .unmeasurable) ∧
  (∀ (p : Profile) (d : Definition) (b : HandedBurst),
     (classify p d none b).cls ∈ [AttemptClass.noReturn, .misrouted, .continuityOnly]) ∧
  (∀ (earlier : List AttemptClass) (last : AttemptClass),
     (∀ a ∈ earlier ++ [last], a ∈ [AttemptClass.noReturn, .misrouted, .continuityOnly]) →
     combine earlier last ∈ [VerdictKind.noReturn, .misrouted, .continuityOnly, .unstable]) ∧
  (∀ c : AttemptClass, c.ends = false ↔ c ≠ .pass ∧ c ≠ .continuityOnly) ∧
  (combine [] .pass = .pass ∧ combine [.lossShift] .pass = .pass ∧
     combine [.noReturn, .noReturn] .noReturn = .noReturn ∧
     combine [.lossShift, .lossShift] .lossShift = .lossShift ∧ combine [.misrouted] .noReturn = .unstable ∧
     combine [.noReturn] .continuityOnly = .continuityOnly ∧ combine [] .pathChanged = .pathChanged ∧
     combine [.pathChanged, .lossShift, .pathChanged] .pathChanged = .unstable)

/-- Circuit c lies in block floor((c - 1) / 16); side, n and complement say which blocks lie inside; and the count of
slots inside (R141). -/
def Obligations.RegionBlocks : Prop :=
  (∀ (n c : Nat) (complement : Bool), n ≤ 32 → 1 ≤ c → c ≤ 512 →
     (({ side := .low, n := n, complement := complement } : Region).inside c = true ↔
       if complement then ¬(c - 1) / 16 < n else (c - 1) / 16 < n) ∧
     (({ side := .high, n := n, complement := complement } : Region).inside c = true ↔
       if complement then ¬32 - n ≤ (c - 1) / 16 else 32 - n ≤ (c - 1) / 16)) ∧
  (∀ (side : Side) (c : Nat), 1 ≤ c → c ≤ 512 →
     Region.inside ⟨side, 0, false⟩ c = false ∧ Region.inside ⟨side, 0, true⟩ c = true ∧
     Region.inside ⟨side, 32, false⟩ c = true ∧ Region.inside ⟨side, 32, true⟩ c = false ∧
     Region.inside ⟨.low, 3, false⟩ c = decide (c ≤ 48) ∧ Region.inside ⟨.low, 3, true⟩ c = decide (49 ≤ c) ∧
     Region.inside ⟨.high, 3, false⟩ c = decide (465 ≤ c) ∧ Region.inside ⟨.high, 3, true⟩ c = decide (c ≤ 464)) ∧
  (∀ r : Region, r.slotsInside = (List.range 512).countP fun k => r.inside (k + 1))

/-- A request frame sent byte by byte is received whole and judged the request it spells; another check or class is
discarded (11.2 Receiving frames, 12.1 The frame). -/
def Obligations.FrameRoundTrip : Prop :=
  (∀ (code tag : U8) (payload : List U8), payload.length ≤ 1018 →
     let n := payload.length + 3
     let covered : List U8 := [BitVec.ofNat 8 n, BitVec.ofNat 8 (n / 256), 0x01, code, tag] ++ payload
     let bytes := covered ++ [(crc16 covered).extractLsb' 0 8, (crc16 covered).extractLsb' 8 8]
     let receive (l : List U8) := l.foldl (fun a b => Receiver.take a.1 b) (Receiver.hunting, none)
     receive (0xA5 :: bytes) = (.hunting, some bytes) ∧
     (∀ k, k ≤ bytes.length → (receive ((0xA5 :: bytes).take k)).2 = none) ∧
     judgeFrame bytes = some ⟨tag, requestOf code payload⟩) ∧
  (∀ (class_ code tag low high : U8) (payload : List U8), payload.length ≤ 1018 →
     let n := payload.length + 3
     let covered : List U8 := [BitVec.ofNat 8 n, BitVec.ofNat 8 (n / 256), class_, code, tag] ++ payload
     class_ ≠ 0x01 ∨ low ≠ (crc16 covered).extractLsb' 0 8 ∨ high ≠ (crc16 covered).extractLsb' 8 8 →
     judgeFrame (covered ++ [low, high]) = none)

/-- Every step keeps the notice queue at most full, reserved, queued and sending entries together 32 at most, and each
reservation with its owner (11.6 The notice queue, 2.8 Closure records and their accounting, 7.9 The end of a
campaign, 3.2 The lane grant, 4.7 The profile). -/
def Obligations.NoticesFitKept : Prop :=
  (∀ s t : State, s.noticesFit = true →
     step s = .next t →
     t.noticesFit = true) ∧
  (∀ s t : State, s.Agreed →
     step s = .next t →
     t.reservationsOwned)

/-- Every step keeps each closure record balanced: released is the verdict counts plus re-held plus outstanding, with
some outstanding (2.8 Closure records and their accounting). -/
def Obligations.ClosuresBalancedKept : Prop :=
  ∀ s t : State, s.closuresBalanced = true →
    step s = .next t →
    t.closuresBalanced = true

/-- Every step keeps each lane's trim in -600..600, offset to 65,535, age to 65,535, errors to 2, and two errors on a
FAULTED one (4.1 The lane record, 4.4 Lane errors and burst stops, 4.5 Calibration). -/
def Obligations.LanesSoundKept : Prop :=
  ∀ s t : State, s.lanesSound = true →
    step s = .next t →
    t.lanesSound = true

/-- Every step keeps the lists within their capacities, the masked status equal to raw and enabled, and the tables
canonical (2.1 The window record and the window stack, 2.6 The window event list, 2.8 Closure records and their
accounting, 9.2 Latching and events, 11.3 The request queue, 11.5 Replies). -/
def Obligations.StructuresKept : Prop :=
  ∀ s t : State, s.listsFit = true → s.linesMasked = true → s.tablesCanonical = true →
    step s = .next t →
    t.listsFit = true ∧ t.linesMasked = true ∧ t.tablesCanonical = true

/-- Every step keeps the marker-code map and the span index exact: they hold exactly the defined circuits' codes and
spans (1.2 The marker-code map and the span index, 1.4 Defining a circuit, 1.5 Deleting a circuit and clearing its
baseline, 10.4 The start-up scan). -/
def Obligations.IndexesExactKept : Prop :=
  ∀ s t : State, s.codesExact → s.spansExact → s.spansAscending = true → s.jobChecked = true →
    step s = .next t →
    t.codesExact ∧ t.spansExact ∧ t.spansAscending = true ∧ t.jobChecked = true

/-- Only a concluded commit, the scan or a restart changes a definition, a baseline, the region or the stored level;
only a cold restart ends SESSION (1.4 Defining a circuit, 1.5 Deleting a circuit and clearing its baseline, 7.6 The
commit phase, 8.2 Lock levels, 8.3 Changing the region and the level). -/
def Obligations.TableFollowsTheStore : Prop :=
  (∀ (s t : State) (cmd : Instr), s.restartDue = false →
     (∀ erased, cmd ≠ .storeWriteDone true erased) → cmd ≠ .startUpScanDone → cmd ≠ .powerOn →
     (∀ erased, cmd ≠ .powerFail erased) → (∀ erased, cmd ≠ .resetAsserted erased) →
     exec cmd s = .next t →
     (∀ c, (t.circuit c).definition = (s.circuit c).definition ∧ (t.circuit c).baseline = (s.circuit c).baseline) ∧
       t.region = s.region ∧ t.storedLevel = s.storedLevel ∧ t.overlay = s.overlay) ∧
  (∀ (s t : State) (cmd : Instr), s.overlay = true → cmd ≠ .powerOn → (∀ erased, cmd ≠ .powerFail erased) →
     exec cmd s = .next t → t.overlay = true)

/-- Every step keeps the records of the blocks in agreement: holds with windows, PENDING with the queue, reservations
with their owners (1.1 The circuit record, 1.3 Circuit states, 2.1 The window record and the window stack, 3.1 The
queue and its entries, 3.2 The lane grant, 7.2 The campaign and its entries, 7.6 The commit phase, 11.6 The notice
queue). The log entries that this rests on: log 11. -/
def Obligations.RecordsAgreeKept : Prop :=
  ∀ s t : State, s.Agreed →
    step s = .next t →
    t.Agreed
end

