-- ==== Sys2Proof/Laws/State.lean ====
section
/-! SUPPORT. What each named update of State leaves unchanged: one lemma for each other field, true by unfolding. -/

namespace Sys2Proof.Machine

/-! ## setCircuit -/

@[simp] theorem State.setCircuit_pending (s : State) (c : Nat) (r : Circuit) : (s.setCircuit c r).pending = s.pending := rfl
@[simp] theorem State.setCircuit_phase (s : State) (c : Nat) (r : Circuit) : (s.setCircuit c r).phase = s.phase := rfl
@[simp] theorem State.setCircuit_resetLine (s : State) (c : Nat) (r : Circuit) : (s.setCircuit c r).resetLine = s.resetLine := rfl
@[simp] theorem State.setCircuit_restartCause (s : State) (c : Nat) (r : Circuit) : (s.setCircuit c r).restartCause = s.restartCause := rfl
@[simp] theorem State.setCircuit_restartTaken (s : State) (c : Nat) (r : Circuit) : (s.setCircuit c r).restartTaken = s.restartTaken := rfl
@[simp] theorem State.setCircuit_restartReplySent (s : State) (c : Nat) (r : Circuit) : (s.setCircuit c r).restartReplySent = s.restartReplySent := rfl
@[simp] theorem State.setCircuit_refLock (s : State) (c : Nat) (r : Circuit) : (s.setCircuit c r).refLock = s.refLock := rfl
@[simp] theorem State.setCircuit_rateStrap (s : State) (c : Nat) (r : Circuit) : (s.setCircuit c r).rateStrap = s.rateStrap := rfl
@[simp] theorem State.setCircuit_bitRate (s : State) (c : Nat) (r : Circuit) : (s.setCircuit c r).bitRate = s.bitRate := rfl
@[simp] theorem State.setCircuit_clock (s : State) (c : Nat) (r : Circuit) : (s.setCircuit c r).clock = s.clock := rfl
@[simp] theorem State.setCircuit_receiver (s : State) (c : Nat) (r : Circuit) : (s.setCircuit c r).receiver = s.receiver := rfl
@[simp] theorem State.setCircuit_completeFrame (s : State) (c : Nat) (r : Circuit) : (s.setCircuit c r).completeFrame = s.completeFrame := rfl
@[simp] theorem State.setCircuit_requestQueue (s : State) (c : Nat) (r : Circuit) : (s.setCircuit c r).requestQueue = s.requestQueue := rfl
@[simp] theorem State.setCircuit_processor (s : State) (c : Nat) (r : Circuit) : (s.setCircuit c r).processor = s.processor := rfl
@[simp] theorem State.setCircuit_replies (s : State) (c : Nat) (r : Circuit) : (s.setCircuit c r).replies = s.replies := rfl
@[simp] theorem State.setCircuit_transmitter (s : State) (c : Nat) (r : Circuit) : (s.setCircuit c r).transmitter = s.transmitter := rfl
@[simp] theorem State.setCircuit_notices (s : State) (c : Nat) (r : Circuit) : (s.setCircuit c r).notices = s.notices := rfl
@[simp] theorem State.setCircuit_reserved (s : State) (c : Nat) (r : Circuit) : (s.setCircuit c r).reserved = s.reserved := rfl
@[simp] theorem State.setCircuit_discarded (s : State) (c : Nat) (r : Circuit) : (s.setCircuit c r).discarded = s.discarded := rfl
@[simp] theorem State.setCircuit_codeMap (s : State) (c : Nat) (r : Circuit) : (s.setCircuit c r).codeMap = s.codeMap := rfl
@[simp] theorem State.setCircuit_spanIndex (s : State) (c : Nat) (r : Circuit) : (s.setCircuit c r).spanIndex = s.spanIndex := rfl
@[simp] theorem State.setCircuit_stack (s : State) (c : Nat) (r : Circuit) : (s.setCircuit c r).stack = s.stack := rfl
@[simp] theorem State.setCircuit_closures (s : State) (c : Nat) (r : Circuit) : (s.setCircuit c r).closures = s.closures := rfl
@[simp] theorem State.setCircuit_queue (s : State) (c : Nat) (r : Circuit) : (s.setCircuit c r).queue = s.queue := rfl
@[simp] theorem State.setCircuit_looks (s : State) (c : Nat) (r : Circuit) : (s.setCircuit c r).looks = s.looks := rfl
@[simp] theorem State.setCircuit_lanes (s : State) (c : Nat) (r : Circuit) : (s.setCircuit c r).lanes = s.lanes := rfl
@[simp] theorem State.setCircuit_profile (s : State) (c : Nat) (r : Circuit) : (s.setCircuit c r).profile = s.profile := rfl
@[simp] theorem State.setCircuit_pendingProfile (s : State) (c : Nat) (r : Circuit) : (s.setCircuit c r).pendingProfile = s.pendingProfile := rfl
@[simp] theorem State.setCircuit_campaign (s : State) (c : Nat) (r : Circuit) : (s.setCircuit c r).campaign = s.campaign := rfl
@[simp] theorem State.setCircuit_permit (s : State) (c : Nat) (r : Circuit) : (s.setCircuit c r).permit = s.permit := rfl
@[simp] theorem State.setCircuit_region (s : State) (c : Nat) (r : Circuit) : (s.setCircuit c r).region = s.region := rfl
@[simp] theorem State.setCircuit_storedLevel (s : State) (c : Nat) (r : Circuit) : (s.setCircuit c r).storedLevel = s.storedLevel := rfl
@[simp] theorem State.setCircuit_overlay (s : State) (c : Nat) (r : Circuit) : (s.setCircuit c r).overlay = s.overlay := rfl
@[simp] theorem State.setCircuit_regionBeingWritten (s : State) (c : Nat) (r : Circuit) : (s.setCircuit c r).regionBeingWritten = s.regionBeingWritten := rfl
@[simp] theorem State.setCircuit_senseLines (s : State) (c : Nat) (r : Circuit) : (s.setCircuit c r).senseLines = s.senseLines := rfl
@[simp] theorem State.setCircuit_defSlots (s : State) (c : Nat) (r : Circuit) : (s.setCircuit c r).defSlots = s.defSlots := rfl
@[simp] theorem State.setCircuit_baseSlots (s : State) (c : Nat) (r : Circuit) : (s.setCircuit c r).baseSlots = s.baseSlots := rfl
@[simp] theorem State.setCircuit_protSlot (s : State) (c : Nat) (r : Circuit) : (s.setCircuit c r).protSlot = s.protSlot := rfl
@[simp] theorem State.setCircuit_commits (s : State) (c : Nat) (r : Circuit) : (s.setCircuit c r).commits = s.commits := rfl
@[simp] theorem State.setCircuit_writing (s : State) (c : Nat) (r : Circuit) : (s.setCircuit c r).writing = s.writing := rfl
@[simp] theorem State.setCircuit_freeCount (s : State) (c : Nat) (r : Circuit) : (s.setCircuit c r).freeCount = s.freeCount := rfl

/-! ## setLane -/

@[simp] theorem State.setLane_pending (s : State) (l : LaneId) (r : Lane) : (s.setLane l r).pending = s.pending := rfl
@[simp] theorem State.setLane_phase (s : State) (l : LaneId) (r : Lane) : (s.setLane l r).phase = s.phase := rfl
@[simp] theorem State.setLane_resetLine (s : State) (l : LaneId) (r : Lane) : (s.setLane l r).resetLine = s.resetLine := rfl
@[simp] theorem State.setLane_restartCause (s : State) (l : LaneId) (r : Lane) : (s.setLane l r).restartCause = s.restartCause := rfl
@[simp] theorem State.setLane_restartTaken (s : State) (l : LaneId) (r : Lane) : (s.setLane l r).restartTaken = s.restartTaken := rfl
@[simp] theorem State.setLane_restartReplySent (s : State) (l : LaneId) (r : Lane) : (s.setLane l r).restartReplySent = s.restartReplySent := rfl
@[simp] theorem State.setLane_refLock (s : State) (l : LaneId) (r : Lane) : (s.setLane l r).refLock = s.refLock := rfl
@[simp] theorem State.setLane_rateStrap (s : State) (l : LaneId) (r : Lane) : (s.setLane l r).rateStrap = s.rateStrap := rfl
@[simp] theorem State.setLane_bitRate (s : State) (l : LaneId) (r : Lane) : (s.setLane l r).bitRate = s.bitRate := rfl
@[simp] theorem State.setLane_clock (s : State) (l : LaneId) (r : Lane) : (s.setLane l r).clock = s.clock := rfl
@[simp] theorem State.setLane_receiver (s : State) (l : LaneId) (r : Lane) : (s.setLane l r).receiver = s.receiver := rfl
@[simp] theorem State.setLane_completeFrame (s : State) (l : LaneId) (r : Lane) : (s.setLane l r).completeFrame = s.completeFrame := rfl
@[simp] theorem State.setLane_requestQueue (s : State) (l : LaneId) (r : Lane) : (s.setLane l r).requestQueue = s.requestQueue := rfl
@[simp] theorem State.setLane_processor (s : State) (l : LaneId) (r : Lane) : (s.setLane l r).processor = s.processor := rfl
@[simp] theorem State.setLane_replies (s : State) (l : LaneId) (r : Lane) : (s.setLane l r).replies = s.replies := rfl
@[simp] theorem State.setLane_transmitter (s : State) (l : LaneId) (r : Lane) : (s.setLane l r).transmitter = s.transmitter := rfl
@[simp] theorem State.setLane_notices (s : State) (l : LaneId) (r : Lane) : (s.setLane l r).notices = s.notices := rfl
@[simp] theorem State.setLane_reserved (s : State) (l : LaneId) (r : Lane) : (s.setLane l r).reserved = s.reserved := rfl
@[simp] theorem State.setLane_discarded (s : State) (l : LaneId) (r : Lane) : (s.setLane l r).discarded = s.discarded := rfl
@[simp] theorem State.setLane_circuits (s : State) (l : LaneId) (r : Lane) : (s.setLane l r).circuits = s.circuits := rfl
@[simp] theorem State.setLane_codeMap (s : State) (l : LaneId) (r : Lane) : (s.setLane l r).codeMap = s.codeMap := rfl
@[simp] theorem State.setLane_spanIndex (s : State) (l : LaneId) (r : Lane) : (s.setLane l r).spanIndex = s.spanIndex := rfl
@[simp] theorem State.setLane_stack (s : State) (l : LaneId) (r : Lane) : (s.setLane l r).stack = s.stack := rfl
@[simp] theorem State.setLane_closures (s : State) (l : LaneId) (r : Lane) : (s.setLane l r).closures = s.closures := rfl
@[simp] theorem State.setLane_queue (s : State) (l : LaneId) (r : Lane) : (s.setLane l r).queue = s.queue := rfl
@[simp] theorem State.setLane_looks (s : State) (l : LaneId) (r : Lane) : (s.setLane l r).looks = s.looks := rfl
@[simp] theorem State.setLane_profile (s : State) (l : LaneId) (r : Lane) : (s.setLane l r).profile = s.profile := rfl
@[simp] theorem State.setLane_pendingProfile (s : State) (l : LaneId) (r : Lane) : (s.setLane l r).pendingProfile = s.pendingProfile := rfl
@[simp] theorem State.setLane_campaign (s : State) (l : LaneId) (r : Lane) : (s.setLane l r).campaign = s.campaign := rfl
@[simp] theorem State.setLane_permit (s : State) (l : LaneId) (r : Lane) : (s.setLane l r).permit = s.permit := rfl
@[simp] theorem State.setLane_region (s : State) (l : LaneId) (r : Lane) : (s.setLane l r).region = s.region := rfl
@[simp] theorem State.setLane_storedLevel (s : State) (l : LaneId) (r : Lane) : (s.setLane l r).storedLevel = s.storedLevel := rfl
@[simp] theorem State.setLane_overlay (s : State) (l : LaneId) (r : Lane) : (s.setLane l r).overlay = s.overlay := rfl
@[simp] theorem State.setLane_regionBeingWritten (s : State) (l : LaneId) (r : Lane) : (s.setLane l r).regionBeingWritten = s.regionBeingWritten := rfl
@[simp] theorem State.setLane_senseLines (s : State) (l : LaneId) (r : Lane) : (s.setLane l r).senseLines = s.senseLines := rfl
@[simp] theorem State.setLane_defSlots (s : State) (l : LaneId) (r : Lane) : (s.setLane l r).defSlots = s.defSlots := rfl
@[simp] theorem State.setLane_baseSlots (s : State) (l : LaneId) (r : Lane) : (s.setLane l r).baseSlots = s.baseSlots := rfl
@[simp] theorem State.setLane_protSlot (s : State) (l : LaneId) (r : Lane) : (s.setLane l r).protSlot = s.protSlot := rfl
@[simp] theorem State.setLane_commits (s : State) (l : LaneId) (r : Lane) : (s.setLane l r).commits = s.commits := rfl
@[simp] theorem State.setLane_writing (s : State) (l : LaneId) (r : Lane) : (s.setLane l r).writing = s.writing := rfl
@[simp] theorem State.setLane_freeCount (s : State) (l : LaneId) (r : Lane) : (s.setLane l r).freeCount = s.freeCount := rfl

/-! ## setLine -/

@[simp] theorem State.setLine_pending (s : State) (l : LineId) (r : SenseLine) : (s.setLine l r).pending = s.pending := rfl
@[simp] theorem State.setLine_phase (s : State) (l : LineId) (r : SenseLine) : (s.setLine l r).phase = s.phase := rfl
@[simp] theorem State.setLine_resetLine (s : State) (l : LineId) (r : SenseLine) : (s.setLine l r).resetLine = s.resetLine := rfl
@[simp] theorem State.setLine_restartCause (s : State) (l : LineId) (r : SenseLine) : (s.setLine l r).restartCause = s.restartCause := rfl
@[simp] theorem State.setLine_restartTaken (s : State) (l : LineId) (r : SenseLine) : (s.setLine l r).restartTaken = s.restartTaken := rfl
@[simp] theorem State.setLine_restartReplySent (s : State) (l : LineId) (r : SenseLine) : (s.setLine l r).restartReplySent = s.restartReplySent := rfl
@[simp] theorem State.setLine_refLock (s : State) (l : LineId) (r : SenseLine) : (s.setLine l r).refLock = s.refLock := rfl
@[simp] theorem State.setLine_rateStrap (s : State) (l : LineId) (r : SenseLine) : (s.setLine l r).rateStrap = s.rateStrap := rfl
@[simp] theorem State.setLine_bitRate (s : State) (l : LineId) (r : SenseLine) : (s.setLine l r).bitRate = s.bitRate := rfl
@[simp] theorem State.setLine_clock (s : State) (l : LineId) (r : SenseLine) : (s.setLine l r).clock = s.clock := rfl
@[simp] theorem State.setLine_receiver (s : State) (l : LineId) (r : SenseLine) : (s.setLine l r).receiver = s.receiver := rfl
@[simp] theorem State.setLine_completeFrame (s : State) (l : LineId) (r : SenseLine) : (s.setLine l r).completeFrame = s.completeFrame := rfl
@[simp] theorem State.setLine_requestQueue (s : State) (l : LineId) (r : SenseLine) : (s.setLine l r).requestQueue = s.requestQueue := rfl
@[simp] theorem State.setLine_processor (s : State) (l : LineId) (r : SenseLine) : (s.setLine l r).processor = s.processor := rfl
@[simp] theorem State.setLine_replies (s : State) (l : LineId) (r : SenseLine) : (s.setLine l r).replies = s.replies := rfl
@[simp] theorem State.setLine_transmitter (s : State) (l : LineId) (r : SenseLine) : (s.setLine l r).transmitter = s.transmitter := rfl
@[simp] theorem State.setLine_notices (s : State) (l : LineId) (r : SenseLine) : (s.setLine l r).notices = s.notices := rfl
@[simp] theorem State.setLine_reserved (s : State) (l : LineId) (r : SenseLine) : (s.setLine l r).reserved = s.reserved := rfl
@[simp] theorem State.setLine_discarded (s : State) (l : LineId) (r : SenseLine) : (s.setLine l r).discarded = s.discarded := rfl
@[simp] theorem State.setLine_circuits (s : State) (l : LineId) (r : SenseLine) : (s.setLine l r).circuits = s.circuits := rfl
@[simp] theorem State.setLine_codeMap (s : State) (l : LineId) (r : SenseLine) : (s.setLine l r).codeMap = s.codeMap := rfl
@[simp] theorem State.setLine_spanIndex (s : State) (l : LineId) (r : SenseLine) : (s.setLine l r).spanIndex = s.spanIndex := rfl
@[simp] theorem State.setLine_stack (s : State) (l : LineId) (r : SenseLine) : (s.setLine l r).stack = s.stack := rfl
@[simp] theorem State.setLine_closures (s : State) (l : LineId) (r : SenseLine) : (s.setLine l r).closures = s.closures := rfl
@[simp] theorem State.setLine_queue (s : State) (l : LineId) (r : SenseLine) : (s.setLine l r).queue = s.queue := rfl
@[simp] theorem State.setLine_looks (s : State) (l : LineId) (r : SenseLine) : (s.setLine l r).looks = s.looks := rfl
@[simp] theorem State.setLine_lanes (s : State) (l : LineId) (r : SenseLine) : (s.setLine l r).lanes = s.lanes := rfl
@[simp] theorem State.setLine_profile (s : State) (l : LineId) (r : SenseLine) : (s.setLine l r).profile = s.profile := rfl
@[simp] theorem State.setLine_pendingProfile (s : State) (l : LineId) (r : SenseLine) : (s.setLine l r).pendingProfile = s.pendingProfile := rfl
@[simp] theorem State.setLine_campaign (s : State) (l : LineId) (r : SenseLine) : (s.setLine l r).campaign = s.campaign := rfl
@[simp] theorem State.setLine_permit (s : State) (l : LineId) (r : SenseLine) : (s.setLine l r).permit = s.permit := rfl
@[simp] theorem State.setLine_region (s : State) (l : LineId) (r : SenseLine) : (s.setLine l r).region = s.region := rfl
@[simp] theorem State.setLine_storedLevel (s : State) (l : LineId) (r : SenseLine) : (s.setLine l r).storedLevel = s.storedLevel := rfl
@[simp] theorem State.setLine_overlay (s : State) (l : LineId) (r : SenseLine) : (s.setLine l r).overlay = s.overlay := rfl
@[simp] theorem State.setLine_regionBeingWritten (s : State) (l : LineId) (r : SenseLine) : (s.setLine l r).regionBeingWritten = s.regionBeingWritten := rfl
@[simp] theorem State.setLine_defSlots (s : State) (l : LineId) (r : SenseLine) : (s.setLine l r).defSlots = s.defSlots := rfl
@[simp] theorem State.setLine_baseSlots (s : State) (l : LineId) (r : SenseLine) : (s.setLine l r).baseSlots = s.baseSlots := rfl
@[simp] theorem State.setLine_protSlot (s : State) (l : LineId) (r : SenseLine) : (s.setLine l r).protSlot = s.protSlot := rfl
@[simp] theorem State.setLine_commits (s : State) (l : LineId) (r : SenseLine) : (s.setLine l r).commits = s.commits := rfl
@[simp] theorem State.setLine_writing (s : State) (l : LineId) (r : SenseLine) : (s.setLine l r).writing = s.writing := rfl
@[simp] theorem State.setLine_freeCount (s : State) (l : LineId) (r : SenseLine) : (s.setLine l r).freeCount = s.freeCount := rfl

/-! ## reserve -/

@[simp] theorem State.reserve_pending (s : State) (k : ReservedKind) : (s.reserve k).pending = s.pending := rfl
@[simp] theorem State.reserve_phase (s : State) (k : ReservedKind) : (s.reserve k).phase = s.phase := rfl
@[simp] theorem State.reserve_resetLine (s : State) (k : ReservedKind) : (s.reserve k).resetLine = s.resetLine := rfl
@[simp] theorem State.reserve_restartCause (s : State) (k : ReservedKind) : (s.reserve k).restartCause = s.restartCause := rfl
@[simp] theorem State.reserve_restartTaken (s : State) (k : ReservedKind) : (s.reserve k).restartTaken = s.restartTaken := rfl
@[simp] theorem State.reserve_restartReplySent (s : State) (k : ReservedKind) : (s.reserve k).restartReplySent = s.restartReplySent := rfl
@[simp] theorem State.reserve_refLock (s : State) (k : ReservedKind) : (s.reserve k).refLock = s.refLock := rfl
@[simp] theorem State.reserve_rateStrap (s : State) (k : ReservedKind) : (s.reserve k).rateStrap = s.rateStrap := rfl
@[simp] theorem State.reserve_bitRate (s : State) (k : ReservedKind) : (s.reserve k).bitRate = s.bitRate := rfl
@[simp] theorem State.reserve_clock (s : State) (k : ReservedKind) : (s.reserve k).clock = s.clock := rfl
@[simp] theorem State.reserve_receiver (s : State) (k : ReservedKind) : (s.reserve k).receiver = s.receiver := rfl
@[simp] theorem State.reserve_completeFrame (s : State) (k : ReservedKind) : (s.reserve k).completeFrame = s.completeFrame := rfl
@[simp] theorem State.reserve_requestQueue (s : State) (k : ReservedKind) : (s.reserve k).requestQueue = s.requestQueue := rfl
@[simp] theorem State.reserve_processor (s : State) (k : ReservedKind) : (s.reserve k).processor = s.processor := rfl
@[simp] theorem State.reserve_replies (s : State) (k : ReservedKind) : (s.reserve k).replies = s.replies := rfl
@[simp] theorem State.reserve_transmitter (s : State) (k : ReservedKind) : (s.reserve k).transmitter = s.transmitter := rfl
@[simp] theorem State.reserve_notices (s : State) (k : ReservedKind) : (s.reserve k).notices = s.notices := rfl
@[simp] theorem State.reserve_discarded (s : State) (k : ReservedKind) : (s.reserve k).discarded = s.discarded := rfl
@[simp] theorem State.reserve_circuits (s : State) (k : ReservedKind) : (s.reserve k).circuits = s.circuits := rfl
@[simp] theorem State.reserve_codeMap (s : State) (k : ReservedKind) : (s.reserve k).codeMap = s.codeMap := rfl
@[simp] theorem State.reserve_spanIndex (s : State) (k : ReservedKind) : (s.reserve k).spanIndex = s.spanIndex := rfl
@[simp] theorem State.reserve_stack (s : State) (k : ReservedKind) : (s.reserve k).stack = s.stack := rfl
@[simp] theorem State.reserve_closures (s : State) (k : ReservedKind) : (s.reserve k).closures = s.closures := rfl
@[simp] theorem State.reserve_queue (s : State) (k : ReservedKind) : (s.reserve k).queue = s.queue := rfl
@[simp] theorem State.reserve_looks (s : State) (k : ReservedKind) : (s.reserve k).looks = s.looks := rfl
@[simp] theorem State.reserve_lanes (s : State) (k : ReservedKind) : (s.reserve k).lanes = s.lanes := rfl
@[simp] theorem State.reserve_profile (s : State) (k : ReservedKind) : (s.reserve k).profile = s.profile := rfl
@[simp] theorem State.reserve_pendingProfile (s : State) (k : ReservedKind) : (s.reserve k).pendingProfile = s.pendingProfile := rfl
@[simp] theorem State.reserve_campaign (s : State) (k : ReservedKind) : (s.reserve k).campaign = s.campaign := rfl
@[simp] theorem State.reserve_permit (s : State) (k : ReservedKind) : (s.reserve k).permit = s.permit := rfl
@[simp] theorem State.reserve_region (s : State) (k : ReservedKind) : (s.reserve k).region = s.region := rfl
@[simp] theorem State.reserve_storedLevel (s : State) (k : ReservedKind) : (s.reserve k).storedLevel = s.storedLevel := rfl
@[simp] theorem State.reserve_overlay (s : State) (k : ReservedKind) : (s.reserve k).overlay = s.overlay := rfl
@[simp] theorem State.reserve_regionBeingWritten (s : State) (k : ReservedKind) : (s.reserve k).regionBeingWritten = s.regionBeingWritten := rfl
@[simp] theorem State.reserve_senseLines (s : State) (k : ReservedKind) : (s.reserve k).senseLines = s.senseLines := rfl
@[simp] theorem State.reserve_defSlots (s : State) (k : ReservedKind) : (s.reserve k).defSlots = s.defSlots := rfl
@[simp] theorem State.reserve_baseSlots (s : State) (k : ReservedKind) : (s.reserve k).baseSlots = s.baseSlots := rfl
@[simp] theorem State.reserve_protSlot (s : State) (k : ReservedKind) : (s.reserve k).protSlot = s.protSlot := rfl
@[simp] theorem State.reserve_commits (s : State) (k : ReservedKind) : (s.reserve k).commits = s.commits := rfl
@[simp] theorem State.reserve_writing (s : State) (k : ReservedKind) : (s.reserve k).writing = s.writing := rfl
@[simp] theorem State.reserve_freeCount (s : State) (k : ReservedKind) : (s.reserve k).freeCount = s.freeCount := rfl

/-! ## dropEntry -/

@[simp] theorem State.dropEntry_pending (s : State) (c : Nat) : (s.dropEntry c).pending = s.pending := rfl
@[simp] theorem State.dropEntry_phase (s : State) (c : Nat) : (s.dropEntry c).phase = s.phase := rfl
@[simp] theorem State.dropEntry_resetLine (s : State) (c : Nat) : (s.dropEntry c).resetLine = s.resetLine := rfl
@[simp] theorem State.dropEntry_restartCause (s : State) (c : Nat) : (s.dropEntry c).restartCause = s.restartCause := rfl
@[simp] theorem State.dropEntry_restartTaken (s : State) (c : Nat) : (s.dropEntry c).restartTaken = s.restartTaken := rfl
@[simp] theorem State.dropEntry_restartReplySent (s : State) (c : Nat) : (s.dropEntry c).restartReplySent = s.restartReplySent := rfl
@[simp] theorem State.dropEntry_refLock (s : State) (c : Nat) : (s.dropEntry c).refLock = s.refLock := rfl
@[simp] theorem State.dropEntry_rateStrap (s : State) (c : Nat) : (s.dropEntry c).rateStrap = s.rateStrap := rfl
@[simp] theorem State.dropEntry_bitRate (s : State) (c : Nat) : (s.dropEntry c).bitRate = s.bitRate := rfl
@[simp] theorem State.dropEntry_clock (s : State) (c : Nat) : (s.dropEntry c).clock = s.clock := rfl
@[simp] theorem State.dropEntry_receiver (s : State) (c : Nat) : (s.dropEntry c).receiver = s.receiver := rfl
@[simp] theorem State.dropEntry_completeFrame (s : State) (c : Nat) : (s.dropEntry c).completeFrame = s.completeFrame := rfl
@[simp] theorem State.dropEntry_requestQueue (s : State) (c : Nat) : (s.dropEntry c).requestQueue = s.requestQueue := rfl
@[simp] theorem State.dropEntry_processor (s : State) (c : Nat) : (s.dropEntry c).processor = s.processor := rfl
@[simp] theorem State.dropEntry_replies (s : State) (c : Nat) : (s.dropEntry c).replies = s.replies := rfl
@[simp] theorem State.dropEntry_transmitter (s : State) (c : Nat) : (s.dropEntry c).transmitter = s.transmitter := rfl
@[simp] theorem State.dropEntry_notices (s : State) (c : Nat) : (s.dropEntry c).notices = s.notices := rfl
@[simp] theorem State.dropEntry_reserved (s : State) (c : Nat) : (s.dropEntry c).reserved = s.reserved := rfl
@[simp] theorem State.dropEntry_discarded (s : State) (c : Nat) : (s.dropEntry c).discarded = s.discarded := rfl
@[simp] theorem State.dropEntry_circuits (s : State) (c : Nat) : (s.dropEntry c).circuits = s.circuits := rfl
@[simp] theorem State.dropEntry_codeMap (s : State) (c : Nat) : (s.dropEntry c).codeMap = s.codeMap := rfl
@[simp] theorem State.dropEntry_spanIndex (s : State) (c : Nat) : (s.dropEntry c).spanIndex = s.spanIndex := rfl
@[simp] theorem State.dropEntry_stack (s : State) (c : Nat) : (s.dropEntry c).stack = s.stack := rfl
@[simp] theorem State.dropEntry_closures (s : State) (c : Nat) : (s.dropEntry c).closures = s.closures := rfl
@[simp] theorem State.dropEntry_looks (s : State) (c : Nat) : (s.dropEntry c).looks = s.looks := rfl
@[simp] theorem State.dropEntry_lanes (s : State) (c : Nat) : (s.dropEntry c).lanes = s.lanes := rfl
@[simp] theorem State.dropEntry_profile (s : State) (c : Nat) : (s.dropEntry c).profile = s.profile := rfl
@[simp] theorem State.dropEntry_pendingProfile (s : State) (c : Nat) : (s.dropEntry c).pendingProfile = s.pendingProfile := rfl
@[simp] theorem State.dropEntry_campaign (s : State) (c : Nat) : (s.dropEntry c).campaign = s.campaign := rfl
@[simp] theorem State.dropEntry_permit (s : State) (c : Nat) : (s.dropEntry c).permit = s.permit := rfl
@[simp] theorem State.dropEntry_region (s : State) (c : Nat) : (s.dropEntry c).region = s.region := rfl
@[simp] theorem State.dropEntry_storedLevel (s : State) (c : Nat) : (s.dropEntry c).storedLevel = s.storedLevel := rfl
@[simp] theorem State.dropEntry_overlay (s : State) (c : Nat) : (s.dropEntry c).overlay = s.overlay := rfl
@[simp] theorem State.dropEntry_regionBeingWritten (s : State) (c : Nat) : (s.dropEntry c).regionBeingWritten = s.regionBeingWritten := rfl
@[simp] theorem State.dropEntry_senseLines (s : State) (c : Nat) : (s.dropEntry c).senseLines = s.senseLines := rfl
@[simp] theorem State.dropEntry_defSlots (s : State) (c : Nat) : (s.dropEntry c).defSlots = s.defSlots := rfl
@[simp] theorem State.dropEntry_baseSlots (s : State) (c : Nat) : (s.dropEntry c).baseSlots = s.baseSlots := rfl
@[simp] theorem State.dropEntry_protSlot (s : State) (c : Nat) : (s.dropEntry c).protSlot = s.protSlot := rfl
@[simp] theorem State.dropEntry_commits (s : State) (c : Nat) : (s.dropEntry c).commits = s.commits := rfl
@[simp] theorem State.dropEntry_writing (s : State) (c : Nat) : (s.dropEntry c).writing = s.writing := rfl
@[simp] theorem State.dropEntry_freeCount (s : State) (c : Nat) : (s.dropEntry c).freeCount = s.freeCount := rfl

/-! ## setEntry -/

@[simp] theorem State.setEntry_pending (s : State) (c : Nat) (e : EntryStatus) : (s.setEntry c e).pending = s.pending := rfl
@[simp] theorem State.setEntry_phase (s : State) (c : Nat) (e : EntryStatus) : (s.setEntry c e).phase = s.phase := rfl
@[simp] theorem State.setEntry_resetLine (s : State) (c : Nat) (e : EntryStatus) : (s.setEntry c e).resetLine = s.resetLine := rfl
@[simp] theorem State.setEntry_restartCause (s : State) (c : Nat) (e : EntryStatus) : (s.setEntry c e).restartCause = s.restartCause := rfl
@[simp] theorem State.setEntry_restartTaken (s : State) (c : Nat) (e : EntryStatus) : (s.setEntry c e).restartTaken = s.restartTaken := rfl
@[simp] theorem State.setEntry_restartReplySent (s : State) (c : Nat) (e : EntryStatus) : (s.setEntry c e).restartReplySent = s.restartReplySent := rfl
@[simp] theorem State.setEntry_refLock (s : State) (c : Nat) (e : EntryStatus) : (s.setEntry c e).refLock = s.refLock := rfl
@[simp] theorem State.setEntry_rateStrap (s : State) (c : Nat) (e : EntryStatus) : (s.setEntry c e).rateStrap = s.rateStrap := rfl
@[simp] theorem State.setEntry_bitRate (s : State) (c : Nat) (e : EntryStatus) : (s.setEntry c e).bitRate = s.bitRate := rfl
@[simp] theorem State.setEntry_clock (s : State) (c : Nat) (e : EntryStatus) : (s.setEntry c e).clock = s.clock := rfl
@[simp] theorem State.setEntry_receiver (s : State) (c : Nat) (e : EntryStatus) : (s.setEntry c e).receiver = s.receiver := rfl
@[simp] theorem State.setEntry_completeFrame (s : State) (c : Nat) (e : EntryStatus) : (s.setEntry c e).completeFrame = s.completeFrame := rfl
@[simp] theorem State.setEntry_requestQueue (s : State) (c : Nat) (e : EntryStatus) : (s.setEntry c e).requestQueue = s.requestQueue := rfl
@[simp] theorem State.setEntry_processor (s : State) (c : Nat) (e : EntryStatus) : (s.setEntry c e).processor = s.processor := rfl
@[simp] theorem State.setEntry_replies (s : State) (c : Nat) (e : EntryStatus) : (s.setEntry c e).replies = s.replies := rfl
@[simp] theorem State.setEntry_transmitter (s : State) (c : Nat) (e : EntryStatus) : (s.setEntry c e).transmitter = s.transmitter := rfl
@[simp] theorem State.setEntry_notices (s : State) (c : Nat) (e : EntryStatus) : (s.setEntry c e).notices = s.notices := rfl
@[simp] theorem State.setEntry_reserved (s : State) (c : Nat) (e : EntryStatus) : (s.setEntry c e).reserved = s.reserved := rfl
@[simp] theorem State.setEntry_discarded (s : State) (c : Nat) (e : EntryStatus) : (s.setEntry c e).discarded = s.discarded := rfl
@[simp] theorem State.setEntry_circuits (s : State) (c : Nat) (e : EntryStatus) : (s.setEntry c e).circuits = s.circuits := rfl
@[simp] theorem State.setEntry_codeMap (s : State) (c : Nat) (e : EntryStatus) : (s.setEntry c e).codeMap = s.codeMap := rfl
@[simp] theorem State.setEntry_spanIndex (s : State) (c : Nat) (e : EntryStatus) : (s.setEntry c e).spanIndex = s.spanIndex := rfl
@[simp] theorem State.setEntry_stack (s : State) (c : Nat) (e : EntryStatus) : (s.setEntry c e).stack = s.stack := rfl
@[simp] theorem State.setEntry_closures (s : State) (c : Nat) (e : EntryStatus) : (s.setEntry c e).closures = s.closures := rfl
@[simp] theorem State.setEntry_queue (s : State) (c : Nat) (e : EntryStatus) : (s.setEntry c e).queue = s.queue := rfl
@[simp] theorem State.setEntry_looks (s : State) (c : Nat) (e : EntryStatus) : (s.setEntry c e).looks = s.looks := rfl
@[simp] theorem State.setEntry_lanes (s : State) (c : Nat) (e : EntryStatus) : (s.setEntry c e).lanes = s.lanes := rfl
@[simp] theorem State.setEntry_profile (s : State) (c : Nat) (e : EntryStatus) : (s.setEntry c e).profile = s.profile := rfl
@[simp] theorem State.setEntry_pendingProfile (s : State) (c : Nat) (e : EntryStatus) : (s.setEntry c e).pendingProfile = s.pendingProfile := rfl
@[simp] theorem State.setEntry_permit (s : State) (c : Nat) (e : EntryStatus) : (s.setEntry c e).permit = s.permit := rfl
@[simp] theorem State.setEntry_region (s : State) (c : Nat) (e : EntryStatus) : (s.setEntry c e).region = s.region := rfl
@[simp] theorem State.setEntry_storedLevel (s : State) (c : Nat) (e : EntryStatus) : (s.setEntry c e).storedLevel = s.storedLevel := rfl
@[simp] theorem State.setEntry_overlay (s : State) (c : Nat) (e : EntryStatus) : (s.setEntry c e).overlay = s.overlay := rfl
@[simp] theorem State.setEntry_regionBeingWritten (s : State) (c : Nat) (e : EntryStatus) : (s.setEntry c e).regionBeingWritten = s.regionBeingWritten := rfl
@[simp] theorem State.setEntry_senseLines (s : State) (c : Nat) (e : EntryStatus) : (s.setEntry c e).senseLines = s.senseLines := rfl
@[simp] theorem State.setEntry_defSlots (s : State) (c : Nat) (e : EntryStatus) : (s.setEntry c e).defSlots = s.defSlots := rfl
@[simp] theorem State.setEntry_baseSlots (s : State) (c : Nat) (e : EntryStatus) : (s.setEntry c e).baseSlots = s.baseSlots := rfl
@[simp] theorem State.setEntry_protSlot (s : State) (c : Nat) (e : EntryStatus) : (s.setEntry c e).protSlot = s.protSlot := rfl
@[simp] theorem State.setEntry_commits (s : State) (c : Nat) (e : EntryStatus) : (s.setEntry c e).commits = s.commits := rfl
@[simp] theorem State.setEntry_writing (s : State) (c : Nat) (e : EntryStatus) : (s.setEntry c e).writing = s.writing := rfl
@[simp] theorem State.setEntry_freeCount (s : State) (c : Nat) (e : EntryStatus) : (s.setEntry c e).freeCount = s.freeCount := rfl

/-! ## usePermit -/

@[simp] theorem State.usePermit_pending (s : State) : (s.usePermit).pending = s.pending := rfl
@[simp] theorem State.usePermit_phase (s : State) : (s.usePermit).phase = s.phase := rfl
@[simp] theorem State.usePermit_resetLine (s : State) : (s.usePermit).resetLine = s.resetLine := rfl
@[simp] theorem State.usePermit_restartCause (s : State) : (s.usePermit).restartCause = s.restartCause := rfl
@[simp] theorem State.usePermit_restartTaken (s : State) : (s.usePermit).restartTaken = s.restartTaken := rfl
@[simp] theorem State.usePermit_restartReplySent (s : State) : (s.usePermit).restartReplySent = s.restartReplySent := rfl
@[simp] theorem State.usePermit_refLock (s : State) : (s.usePermit).refLock = s.refLock := rfl
@[simp] theorem State.usePermit_rateStrap (s : State) : (s.usePermit).rateStrap = s.rateStrap := rfl
@[simp] theorem State.usePermit_bitRate (s : State) : (s.usePermit).bitRate = s.bitRate := rfl
@[simp] theorem State.usePermit_clock (s : State) : (s.usePermit).clock = s.clock := rfl
@[simp] theorem State.usePermit_receiver (s : State) : (s.usePermit).receiver = s.receiver := rfl
@[simp] theorem State.usePermit_completeFrame (s : State) : (s.usePermit).completeFrame = s.completeFrame := rfl
@[simp] theorem State.usePermit_requestQueue (s : State) : (s.usePermit).requestQueue = s.requestQueue := rfl
@[simp] theorem State.usePermit_processor (s : State) : (s.usePermit).processor = s.processor := rfl
@[simp] theorem State.usePermit_replies (s : State) : (s.usePermit).replies = s.replies := rfl
@[simp] theorem State.usePermit_transmitter (s : State) : (s.usePermit).transmitter = s.transmitter := rfl
@[simp] theorem State.usePermit_notices (s : State) : (s.usePermit).notices = s.notices := rfl
@[simp] theorem State.usePermit_reserved (s : State) : (s.usePermit).reserved = s.reserved := rfl
@[simp] theorem State.usePermit_discarded (s : State) : (s.usePermit).discarded = s.discarded := rfl
@[simp] theorem State.usePermit_circuits (s : State) : (s.usePermit).circuits = s.circuits := rfl
@[simp] theorem State.usePermit_codeMap (s : State) : (s.usePermit).codeMap = s.codeMap := rfl
@[simp] theorem State.usePermit_spanIndex (s : State) : (s.usePermit).spanIndex = s.spanIndex := rfl
@[simp] theorem State.usePermit_stack (s : State) : (s.usePermit).stack = s.stack := rfl
@[simp] theorem State.usePermit_closures (s : State) : (s.usePermit).closures = s.closures := rfl
@[simp] theorem State.usePermit_queue (s : State) : (s.usePermit).queue = s.queue := rfl
@[simp] theorem State.usePermit_looks (s : State) : (s.usePermit).looks = s.looks := rfl
@[simp] theorem State.usePermit_lanes (s : State) : (s.usePermit).lanes = s.lanes := rfl
@[simp] theorem State.usePermit_profile (s : State) : (s.usePermit).profile = s.profile := rfl
@[simp] theorem State.usePermit_pendingProfile (s : State) : (s.usePermit).pendingProfile = s.pendingProfile := rfl
@[simp] theorem State.usePermit_campaign (s : State) : (s.usePermit).campaign = s.campaign := rfl
@[simp] theorem State.usePermit_region (s : State) : (s.usePermit).region = s.region := rfl
@[simp] theorem State.usePermit_storedLevel (s : State) : (s.usePermit).storedLevel = s.storedLevel := rfl
@[simp] theorem State.usePermit_overlay (s : State) : (s.usePermit).overlay = s.overlay := rfl
@[simp] theorem State.usePermit_regionBeingWritten (s : State) : (s.usePermit).regionBeingWritten = s.regionBeingWritten := rfl
@[simp] theorem State.usePermit_senseLines (s : State) : (s.usePermit).senseLines = s.senseLines := rfl
@[simp] theorem State.usePermit_defSlots (s : State) : (s.usePermit).defSlots = s.defSlots := rfl
@[simp] theorem State.usePermit_baseSlots (s : State) : (s.usePermit).baseSlots = s.baseSlots := rfl
@[simp] theorem State.usePermit_protSlot (s : State) : (s.usePermit).protSlot = s.protSlot := rfl
@[simp] theorem State.usePermit_commits (s : State) : (s.usePermit).commits = s.commits := rfl
@[simp] theorem State.usePermit_writing (s : State) : (s.usePermit).writing = s.writing := rfl
@[simp] theorem State.usePermit_freeCount (s : State) : (s.usePermit).freeCount = s.freeCount := rfl

/-! ## indexSpans -/

@[simp] theorem State.indexSpans_pending (s : State) (c : Nat) (ps : List Nat) : (s.indexSpans c ps).pending = s.pending := rfl
@[simp] theorem State.indexSpans_phase (s : State) (c : Nat) (ps : List Nat) : (s.indexSpans c ps).phase = s.phase := rfl
@[simp] theorem State.indexSpans_resetLine (s : State) (c : Nat) (ps : List Nat) : (s.indexSpans c ps).resetLine = s.resetLine := rfl
@[simp] theorem State.indexSpans_restartCause (s : State) (c : Nat) (ps : List Nat) : (s.indexSpans c ps).restartCause = s.restartCause := rfl
@[simp] theorem State.indexSpans_restartTaken (s : State) (c : Nat) (ps : List Nat) : (s.indexSpans c ps).restartTaken = s.restartTaken := rfl
@[simp] theorem State.indexSpans_restartReplySent (s : State) (c : Nat) (ps : List Nat) : (s.indexSpans c ps).restartReplySent = s.restartReplySent := rfl
@[simp] theorem State.indexSpans_refLock (s : State) (c : Nat) (ps : List Nat) : (s.indexSpans c ps).refLock = s.refLock := rfl
@[simp] theorem State.indexSpans_rateStrap (s : State) (c : Nat) (ps : List Nat) : (s.indexSpans c ps).rateStrap = s.rateStrap := rfl
@[simp] theorem State.indexSpans_bitRate (s : State) (c : Nat) (ps : List Nat) : (s.indexSpans c ps).bitRate = s.bitRate := rfl
@[simp] theorem State.indexSpans_clock (s : State) (c : Nat) (ps : List Nat) : (s.indexSpans c ps).clock = s.clock := rfl
@[simp] theorem State.indexSpans_receiver (s : State) (c : Nat) (ps : List Nat) : (s.indexSpans c ps).receiver = s.receiver := rfl
@[simp] theorem State.indexSpans_completeFrame (s : State) (c : Nat) (ps : List Nat) : (s.indexSpans c ps).completeFrame = s.completeFrame := rfl
@[simp] theorem State.indexSpans_requestQueue (s : State) (c : Nat) (ps : List Nat) : (s.indexSpans c ps).requestQueue = s.requestQueue := rfl
@[simp] theorem State.indexSpans_processor (s : State) (c : Nat) (ps : List Nat) : (s.indexSpans c ps).processor = s.processor := rfl
@[simp] theorem State.indexSpans_replies (s : State) (c : Nat) (ps : List Nat) : (s.indexSpans c ps).replies = s.replies := rfl
@[simp] theorem State.indexSpans_transmitter (s : State) (c : Nat) (ps : List Nat) : (s.indexSpans c ps).transmitter = s.transmitter := rfl
@[simp] theorem State.indexSpans_notices (s : State) (c : Nat) (ps : List Nat) : (s.indexSpans c ps).notices = s.notices := rfl
@[simp] theorem State.indexSpans_reserved (s : State) (c : Nat) (ps : List Nat) : (s.indexSpans c ps).reserved = s.reserved := rfl
@[simp] theorem State.indexSpans_discarded (s : State) (c : Nat) (ps : List Nat) : (s.indexSpans c ps).discarded = s.discarded := rfl
@[simp] theorem State.indexSpans_circuits (s : State) (c : Nat) (ps : List Nat) : (s.indexSpans c ps).circuits = s.circuits := rfl
@[simp] theorem State.indexSpans_codeMap (s : State) (c : Nat) (ps : List Nat) : (s.indexSpans c ps).codeMap = s.codeMap := rfl
@[simp] theorem State.indexSpans_stack (s : State) (c : Nat) (ps : List Nat) : (s.indexSpans c ps).stack = s.stack := rfl
@[simp] theorem State.indexSpans_closures (s : State) (c : Nat) (ps : List Nat) : (s.indexSpans c ps).closures = s.closures := rfl
@[simp] theorem State.indexSpans_queue (s : State) (c : Nat) (ps : List Nat) : (s.indexSpans c ps).queue = s.queue := rfl
@[simp] theorem State.indexSpans_looks (s : State) (c : Nat) (ps : List Nat) : (s.indexSpans c ps).looks = s.looks := rfl
@[simp] theorem State.indexSpans_lanes (s : State) (c : Nat) (ps : List Nat) : (s.indexSpans c ps).lanes = s.lanes := rfl
@[simp] theorem State.indexSpans_profile (s : State) (c : Nat) (ps : List Nat) : (s.indexSpans c ps).profile = s.profile := rfl
@[simp] theorem State.indexSpans_pendingProfile (s : State) (c : Nat) (ps : List Nat) : (s.indexSpans c ps).pendingProfile = s.pendingProfile := rfl
@[simp] theorem State.indexSpans_campaign (s : State) (c : Nat) (ps : List Nat) : (s.indexSpans c ps).campaign = s.campaign := rfl
@[simp] theorem State.indexSpans_permit (s : State) (c : Nat) (ps : List Nat) : (s.indexSpans c ps).permit = s.permit := rfl
@[simp] theorem State.indexSpans_region (s : State) (c : Nat) (ps : List Nat) : (s.indexSpans c ps).region = s.region := rfl
@[simp] theorem State.indexSpans_storedLevel (s : State) (c : Nat) (ps : List Nat) : (s.indexSpans c ps).storedLevel = s.storedLevel := rfl
@[simp] theorem State.indexSpans_overlay (s : State) (c : Nat) (ps : List Nat) : (s.indexSpans c ps).overlay = s.overlay := rfl
@[simp] theorem State.indexSpans_regionBeingWritten (s : State) (c : Nat) (ps : List Nat) : (s.indexSpans c ps).regionBeingWritten = s.regionBeingWritten := rfl
@[simp] theorem State.indexSpans_senseLines (s : State) (c : Nat) (ps : List Nat) : (s.indexSpans c ps).senseLines = s.senseLines := rfl
@[simp] theorem State.indexSpans_defSlots (s : State) (c : Nat) (ps : List Nat) : (s.indexSpans c ps).defSlots = s.defSlots := rfl
@[simp] theorem State.indexSpans_baseSlots (s : State) (c : Nat) (ps : List Nat) : (s.indexSpans c ps).baseSlots = s.baseSlots := rfl
@[simp] theorem State.indexSpans_protSlot (s : State) (c : Nat) (ps : List Nat) : (s.indexSpans c ps).protSlot = s.protSlot := rfl
@[simp] theorem State.indexSpans_commits (s : State) (c : Nat) (ps : List Nat) : (s.indexSpans c ps).commits = s.commits := rfl
@[simp] theorem State.indexSpans_writing (s : State) (c : Nat) (ps : List Nat) : (s.indexSpans c ps).writing = s.writing := rfl
@[simp] theorem State.indexSpans_freeCount (s : State) (c : Nat) (ps : List Nat) : (s.indexSpans c ps).freeCount = s.freeCount := rfl

/-! ## unindexSpans -/

@[simp] theorem State.unindexSpans_pending (s : State) (c : Nat) (ps : List Nat) : (s.unindexSpans c ps).pending = s.pending := rfl
@[simp] theorem State.unindexSpans_phase (s : State) (c : Nat) (ps : List Nat) : (s.unindexSpans c ps).phase = s.phase := rfl
@[simp] theorem State.unindexSpans_resetLine (s : State) (c : Nat) (ps : List Nat) : (s.unindexSpans c ps).resetLine = s.resetLine := rfl
@[simp] theorem State.unindexSpans_restartCause (s : State) (c : Nat) (ps : List Nat) : (s.unindexSpans c ps).restartCause = s.restartCause := rfl
@[simp] theorem State.unindexSpans_restartTaken (s : State) (c : Nat) (ps : List Nat) : (s.unindexSpans c ps).restartTaken = s.restartTaken := rfl
@[simp] theorem State.unindexSpans_restartReplySent (s : State) (c : Nat) (ps : List Nat) : (s.unindexSpans c ps).restartReplySent = s.restartReplySent := rfl
@[simp] theorem State.unindexSpans_refLock (s : State) (c : Nat) (ps : List Nat) : (s.unindexSpans c ps).refLock = s.refLock := rfl
@[simp] theorem State.unindexSpans_rateStrap (s : State) (c : Nat) (ps : List Nat) : (s.unindexSpans c ps).rateStrap = s.rateStrap := rfl
@[simp] theorem State.unindexSpans_bitRate (s : State) (c : Nat) (ps : List Nat) : (s.unindexSpans c ps).bitRate = s.bitRate := rfl
@[simp] theorem State.unindexSpans_clock (s : State) (c : Nat) (ps : List Nat) : (s.unindexSpans c ps).clock = s.clock := rfl
@[simp] theorem State.unindexSpans_receiver (s : State) (c : Nat) (ps : List Nat) : (s.unindexSpans c ps).receiver = s.receiver := rfl
@[simp] theorem State.unindexSpans_completeFrame (s : State) (c : Nat) (ps : List Nat) : (s.unindexSpans c ps).completeFrame = s.completeFrame := rfl
@[simp] theorem State.unindexSpans_requestQueue (s : State) (c : Nat) (ps : List Nat) : (s.unindexSpans c ps).requestQueue = s.requestQueue := rfl
@[simp] theorem State.unindexSpans_processor (s : State) (c : Nat) (ps : List Nat) : (s.unindexSpans c ps).processor = s.processor := rfl
@[simp] theorem State.unindexSpans_replies (s : State) (c : Nat) (ps : List Nat) : (s.unindexSpans c ps).replies = s.replies := rfl
@[simp] theorem State.unindexSpans_transmitter (s : State) (c : Nat) (ps : List Nat) : (s.unindexSpans c ps).transmitter = s.transmitter := rfl
@[simp] theorem State.unindexSpans_notices (s : State) (c : Nat) (ps : List Nat) : (s.unindexSpans c ps).notices = s.notices := rfl
@[simp] theorem State.unindexSpans_reserved (s : State) (c : Nat) (ps : List Nat) : (s.unindexSpans c ps).reserved = s.reserved := rfl
@[simp] theorem State.unindexSpans_discarded (s : State) (c : Nat) (ps : List Nat) : (s.unindexSpans c ps).discarded = s.discarded := rfl
@[simp] theorem State.unindexSpans_circuits (s : State) (c : Nat) (ps : List Nat) : (s.unindexSpans c ps).circuits = s.circuits := rfl
@[simp] theorem State.unindexSpans_codeMap (s : State) (c : Nat) (ps : List Nat) : (s.unindexSpans c ps).codeMap = s.codeMap := rfl
@[simp] theorem State.unindexSpans_stack (s : State) (c : Nat) (ps : List Nat) : (s.unindexSpans c ps).stack = s.stack := rfl
@[simp] theorem State.unindexSpans_closures (s : State) (c : Nat) (ps : List Nat) : (s.unindexSpans c ps).closures = s.closures := rfl
@[simp] theorem State.unindexSpans_queue (s : State) (c : Nat) (ps : List Nat) : (s.unindexSpans c ps).queue = s.queue := rfl
@[simp] theorem State.unindexSpans_looks (s : State) (c : Nat) (ps : List Nat) : (s.unindexSpans c ps).looks = s.looks := rfl
@[simp] theorem State.unindexSpans_lanes (s : State) (c : Nat) (ps : List Nat) : (s.unindexSpans c ps).lanes = s.lanes := rfl
@[simp] theorem State.unindexSpans_profile (s : State) (c : Nat) (ps : List Nat) : (s.unindexSpans c ps).profile = s.profile := rfl
@[simp] theorem State.unindexSpans_pendingProfile (s : State) (c : Nat) (ps : List Nat) : (s.unindexSpans c ps).pendingProfile = s.pendingProfile := rfl
@[simp] theorem State.unindexSpans_campaign (s : State) (c : Nat) (ps : List Nat) : (s.unindexSpans c ps).campaign = s.campaign := rfl
@[simp] theorem State.unindexSpans_permit (s : State) (c : Nat) (ps : List Nat) : (s.unindexSpans c ps).permit = s.permit := rfl
@[simp] theorem State.unindexSpans_region (s : State) (c : Nat) (ps : List Nat) : (s.unindexSpans c ps).region = s.region := rfl
@[simp] theorem State.unindexSpans_storedLevel (s : State) (c : Nat) (ps : List Nat) : (s.unindexSpans c ps).storedLevel = s.storedLevel := rfl
@[simp] theorem State.unindexSpans_overlay (s : State) (c : Nat) (ps : List Nat) : (s.unindexSpans c ps).overlay = s.overlay := rfl
@[simp] theorem State.unindexSpans_regionBeingWritten (s : State) (c : Nat) (ps : List Nat) : (s.unindexSpans c ps).regionBeingWritten = s.regionBeingWritten := rfl
@[simp] theorem State.unindexSpans_senseLines (s : State) (c : Nat) (ps : List Nat) : (s.unindexSpans c ps).senseLines = s.senseLines := rfl
@[simp] theorem State.unindexSpans_defSlots (s : State) (c : Nat) (ps : List Nat) : (s.unindexSpans c ps).defSlots = s.defSlots := rfl
@[simp] theorem State.unindexSpans_baseSlots (s : State) (c : Nat) (ps : List Nat) : (s.unindexSpans c ps).baseSlots = s.baseSlots := rfl
@[simp] theorem State.unindexSpans_protSlot (s : State) (c : Nat) (ps : List Nat) : (s.unindexSpans c ps).protSlot = s.protSlot := rfl
@[simp] theorem State.unindexSpans_commits (s : State) (c : Nat) (ps : List Nat) : (s.unindexSpans c ps).commits = s.commits := rfl
@[simp] theorem State.unindexSpans_writing (s : State) (c : Nat) (ps : List Nat) : (s.unindexSpans c ps).writing = s.writing := rfl
@[simp] theorem State.unindexSpans_freeCount (s : State) (c : Nat) (ps : List Nat) : (s.unindexSpans c ps).freeCount = s.freeCount := rfl

/-! ## ownCode -/

@[simp] theorem State.ownCode_pending (s : State) (k c : Nat) : (s.ownCode k c).pending = s.pending := rfl
@[simp] theorem State.ownCode_phase (s : State) (k c : Nat) : (s.ownCode k c).phase = s.phase := rfl
@[simp] theorem State.ownCode_resetLine (s : State) (k c : Nat) : (s.ownCode k c).resetLine = s.resetLine := rfl
@[simp] theorem State.ownCode_restartCause (s : State) (k c : Nat) : (s.ownCode k c).restartCause = s.restartCause := rfl
@[simp] theorem State.ownCode_restartTaken (s : State) (k c : Nat) : (s.ownCode k c).restartTaken = s.restartTaken := rfl
@[simp] theorem State.ownCode_restartReplySent (s : State) (k c : Nat) : (s.ownCode k c).restartReplySent = s.restartReplySent := rfl
@[simp] theorem State.ownCode_refLock (s : State) (k c : Nat) : (s.ownCode k c).refLock = s.refLock := rfl
@[simp] theorem State.ownCode_rateStrap (s : State) (k c : Nat) : (s.ownCode k c).rateStrap = s.rateStrap := rfl
@[simp] theorem State.ownCode_bitRate (s : State) (k c : Nat) : (s.ownCode k c).bitRate = s.bitRate := rfl
@[simp] theorem State.ownCode_clock (s : State) (k c : Nat) : (s.ownCode k c).clock = s.clock := rfl
@[simp] theorem State.ownCode_receiver (s : State) (k c : Nat) : (s.ownCode k c).receiver = s.receiver := rfl
@[simp] theorem State.ownCode_completeFrame (s : State) (k c : Nat) : (s.ownCode k c).completeFrame = s.completeFrame := rfl
@[simp] theorem State.ownCode_requestQueue (s : State) (k c : Nat) : (s.ownCode k c).requestQueue = s.requestQueue := rfl
@[simp] theorem State.ownCode_processor (s : State) (k c : Nat) : (s.ownCode k c).processor = s.processor := rfl
@[simp] theorem State.ownCode_replies (s : State) (k c : Nat) : (s.ownCode k c).replies = s.replies := rfl
@[simp] theorem State.ownCode_transmitter (s : State) (k c : Nat) : (s.ownCode k c).transmitter = s.transmitter := rfl
@[simp] theorem State.ownCode_notices (s : State) (k c : Nat) : (s.ownCode k c).notices = s.notices := rfl
@[simp] theorem State.ownCode_reserved (s : State) (k c : Nat) : (s.ownCode k c).reserved = s.reserved := rfl
@[simp] theorem State.ownCode_discarded (s : State) (k c : Nat) : (s.ownCode k c).discarded = s.discarded := rfl
@[simp] theorem State.ownCode_circuits (s : State) (k c : Nat) : (s.ownCode k c).circuits = s.circuits := rfl
@[simp] theorem State.ownCode_spanIndex (s : State) (k c : Nat) : (s.ownCode k c).spanIndex = s.spanIndex := rfl
@[simp] theorem State.ownCode_stack (s : State) (k c : Nat) : (s.ownCode k c).stack = s.stack := rfl
@[simp] theorem State.ownCode_closures (s : State) (k c : Nat) : (s.ownCode k c).closures = s.closures := rfl
@[simp] theorem State.ownCode_queue (s : State) (k c : Nat) : (s.ownCode k c).queue = s.queue := rfl
@[simp] theorem State.ownCode_looks (s : State) (k c : Nat) : (s.ownCode k c).looks = s.looks := rfl
@[simp] theorem State.ownCode_lanes (s : State) (k c : Nat) : (s.ownCode k c).lanes = s.lanes := rfl
@[simp] theorem State.ownCode_profile (s : State) (k c : Nat) : (s.ownCode k c).profile = s.profile := rfl
@[simp] theorem State.ownCode_pendingProfile (s : State) (k c : Nat) : (s.ownCode k c).pendingProfile = s.pendingProfile := rfl
@[simp] theorem State.ownCode_campaign (s : State) (k c : Nat) : (s.ownCode k c).campaign = s.campaign := rfl
@[simp] theorem State.ownCode_permit (s : State) (k c : Nat) : (s.ownCode k c).permit = s.permit := rfl
@[simp] theorem State.ownCode_region (s : State) (k c : Nat) : (s.ownCode k c).region = s.region := rfl
@[simp] theorem State.ownCode_storedLevel (s : State) (k c : Nat) : (s.ownCode k c).storedLevel = s.storedLevel := rfl
@[simp] theorem State.ownCode_overlay (s : State) (k c : Nat) : (s.ownCode k c).overlay = s.overlay := rfl
@[simp] theorem State.ownCode_regionBeingWritten (s : State) (k c : Nat) : (s.ownCode k c).regionBeingWritten = s.regionBeingWritten := rfl
@[simp] theorem State.ownCode_senseLines (s : State) (k c : Nat) : (s.ownCode k c).senseLines = s.senseLines := rfl
@[simp] theorem State.ownCode_defSlots (s : State) (k c : Nat) : (s.ownCode k c).defSlots = s.defSlots := rfl
@[simp] theorem State.ownCode_baseSlots (s : State) (k c : Nat) : (s.ownCode k c).baseSlots = s.baseSlots := rfl
@[simp] theorem State.ownCode_protSlot (s : State) (k c : Nat) : (s.ownCode k c).protSlot = s.protSlot := rfl
@[simp] theorem State.ownCode_commits (s : State) (k c : Nat) : (s.ownCode k c).commits = s.commits := rfl
@[simp] theorem State.ownCode_writing (s : State) (k c : Nat) : (s.ownCode k c).writing = s.writing := rfl
@[simp] theorem State.ownCode_freeCount (s : State) (k c : Nat) : (s.ownCode k c).freeCount = s.freeCount := rfl

/-! ## disownCode -/

@[simp] theorem State.disownCode_pending (s : State) (k : Nat) : (s.disownCode k).pending = s.pending := rfl
@[simp] theorem State.disownCode_phase (s : State) (k : Nat) : (s.disownCode k).phase = s.phase := rfl
@[simp] theorem State.disownCode_resetLine (s : State) (k : Nat) : (s.disownCode k).resetLine = s.resetLine := rfl
@[simp] theorem State.disownCode_restartCause (s : State) (k : Nat) : (s.disownCode k).restartCause = s.restartCause := rfl
@[simp] theorem State.disownCode_restartTaken (s : State) (k : Nat) : (s.disownCode k).restartTaken = s.restartTaken := rfl
@[simp] theorem State.disownCode_restartReplySent (s : State) (k : Nat) : (s.disownCode k).restartReplySent = s.restartReplySent := rfl
@[simp] theorem State.disownCode_refLock (s : State) (k : Nat) : (s.disownCode k).refLock = s.refLock := rfl
@[simp] theorem State.disownCode_rateStrap (s : State) (k : Nat) : (s.disownCode k).rateStrap = s.rateStrap := rfl
@[simp] theorem State.disownCode_bitRate (s : State) (k : Nat) : (s.disownCode k).bitRate = s.bitRate := rfl
@[simp] theorem State.disownCode_clock (s : State) (k : Nat) : (s.disownCode k).clock = s.clock := rfl
@[simp] theorem State.disownCode_receiver (s : State) (k : Nat) : (s.disownCode k).receiver = s.receiver := rfl
@[simp] theorem State.disownCode_completeFrame (s : State) (k : Nat) : (s.disownCode k).completeFrame = s.completeFrame := rfl
@[simp] theorem State.disownCode_requestQueue (s : State) (k : Nat) : (s.disownCode k).requestQueue = s.requestQueue := rfl
@[simp] theorem State.disownCode_processor (s : State) (k : Nat) : (s.disownCode k).processor = s.processor := rfl
@[simp] theorem State.disownCode_replies (s : State) (k : Nat) : (s.disownCode k).replies = s.replies := rfl
@[simp] theorem State.disownCode_transmitter (s : State) (k : Nat) : (s.disownCode k).transmitter = s.transmitter := rfl
@[simp] theorem State.disownCode_notices (s : State) (k : Nat) : (s.disownCode k).notices = s.notices := rfl
@[simp] theorem State.disownCode_reserved (s : State) (k : Nat) : (s.disownCode k).reserved = s.reserved := rfl
@[simp] theorem State.disownCode_discarded (s : State) (k : Nat) : (s.disownCode k).discarded = s.discarded := rfl
@[simp] theorem State.disownCode_circuits (s : State) (k : Nat) : (s.disownCode k).circuits = s.circuits := rfl
@[simp] theorem State.disownCode_spanIndex (s : State) (k : Nat) : (s.disownCode k).spanIndex = s.spanIndex := rfl
@[simp] theorem State.disownCode_stack (s : State) (k : Nat) : (s.disownCode k).stack = s.stack := rfl
@[simp] theorem State.disownCode_closures (s : State) (k : Nat) : (s.disownCode k).closures = s.closures := rfl
@[simp] theorem State.disownCode_queue (s : State) (k : Nat) : (s.disownCode k).queue = s.queue := rfl
@[simp] theorem State.disownCode_looks (s : State) (k : Nat) : (s.disownCode k).looks = s.looks := rfl
@[simp] theorem State.disownCode_lanes (s : State) (k : Nat) : (s.disownCode k).lanes = s.lanes := rfl
@[simp] theorem State.disownCode_profile (s : State) (k : Nat) : (s.disownCode k).profile = s.profile := rfl
@[simp] theorem State.disownCode_pendingProfile (s : State) (k : Nat) : (s.disownCode k).pendingProfile = s.pendingProfile := rfl
@[simp] theorem State.disownCode_campaign (s : State) (k : Nat) : (s.disownCode k).campaign = s.campaign := rfl
@[simp] theorem State.disownCode_permit (s : State) (k : Nat) : (s.disownCode k).permit = s.permit := rfl
@[simp] theorem State.disownCode_region (s : State) (k : Nat) : (s.disownCode k).region = s.region := rfl
@[simp] theorem State.disownCode_storedLevel (s : State) (k : Nat) : (s.disownCode k).storedLevel = s.storedLevel := rfl
@[simp] theorem State.disownCode_overlay (s : State) (k : Nat) : (s.disownCode k).overlay = s.overlay := rfl
@[simp] theorem State.disownCode_regionBeingWritten (s : State) (k : Nat) : (s.disownCode k).regionBeingWritten = s.regionBeingWritten := rfl
@[simp] theorem State.disownCode_senseLines (s : State) (k : Nat) : (s.disownCode k).senseLines = s.senseLines := rfl
@[simp] theorem State.disownCode_defSlots (s : State) (k : Nat) : (s.disownCode k).defSlots = s.defSlots := rfl
@[simp] theorem State.disownCode_baseSlots (s : State) (k : Nat) : (s.disownCode k).baseSlots = s.baseSlots := rfl
@[simp] theorem State.disownCode_protSlot (s : State) (k : Nat) : (s.disownCode k).protSlot = s.protSlot := rfl
@[simp] theorem State.disownCode_commits (s : State) (k : Nat) : (s.disownCode k).commits = s.commits := rfl
@[simp] theorem State.disownCode_writing (s : State) (k : Nat) : (s.disownCode k).writing = s.writing := rfl
@[simp] theorem State.disownCode_freeCount (s : State) (k : Nat) : (s.disownCode k).freeCount = s.freeCount := rfl

end Sys2Proof.Machine
end

