-- ==== Sys2Proof/Laws/Tables.lean ====
section
/-! SUPPORT. The laws of sparse tables: a read after a write, and the canonical form kept by every write; and with them
those of the circuit, lane and line records. -/

namespace Sys2Proof.Machine

variable {α : Type}

/-! ## Reads -/

@[simp] theorem tableGet_tablePut_self (t : Table α) (k : Nat) (v : α) : tableGet (tablePut t k v) k = some v := by
  induction t with
  | nil => simp [tablePut, tableGet]
  | cons e t ih =>
    obtain ⟨k', v'⟩ := e
    unfold tablePut
    split
    · simp [tableGet]
    · split
      · simp [tableGet]
      · rename_i h; simp [tableGet, Ne.symm h, ih]

theorem tableGet_tablePut_other (t : Table α) {j k : Nat} (h : j ≠ k) (v : α) :
    tableGet (tablePut t k v) j = tableGet t j := by
  induction t with
  | nil => simp [tablePut, tableGet, h.symm]
  | cons e t ih =>
    obtain ⟨k', v'⟩ := e
    unfold tablePut
    split
    · simp [tableGet, h.symm]
    · split
      · rename_i hk; subst hk; simp [tableGet, h.symm]
      · simp [tableGet, ih]

@[simp] theorem tableGet_tableErase_self (t : Table α) (k : Nat) : tableGet (tableErase t k) k = none := by
  induction t with
  | nil => rfl
  | cons e t ih =>
    obtain ⟨k', v'⟩ := e
    by_cases h : k' = k
    · simpa [tableErase, h] using ih
    · simpa [tableErase, h, tableGet] using ih

theorem tableGet_tableErase_other (t : Table α) {j k : Nat} (h : j ≠ k) :
    tableGet (tableErase t k) j = tableGet t j := by
  induction t with
  | nil => rfl
  | cons e t ih =>
    obtain ⟨k', v'⟩ := e
    by_cases hk : k' = k
    · subst hk; simpa [tableErase, tableGet, h.symm] using ih
    · by_cases hj : k' = j <;> simp_all [tableErase, tableGet]

variable [DecidableEq α]

/-- What a key reads as after it has been written. -/
@[simp] theorem tableRead_tableWrite_self (d : α) (t : Table α) (k : Nat) (v : α) :
    tableRead d (tableWrite d t k v) k = v := by
  unfold tableRead tableWrite
  split <;> simp_all

/-- A write leaves every other key alone. -/
theorem tableRead_tableWrite_other (d : α) (t : Table α) {j k : Nat} (h : j ≠ k) (v : α) :
    tableRead d (tableWrite d t k v) j = tableRead d t j := by
  unfold tableRead tableWrite
  split
  · rw [tableGet_tableErase_other t h]
  · rw [tableGet_tablePut_other t h]

/-! ## The canonical form -/

/-- Every key of the table is above `k`. -/
def keysAbove (k : Nat) (t : Table α) : Prop := ∀ e ∈ t, k < e.1

omit [DecidableEq α] in
theorem keysAbove_tablePut {b k : Nat} (hb : b < k) (v : α) {t : Table α} (h : keysAbove b t) :
    keysAbove b (tablePut t k v) := by
  induction t with
  | nil => simpa [tablePut, keysAbove] using hb
  | cons e t ih =>
    obtain ⟨k', v'⟩ := e
    have ht : keysAbove b t := fun x hx => h x (List.mem_cons_of_mem _ hx)
    have hk' : b < k' := h (k', v') List.mem_cons_self
    unfold tablePut
    split
    · intro x hx; rcases List.mem_cons.mp hx with rfl | hx
      · exact hb
      · exact h x hx
    · split
      · intro x hx; rcases List.mem_cons.mp hx with rfl | hx
        · exact hb
        · exact ht x hx
      · intro x hx; rcases List.mem_cons.mp hx with rfl | hx
        · exact hk'
        · exact ih ht x hx

/-- The canonical form of a table with a first entry. -/
theorem tableWf_cons (d : α) (k : Nat) (v : α) (t : Table α) :
    tableWf d ((k, v) :: t) = true ↔ v ≠ d ∧ keysAbove k t ∧ tableWf d t = true := by
  induction t generalizing k v with
  | nil => simp [tableWf, keysAbove]
  | cons e t ih =>
    obtain ⟨k', v'⟩ := e
    constructor
    · intro h
      simp only [tableWf, Bool.and_eq_true, decide_eq_true_eq, bne_iff_ne] at h
      obtain ⟨⟨hk, hv⟩, ht⟩ := h
      refine ⟨hv, ?_, ht⟩
      intro x hx
      rcases List.mem_cons.mp hx with rfl | hx
      · exact hk
      · exact Nat.lt_trans hk (((ih k' v').mp ht).2.1 x hx)
    · rintro ⟨hv, ha, ht⟩
      simpa [tableWf, hv, ht] using ha (k', v') List.mem_cons_self

theorem tablePut_wf (d : α) {t : Table α} (k : Nat) {v : α} (hv : v ≠ d) (h : tableWf d t = true) :
    tableWf d (tablePut t k v) = true := by
  induction t with
  | nil => simpa [tablePut, tableWf] using hv
  | cons e t ih =>
    obtain ⟨k', v'⟩ := e
    obtain ⟨hv', ha, ht⟩ := (tableWf_cons d k' v' t).mp h
    unfold tablePut
    split
    · rename_i hk
      refine (tableWf_cons ..).mpr ⟨hv, ?_, h⟩
      intro x hx
      rcases List.mem_cons.mp hx with rfl | hx
      · exact hk
      · exact Nat.lt_trans hk (ha x hx)
    · split
      · rename_i hk; subst hk; exact (tableWf_cons ..).mpr ⟨hv, ha, ht⟩
      · exact (tableWf_cons ..).mpr ⟨hv', keysAbove_tablePut (by omega) v ha, ih ht⟩

theorem tableErase_wf (d : α) {t : Table α} (k : Nat) (h : tableWf d t = true) : tableWf d (tableErase t k) = true := by
  induction t with
  | nil => rfl
  | cons e t ih =>
    obtain ⟨k', v'⟩ := e
    obtain ⟨hv', ha, ht⟩ := (tableWf_cons d k' v' t).mp h
    by_cases hk : k' = k
    · simpa [tableErase, hk] using ih ht
    · have : tableErase ((k', v') :: t) k = (k', v') :: tableErase t k := by simp [tableErase, hk]
      rw [this]
      exact (tableWf_cons ..).mpr ⟨hv', fun x hx => ha x (List.mem_filter.mp hx).1, ih ht⟩

/-- Every write keeps the canonical form. -/
theorem tableWrite_wf (d : α) {t : Table α} (k : Nat) (v : α) (h : tableWf d t = true) :
    tableWf d (tableWrite d t k v) = true := by
  unfold tableWrite
  split
  · exact tableErase_wf d k h
  · rename_i hv; exact tablePut_wf d k hv h

/-! ## Records -/

@[simp] theorem State.circuit_setCircuit_self (s : State) (c : Nat) (r : Circuit) : (s.setCircuit c r).circuit c = r :=
  tableRead_tableWrite_self ..

theorem State.circuit_setCircuit_other (s : State) {c c' : Nat} (h : c' ≠ c) (r : Circuit) :
    (s.setCircuit c r).circuit c' = s.circuit c' := tableRead_tableWrite_other _ _ h _

@[simp] theorem State.circuit_modifyCircuit_self (s : State) (c : Nat) (f : Circuit → Circuit) :
    (s.modifyCircuit c f).circuit c = f (s.circuit c) := State.circuit_setCircuit_self ..

theorem State.circuit_modifyCircuit_other (s : State) {c c' : Nat} (h : c' ≠ c) (f : Circuit → Circuit) :
    (s.modifyCircuit c f).circuit c' = s.circuit c' := State.circuit_setCircuit_other s h _

@[simp] theorem State.lane_setLane_self (s : State) (l : LaneId) (r : Lane) : (s.setLane l r).lane l = r := by
  simp [State.lane, State.setLane]

theorem State.lane_setLane_other (s : State) {l l' : LaneId} (h : l' ≠ l) (r : Lane) :
    (s.setLane l r).lane l' = s.lane l' := by
  have : l.val ≠ l'.val := fun e => h (Fin.ext e.symm)
  simp [State.lane, State.setLane, this]

@[simp] theorem State.lane_modifyLane_self (s : State) (l : LaneId) (f : Lane → Lane) :
    (s.modifyLane l f).lane l = f (s.lane l) := State.lane_setLane_self ..

theorem State.lane_modifyLane_other (s : State) {l l' : LaneId} (h : l' ≠ l) (f : Lane → Lane) :
    (s.modifyLane l f).lane l' = s.lane l' := State.lane_setLane_other s h _

@[simp] theorem State.line_setLine_self (s : State) (l : LineId) (r : SenseLine) : (s.setLine l r).line l = r := by
  simp [State.line, State.setLine]

theorem State.line_setLine_other (s : State) {l l' : LineId} (h : l' ≠ l) (r : SenseLine) :
    (s.setLine l r).line l' = s.line l' := by
  have : l.val ≠ l'.val := fun e => h (Fin.ext e.symm)
  simp [State.line, State.setLine, this]

end Sys2Proof.Machine
end

