-- ==== Sys2Proof/Laws/Ops.lean ====
section
/-! SUPPORT. What each shared operation can do, said once: notices and reservations, replies, the arbiter's looks. -/

namespace Sys2Proof.Machine

/-! ## The notice queue -/

/-- An unreserved notice is queued where an entry is FREE, and is discarded otherwise. -/
theorem State.queueUnreserved_cases (s : State) (n : Notice) :
    (s.occupied < Config.noticeEntries ∧ s.queueUnreserved n = { s with notices := s.notices ++ [n] }) ∨
    (Config.noticeEntries ≤ s.occupied ∧ s.queueUnreserved n = { s with discarded := true }) := by
  unfold State.queueUnreserved State.hasFree
  by_cases h : s.occupied < Config.noticeEntries
  · exact .inl ⟨h, by simp [h]⟩
  · exact .inr ⟨by omega, by simp [h]⟩

/-- A reserved notice moves its entry from RESERVED to QUEUED. -/
theorem State.queueReserved_reserved (s : State) (k : ReservedKind) (n : Notice) (h : s.reserved.count k ≠ 0) :
    s.queueReserved k n =
      { s with reserved := s.reserved.withCount k (s.reserved.count k - 1), notices := s.notices ++ [n] } := by
  simp [State.queueReserved, h]

@[simp] theorem ReservedCounts.count_withCount_self (r : ReservedCounts) (k : ReservedKind) (n : Nat) :
    (r.withCount k n).count k = n := by cases k <;> rfl

theorem ReservedCounts.count_withCount_other (r : ReservedCounts) {j k : ReservedKind} (h : j ≠ k) (n : Nat) :
    (r.withCount k n).count j = r.count j := by cases j <;> cases k <;> first | rfl | exact absurd rfl h

/-- Changing one count changes the total by as much. -/
theorem ReservedCounts.total_withCount (r : ReservedCounts) (k : ReservedKind) (n : Nat) :
    (r.withCount k n).total + r.count k = r.total + n := by
  cases k <;> simp only [ReservedCounts.withCount, ReservedCounts.total, ReservedCounts.count] <;> omega

/-- Taking a reservation occupies one entry more. -/
theorem State.occupied_reserve (s : State) (k : ReservedKind) : (s.reserve k).occupied = s.occupied + 1 := by
  have := ReservedCounts.total_withCount s.reserved k (s.reserved.count k + 1)
  simp only [State.occupied, State.reserve]
  omega

/-- An unreserved notice never brings the queue above its entries. -/
theorem State.occupied_queueUnreserved (s : State) (n : Notice) (h : s.occupied ≤ Config.noticeEntries) :
    (s.queueUnreserved n).occupied ≤ Config.noticeEntries := by
  rcases s.queueUnreserved_cases n with ⟨hlt, he⟩ | ⟨-, he⟩ <;> rw [he]
  · simp only [State.occupied, List.length_append, List.length_singleton] at *
    omega
  · exact h

/-- Nor does a reserved one. -/
theorem State.occupied_queueReserved (s : State) (k : ReservedKind) (n : Notice)
    (h : s.occupied ≤ Config.noticeEntries) : (s.queueReserved k n).occupied ≤ Config.noticeEntries := by
  by_cases hk : s.reserved.count k = 0
  · simpa [State.queueReserved, hk] using s.occupied_queueUnreserved n h
  · rw [s.queueReserved_reserved k n hk]
    have := ReservedCounts.total_withCount s.reserved k (s.reserved.count k - 1)
    simp only [State.occupied, List.length_append, List.length_singleton] at *
    omega

/-! ## Looks -/

/-- A look changes nothing but the list of lanes to look at. -/
theorem State.lookAt_eq (s : State) (l : LaneId) : ∃ ls, s.lookAt l = { s with looks := ls } := by
  unfold State.lookAt
  split
  · exact ⟨s.looks, rfl⟩
  · exact ⟨_, rfl⟩

theorem State.lookAtCircuit_eq (s : State) (c : Nat) : ∃ ls, s.lookAtCircuit c = { s with looks := ls } := by
  unfold State.lookAtCircuit
  split
  · exact s.lookAt_eq _
  · exact ⟨s.looks, rfl⟩

/-- A fold of operations that change nothing but `looks` changes nothing but `looks`. -/
theorem State.foldl_looks {β : Type} (f : State → β → State) (hf : ∀ s b, ∃ ls, f s b = { s with looks := ls })
    (bs : List β) (s : State) : ∃ ls, bs.foldl f s = { s with looks := ls } := by
  induction bs generalizing s with
  | nil => exact ⟨s.looks, rfl⟩
  | cons b bs ih =>
    obtain ⟨ls, h⟩ := hf s b
    obtain ⟨ls', h'⟩ := ih (f s b)
    exact ⟨ls', by rw [List.foldl_cons, h', h]⟩

theorem State.lookAtAll_eq (s : State) : ∃ ls, s.lookAtAll = { s with looks := ls } :=
  State.foldl_looks _ State.lookAt_eq _ s

theorem State.lookAtWaiting_eq (s : State) : ∃ ls, s.lookAtWaiting = { s with looks := ls } :=
  State.foldl_looks (fun s (e : QueueEntry) => s.lookAtCircuit e.circuit) (fun s e => s.lookAtCircuit_eq e.circuit) _ s

/-- Returning a reservation changes nothing but that count and the lanes to look at. -/
theorem State.returnReservation_eq (s : State) (k : ReservedKind) :
    ∃ ls, s.returnReservation k =
      { s with reserved := s.reserved.withCount k (s.reserved.count k - 1), looks := ls } := by
  unfold State.returnReservation
  exact State.lookAtWaiting_eq _

/-! ## Replies -/

/-- A finished reply is placed where the list has room. -/
theorem State.answer_room (s : State) (tag code : U8) (status : Status) (body : ReplyBody)
    (h : s.replies.length < Config.replyEntries) :
    s.answer tag code status body =
      { s with
        freeCount := if body.isLong then s.freeCount + 1 else s.freeCount
        replies := s.replies ++ [⟨tag, code, status, body, body.partsAt s.freeCount⟩]
        processor := .free } := by
  simp [State.answer, State.placeReply, h]

/-- Every reply but the three long ones is a single frame (R189). -/
theorem ReplyBody.partsAt_short (b : ReplyBody) (n : Nat) (h : b.isLong = false) : b.partsAt n = [] := by
  simp [ReplyBody.partsAt, h]

/-- A division has as many parts as it names. -/
theorem dividedBy_length (ns : List Nat) (pieces : List (List U8)) : (dividedBy ns pieces).length = ns.length := by
  induction ns generalizing pieces with
  | nil => rfl
  | cons n ns ih => simp [dividedBy, ih]

/-- The parts of a division that takes every piece hold the contents in order (R189). -/
theorem dividedBy_flatten (ns : List Nat) (pieces : List (List U8)) (h : pieces.length ≤ ns.sum) :
    (dividedBy ns pieces).flatten = pieces.flatten := by
  induction ns generalizing pieces with
  | nil => simp_all [dividedBy]
  | cons n ns ih =>
    rw [dividedBy, List.flatten_cons, ih _ (by simp at h ⊢; omega), ← List.flatten_append, List.take_append_drop]

/-- The packed division takes every piece, with those already in hand. -/
theorem packed_sum (pieces : List (List U8)) (count size : Nat) :
    (packed pieces count size).sum = count + pieces.length := by
  induction pieces generalizing count size with
  | nil => simp [packed]
  | cons p ps ih =>
    unfold packed
    split <;> simp [ih] <;> omega

end Sys2Proof.Machine
end

