-- ==== Sys2Proof/WellFormed.lean ====
section
/-! DEFINITION. The commands that the serial line can spell: the lists of a request fit its count field, and an unknown
request's code names none of the thirty requests. Every other operand is in range by its type. -/

namespace Sys2Proof

/-- A span list announced by a count of 1–12 (12.2), or none. -/
def DefineFields.wellFormed (f : DefineFields) : Bool := f.spans.length ≤ 12

/-- A span list announced by a count of one byte (12.9). -/
def OpenFields.wellFormed (f : OpenFields) : Bool := f.spans.length ≤ 255

/-- The ids announced by the count, with the list option and a count of 1–512, and none otherwise (12.3). -/
def StartFields.wellFormed (f : StartFields) : Bool :=
  f.ids.length == (if f.option = 0 ∧ 1 ≤ f.count.toNat ∧ f.count.toNat ≤ 512 then f.count.toNat else 0)

/-- The lines announced by a count of 1–16 (12.9), or none. -/
def clearLinesWellFormed (lines : List U8) : Bool := lines.length ≤ 16

/-- A check on the fields of a payload that has them. -/
def Payload.all {α : Type} (check : α → Bool) : Payload α → Bool
  | .short => true
  | .fields f => check f

/-- What the serial line can spell. -/
def Instr.wellFormed : Instr → Bool
  | .defineCircuit _ p => p.all DefineFields.wellFormed
  | .openWindow _ p => p.all OpenFields.wellFormed
  | .startCapture _ p => p.all StartFields.wellFormed
  | .clearSense _ p => p.all clearLinesWellFormed
  | .unknownRequest _ code => !requestCodes.contains code
  | .identify _ | .setTime _ _ | .restart _ | .setProfile _ _ | .getProfile _ | .getLanes _ | .recalibrate _ _
  | .deleteCircuit _ _ | .clearBaseline _ _ | .getCircuit _ _ | .probeNow _ _ | .getQueue _ | .extendWindow _ _
  | .closeWindow _ _ | .abortWindow _ _ | .getWindows _ | .permit _ | .withdrawPermit _ | .suspendCapture _
  | .resumeCapture _ | .cancelCapture _ | .getCapture _ | .setProtection _ _ | .getProtection _ | .setSense _ _
  | .getSense _ | .frameReceived | .framingError | .receiveGapTimeout | .frameSent | .secondsTick | .windowExpiry
  | .calibrationDue _ | .settled _ | .sample _ _ | .burstResult _ | .tuneTimeout _ | .burstGapTimeout _ | .parkEnd _
  | .senseInputTransition _ _ | .refLockChange _ | .storeWriteDone _ _ | .powerOn | .powerFail _ | .resetAsserted _
  | .resetReleased | .startUpScanDone | .restartBegins | .byteReceived _ | .rateStrapChange _ => true

end Sys2Proof
end

