-- ==== Sys2Proof/Laws/PerInstr.lean ====
section
/-! SUPPORT. Per command: a well-formed request's code is one of the thirty codes of 12.1 exactly where it is not an
unknown request (R180, step 1). An event is no request. -/

namespace Sys2Proof.Laws

open Sys2Proof.Machine

/-- The request that the command is, if it is one, names one of the thirty requests by its code, or is unknown. -/
def RequestCode.Statement (i : Instr) : Prop :=
  ∀ q, asRequest i = some q → i.wellFormed = true →
    (q.request.code ∈ requestCodes ↔ ∀ code, q.request ≠ .unknown code)

/-- A request that is not unknown and whose code is one of the thirty. -/
theorem RequestCode.known {tag : U8} {r : Request} {q : QueuedRequest}
    (h : some (⟨tag, r⟩ : QueuedRequest) = some q) (hn : ∀ code, r ≠ .unknown code) (hc : r.code ∈ requestCodes) :
    q.request.code ∈ requestCodes ↔ ∀ code, q.request ≠ .unknown code := by
  cases h
  exact ⟨fun _ => hn, fun _ => hc⟩

theorem RequestCode.identify (tag : U8) : RequestCode.Statement (.identify tag) :=
  fun _ h _ => RequestCode.known h nofun (by decide : (0x01 : U8) ∈ requestCodes)

theorem RequestCode.setTime (tag : U8) (p : Payload U32) : RequestCode.Statement (.setTime tag p) :=
  fun _ h _ => RequestCode.known h nofun (by decide : (0x02 : U8) ∈ requestCodes)

theorem RequestCode.restart (tag : U8) : RequestCode.Statement (.restart tag) :=
  fun _ h _ => RequestCode.known h nofun (by decide : (0x03 : U8) ∈ requestCodes)

theorem RequestCode.setProfile (tag : U8) (p : Payload SetProfileFields) :
    RequestCode.Statement (.setProfile tag p) :=
  fun _ h _ => RequestCode.known h nofun (by decide : (0x10 : U8) ∈ requestCodes)

theorem RequestCode.getProfile (tag : U8) : RequestCode.Statement (.getProfile tag) :=
  fun _ h _ => RequestCode.known h nofun (by decide : (0x11 : U8) ∈ requestCodes)

theorem RequestCode.getLanes (tag : U8) : RequestCode.Statement (.getLanes tag) :=
  fun _ h _ => RequestCode.known h nofun (by decide : (0x12 : U8) ∈ requestCodes)

theorem RequestCode.recalibrate (tag : U8) (p : Payload U8) : RequestCode.Statement (.recalibrate tag p) :=
  fun _ h _ => RequestCode.known h nofun (by decide : (0x13 : U8) ∈ requestCodes)

theorem RequestCode.defineCircuit (tag : U8) (p : Payload DefineFields) :
    RequestCode.Statement (.defineCircuit tag p) :=
  fun _ h _ => RequestCode.known h nofun (by decide : (0x20 : U8) ∈ requestCodes)

theorem RequestCode.deleteCircuit (tag : U8) (p : Payload U16) : RequestCode.Statement (.deleteCircuit tag p) :=
  fun _ h _ => RequestCode.known h nofun (by decide : (0x21 : U8) ∈ requestCodes)

theorem RequestCode.clearBaseline (tag : U8) (p : Payload U16) : RequestCode.Statement (.clearBaseline tag p) :=
  fun _ h _ => RequestCode.known h nofun (by decide : (0x22 : U8) ∈ requestCodes)

theorem RequestCode.getCircuit (tag : U8) (p : Payload U16) : RequestCode.Statement (.getCircuit tag p) :=
  fun _ h _ => RequestCode.known h nofun (by decide : (0x23 : U8) ∈ requestCodes)

theorem RequestCode.probeNow (tag : U8) (p : Payload U16) : RequestCode.Statement (.probeNow tag p) :=
  fun _ h _ => RequestCode.known h nofun (by decide : (0x24 : U8) ∈ requestCodes)

theorem RequestCode.getQueue (tag : U8) : RequestCode.Statement (.getQueue tag) :=
  fun _ h _ => RequestCode.known h nofun (by decide : (0x25 : U8) ∈ requestCodes)

theorem RequestCode.openWindow (tag : U8) (p : Payload OpenFields) : RequestCode.Statement (.openWindow tag p) :=
  fun _ h _ => RequestCode.known h nofun (by decide : (0x30 : U8) ∈ requestCodes)

theorem RequestCode.extendWindow (tag : U8) (p : Payload ExtendFields) :
    RequestCode.Statement (.extendWindow tag p) :=
  fun _ h _ => RequestCode.known h nofun (by decide : (0x31 : U8) ∈ requestCodes)

theorem RequestCode.closeWindow (tag : U8) (p : Payload U16) : RequestCode.Statement (.closeWindow tag p) :=
  fun _ h _ => RequestCode.known h nofun (by decide : (0x32 : U8) ∈ requestCodes)

theorem RequestCode.abortWindow (tag : U8) (p : Payload U16) : RequestCode.Statement (.abortWindow tag p) :=
  fun _ h _ => RequestCode.known h nofun (by decide : (0x33 : U8) ∈ requestCodes)

theorem RequestCode.getWindows (tag : U8) : RequestCode.Statement (.getWindows tag) :=
  fun _ h _ => RequestCode.known h nofun (by decide : (0x34 : U8) ∈ requestCodes)

theorem RequestCode.permit (tag : U8) : RequestCode.Statement (.permit tag) :=
  fun _ h _ => RequestCode.known h nofun (by decide : (0x40 : U8) ∈ requestCodes)

theorem RequestCode.withdrawPermit (tag : U8) : RequestCode.Statement (.withdrawPermit tag) :=
  fun _ h _ => RequestCode.known h nofun (by decide : (0x41 : U8) ∈ requestCodes)

theorem RequestCode.startCapture (tag : U8) (p : Payload StartFields) : RequestCode.Statement (.startCapture tag p) :=
  fun _ h _ => RequestCode.known h nofun (by decide : (0x42 : U8) ∈ requestCodes)

theorem RequestCode.suspendCapture (tag : U8) : RequestCode.Statement (.suspendCapture tag) :=
  fun _ h _ => RequestCode.known h nofun (by decide : (0x43 : U8) ∈ requestCodes)

theorem RequestCode.resumeCapture (tag : U8) : RequestCode.Statement (.resumeCapture tag) :=
  fun _ h _ => RequestCode.known h nofun (by decide : (0x44 : U8) ∈ requestCodes)

theorem RequestCode.cancelCapture (tag : U8) : RequestCode.Statement (.cancelCapture tag) :=
  fun _ h _ => RequestCode.known h nofun (by decide : (0x45 : U8) ∈ requestCodes)

theorem RequestCode.getCapture (tag : U8) : RequestCode.Statement (.getCapture tag) :=
  fun _ h _ => RequestCode.known h nofun (by decide : (0x46 : U8) ∈ requestCodes)

theorem RequestCode.setProtection (tag : U8) (p : Payload ProtectFields) :
    RequestCode.Statement (.setProtection tag p) :=
  fun _ h _ => RequestCode.known h nofun (by decide : (0x50 : U8) ∈ requestCodes)

theorem RequestCode.getProtection (tag : U8) : RequestCode.Statement (.getProtection tag) :=
  fun _ h _ => RequestCode.known h nofun (by decide : (0x51 : U8) ∈ requestCodes)

theorem RequestCode.setSense (tag : U8) (p : Payload SetSenseFields) : RequestCode.Statement (.setSense tag p) :=
  fun _ h _ => RequestCode.known h nofun (by decide : (0x60 : U8) ∈ requestCodes)

theorem RequestCode.clearSense (tag : U8) (p : Payload (List U8)) : RequestCode.Statement (.clearSense tag p) :=
  fun _ h _ => RequestCode.known h nofun (by decide : (0x61 : U8) ∈ requestCodes)

theorem RequestCode.getSense (tag : U8) : RequestCode.Statement (.getSense tag) :=
  fun _ h _ => RequestCode.known h nofun (by decide : (0x62 : U8) ∈ requestCodes)

theorem RequestCode.unknownRequest (tag : U8) (code : U8) : RequestCode.Statement (.unknownRequest tag code) := by
  intro q h w
  cases h
  have : ¬code ∈ requestCodes := by simpa [Instr.wellFormed] using w
  exact ⟨fun m => absurd m this, fun n => absurd rfl (n code)⟩

theorem RequestCode.frameReceived : RequestCode.Statement .frameReceived := nofun

theorem RequestCode.framingError : RequestCode.Statement .framingError := nofun

theorem RequestCode.receiveGapTimeout : RequestCode.Statement .receiveGapTimeout := nofun

theorem RequestCode.frameSent : RequestCode.Statement .frameSent := nofun

theorem RequestCode.secondsTick : RequestCode.Statement .secondsTick := nofun

theorem RequestCode.windowExpiry : RequestCode.Statement .windowExpiry := nofun

theorem RequestCode.calibrationDue (lane : LaneId) : RequestCode.Statement (.calibrationDue lane) := nofun

theorem RequestCode.settled (lane : LaneId) : RequestCode.Statement (.settled lane) := nofun

theorem RequestCode.sample (lane : LaneId) (smp : Sample) : RequestCode.Statement (.sample lane smp) := nofun

theorem RequestCode.burstResult (lane : LaneId) : RequestCode.Statement (.burstResult lane) := nofun

theorem RequestCode.tuneTimeout (lane : LaneId) : RequestCode.Statement (.tuneTimeout lane) := nofun

theorem RequestCode.burstGapTimeout (lane : LaneId) : RequestCode.Statement (.burstGapTimeout lane) := nofun

theorem RequestCode.parkEnd (lane : LaneId) : RequestCode.Statement (.parkEnd lane) := nofun

theorem RequestCode.senseInputTransition (line : LineId) (high : Bool) :
    RequestCode.Statement (.senseInputTransition line high) := nofun

theorem RequestCode.refLockChange (asserted : Bool) : RequestCode.Statement (.refLockChange asserted) := nofun

theorem RequestCode.storeWriteDone (agrees : Bool) (erased : Bool) :
    RequestCode.Statement (.storeWriteDone agrees erased) := nofun

theorem RequestCode.powerOn : RequestCode.Statement .powerOn := nofun

theorem RequestCode.powerFail (erased : Bool) : RequestCode.Statement (.powerFail erased) := nofun

theorem RequestCode.resetAsserted (erased : Bool) : RequestCode.Statement (.resetAsserted erased) := nofun

theorem RequestCode.resetReleased : RequestCode.Statement .resetReleased := nofun

theorem RequestCode.startUpScanDone : RequestCode.Statement .startUpScanDone := nofun

theorem RequestCode.restartBegins : RequestCode.Statement .restartBegins := nofun

theorem RequestCode.byteReceived (byte : U8) : RequestCode.Statement (.byteReceived byte) := nofun

theorem RequestCode.rateStrapChange (high : Bool) : RequestCode.Statement (.rateStrapChange high) := nofun

end Sys2Proof.Laws
end

