-- ==== Sys2Proof/Laws/Run.lean ====
section
/-! SUPPORT. How a command runs on a calm part: nothing is due, and the end of the command finds nothing more to do. -/

namespace Sys2Proof.Machine

/-! ## What calm and ready say -/

/-- The parts of `State.calm`. -/
theorem State.calm_iff (s : State) :
    s.calm = true ↔ s.phase = .running ∧ s.restartTaken = false ∧ s.restartReplySent = false ∧ s.requestQueue = [] ∧
      s.completeFrame = none ∧ s.expiryDue = false ∧ (∀ l, s.startsRun l = false) ∧ s.atRest = true ∧
      (s.transmitter ≠ .idle ∨ (s.replies = [] ∧ s.notices = [])) := by
  simp only [State.calm, allLanes, Bool.and_eq_true, beq_iff_eq, Bool.not_eq_true', List.isEmpty_iff, Option.isNone_iff_eq_none,
    List.all_eq_true, List.mem_finRange, forall_const, Bool.or_eq_true, bne_iff_ne, and_assoc]

/-- The parts of `State.atRest`. -/
theorem State.atRest_iff (s : State) : s.atRest = true ↔ s.looks = [] ∧ ∀ l, (s.lane l).tunedAtEnd = false := by
  simp [State.atRest, allLanes, List.all_eq_true]

/-- The parts of `State.ready`. -/
theorem State.ready_iff (s : State) :
    s.ready = true ↔ s.calm = true ∧ s.processor = .free ∧ s.replies.length < Config.replyEntries := by
  simp [State.ready, and_assoc]

/-! ## The arbiter with nothing to look at -/

theorem State.offerQueue_none (q : List QueueEntry) (acc : State × List LaneId) :
    q.foldl (State.offerEntry []) acc = acc := by
  induction q generalizing acc with
  | nil => rfl
  | cons e q ih =>
    rw [List.foldl_cons]
    have : State.offerEntry [] acc e = acc := by
      unfold State.offerEntry
      obtain ⟨t, done⟩ := acc
      cases h : t.laneOf e.circuit <;> cases h' : t.channelOf e.circuit <;> simp [h, h']
    rw [this, ih]

theorem State.parkIfIdle_none (ls : List LaneId) (s : State) (h : ∀ l, (s.lane l).tunedAtEnd = false) :
    ls.foldl State.parkIfIdle s = s := by
  induction ls with
  | nil => rfl
  | cons l ls ih => rw [List.foldl_cons, State.parkIfIdle, h l]; simpa using ih

/-- At rest the arbiter changes nothing. -/
theorem State.arbitrate_atRest (s : State) (h : s.atRest = true) : s.arbitrate = s := by
  obtain ⟨hl, ht⟩ := s.atRest_iff.mp h
  have hq : s.offerQueue = s := by simp [State.offerQueue, hl, State.offerQueue_none]
  have hc : s.offerCaptures = s := by simp [State.offerCaptures, State.lookedAt, hl, List.filter_eq_nil_iff.mpr]
  have hp : s.parkIdle = s := State.parkIfIdle_none _ s ht
  rw [State.arbitrate, hq, hc, hp, ← hl]

/-! ## The end of a command -/

theorem State.takeRequests_none (s : State) (h : s.requestQueue = []) : s.takeRequests = s := by
  simp [State.takeRequests, h, State.pump]

/-- The transmitter takes nothing while it is busy, or with nothing to send. -/
theorem State.transmit_quiet (s : State) (h : s.transmitter ≠ .idle ∨ (s.replies = [] ∧ s.notices = [])) :
    s.transmit = s := by
  unfold State.transmit
  split
  · rename_i hi
    rcases h with h | ⟨hr, hn⟩
    · exact absurd hi.1 h
    · simp [hr, hn]
  · rfl

/-- A calm part has nothing to settle. -/
theorem State.settle_calm (s : State) (h : s.calm = true) : s.settle = s := by
  obtain ⟨-, -, -, hq, -, -, -, hr, ht⟩ := s.calm_iff.mp h
  rw [State.settle, s.arbitrate_atRest hr, s.takeRequests_none hq, s.transmit_quiet ht]

/-- A calm part has no step due. -/
theorem State.takeDue_calm (s : State) (h : s.calm = true) : s.takeDue = s := by
  obtain ⟨hp, hr, -, -, hf, he, hs, -, -⟩ := s.calm_iff.mp h
  have hc : ∀ ls : List LaneId, ls.foldl State.calibrate s = s := by
    intro ls
    induction ls with
    | nil => rfl
    | cons l ls ih =>
      rw [List.foldl_cons]
      simpa [State.calibrate, State.calibrationIsDue, hs l] using ih
  simp [State.takeDue, State.restartDue, State.alive, hp, hr, State.judge, hf, State.expire, he, hc]

/-- A calm part is alive. -/
theorem State.alive_calm (s : State) (h : s.calm = true) : s.alive = true := by
  simp [State.alive, (s.calm_iff.mp h).1]

/-- An event of a calm part has its own effect and the end that every command shares. -/
theorem State.whenAlive_calm (s : State) (h : s.calm = true) (f : State → State) : s.whenAlive f = (f s).settle := by
  simp [State.whenAlive, s.takeDue_calm h, s.alive_calm h]

/-- An event that leaves a calm part calm ends with its own effect. -/
theorem State.whenAlive_calm_calm (s : State) (f : State → State) (h : s.calm = true) (hf : (f s).calm = true) :
    s.whenAlive f = f s := by rw [s.whenAlive_calm h, (f s).settle_calm hf]

/-! ## Requests -/

/-- The processor takes the one request of the queue when it may. -/
theorem State.takeRequests_one (s : State) (q : QueuedRequest) (hq : s.requestQueue = [q]) (ht : s.takesRequests = true) :
    s.takeRequests = (State.handleRequest { s with requestQueue := [] } q.tag q.request).arbitrate := by
  simp [State.takeRequests, hq, State.pump, ht]

/-- A request that reaches a ready part is handled as it arrives. -/
theorem State.arrive_ready (s : State) (h : s.ready = true) (tag : U8) (r : Request) :
    s.arrive tag r = .next (s.handleRequest tag r).arbitrate.transmit := by
  obtain ⟨hc, hp, -⟩ := s.ready_iff.mp h
  obtain ⟨hphase, hrt, -, hq, -, -, -, hrest, -⟩ := s.calm_iff.mp hc
  have hs : { s with requestQueue := [] } = s := by rw [← hq]
  have ho : s.offerRequest ⟨tag, r⟩ = { s with requestQueue := [⟨tag, r⟩] } := by simp [State.offerRequest, hq, Config.requestEntries]
  have harb : State.arbitrate { s with requestQueue := [⟨tag, r⟩] } = { s with requestQueue := [⟨tag, r⟩] } :=
    State.arbitrate_atRest _ (by simpa [State.atRest, State.lane] using hrest)
  have ht : State.takesRequests { s with requestQueue := [⟨tag, r⟩] } = true := by simp [State.takesRequests, hphase, hp, hrt]
  rw [State.arrive, s.whenAlive_calm hc, ho, State.settle, harb, State.takeRequests_one _ ⟨tag, r⟩ rfl ht]
  exact congrArg (fun t : State => Host.Outcome.next (t.handleRequest tag r).arbitrate.transmit) hs

/-- A request whose handling only places its reply and leaves the part at rest ends with that reply placed. -/
theorem State.answer_withReply (s : State) (tag code : U8) (status : Status) (body : ReplyBody)
    (hr : s.atRest = true) (hroom : s.replies.length < Config.replyEntries) (hp : s.processor = .free)
    (ha : s.alive = true) (hsent : s.restartReplySent = false) (hlong : body.isLong = false)
    (hq : s.transmitter ≠ .idle ∨ s.replies = []) :
    (s.answer tag code status body).arbitrate.transmit = s.withReply ⟨tag, code, status, body, []⟩ := by
  have hfree : { s with processor := Processor.free } = s := by rw [← hp]
  rw [s.answer_room tag code status body hroom, State.arbitrate_atRest _ (by simpa [State.atRest, State.lane] using hr)]
  simp only [hlong, body.partsAt_short _ hlong, Bool.false_eq_true, ↓reduceIte, State.withReply, ← hp]
  unfold State.transmit
  by_cases ht : s.transmitter = .idle
  · have hnil : s.replies = [] := hq.resolve_left (not_not_intro ht)
    have ha' : s.phase = .scanning ∨ s.phase = .running := by simpa [State.alive] using ha
    simpa [State.alive, ht, hnil, hsent, Decidable.or_iff_not_imp_left] using ha'
  · simp [ht]

end Sys2Proof.Machine
end

