-- ==== Sys2Proof/Tests/Slice0.lean ====
section
/-! SUPPORT. Tests: the well-formedness checks refuse ill-formed terms, the spec's worked values, one step of commands on small
states, and for every statement with hypotheses a state and operands that meet them. Expected values are the spec's. -/

namespace Sys2Proof.Tests

set_option Elab.async false
set_option linter.unusedVariables false

open Sys2Proof Sys2Proof.Machine

/-! ## Small states -/

/-- A lane in its reference run: not ready for work. -/
def busyLane : Lane := { state := .calibrating, work := .referenceRun, calRequested := false, calStep := some .tune }

/-- A lane at rest, not due. -/
def restLane : Lane := { calRequested := false }

/-- A running part between commands, every lane in its reference run. -/
def base : State := { State.reset with phase := .running, lanes := Vector.replicate 8 busyLane }

/-- Nothing protected and the permit set. -/
def open0 : State := { base with region := { n := 0 }, permit := true }

/-- The transmitter is busy. -/
def sending : State := { base with transmitter := .reply 0 }

/-- A definition on lane 0, channel 5, code 9, span 1. -/
def wire : Definition := ⟨0, 5, 9, [1], {}⟩

/-- A circuit with that definition. -/
def circ (st : CircuitState) : Circuit := { state := st, definition := some wire }

/-- Circuit 512 with that definition, in both indexes. -/
def crossed (st : CircuitState) (holds : Nat) : State :=
  { base with
    circuits := [(512, { circ st with holds := holds })], codeMap := [(9, 512)], spanIndex := [(1, [512])] }

/-- A window over span 1. -/
def window (id remaining : Nat) : Window := ⟨id, [1], remaining, 0, [], false⟩

/-- A balanced closure record. -/
def account (id outstanding : Nat) : Closure := ⟨id, .closed, 0, 0, outstanding, outstanding, 0, {}, 0, [], false⟩

/-- A burst of eight equal samples with code 9. -/
def burst (p : Purpose) (count : Nat) : HandedBurst :=
  ⟨p, List.replicate 8 ⟨BitVec.ofNat 16 count, 9, 2000⟩, 24, 0, 0, false⟩

/-- A capture of circuit 512 with n bursts to keep. -/
def captureOf (n : Nat) : CaptureWork := ⟨512, 8, n, 60, []⟩

/-- The outcome is a next state with the property. -/
def gives (o : Host.Outcome State Fault Refusal) (p : State → Bool) : Bool :=
  match o with
  | .next t => p t
  | .fault _ | .refused _ => false

theorem crossed_codesExact (st : CircuitState) (holds : Nat) : (crossed st holds).codesExact := by
  intro code c
  by_cases h : 512 = c <;> by_cases k : 9 = code <;>
    simp [crossed, State.codeOwner, State.circuit, tableRead, tableGet, circ, wire, h, k]

theorem crossed_spansExact (st : CircuitState) (holds : Nat) : (crossed st holds).spansExact := by
  intro p c
  by_cases h : 512 = c <;> by_cases k : 1 = p <;>
    simp [crossed, State.crossing, State.circuit, tableRead, tableGet, circ, wire, h, k, Ne.symm]

/-- `crossed` with a tick of the clock waiting. -/
def ticking : State := { crossed .idle 0 with pending := [.secondsTick] }

theorem ticking_circuit (c : Nat) : ticking.circuit c = if 512 = c then circ .idle else {} := by
  by_cases h : 512 = c <;> simp [ticking, crossed, State.circuit, tableRead, tableGet, circ, h]

theorem ticking_lane (l : LaneId) : ticking.lane l = busyLane := by simp [ticking, crossed, base, State.lane]

/-- The records of `ticking` agree. -/
theorem ticking_agreed : ticking.Agreed where
  canonical := by decide
  codes := crossed_codesExact _ _
  spans := crossed_spansExact _ _
  ascending := by decide
  checked := by decide
  holds := by
    intro c
    rw [ticking_circuit]
    by_cases h : 512 = c <;> simp [h, circ, State.windowsOver, ticking, crossed, base, State.reset]
  queue := by
    intro c
    rw [ticking_circuit]
    by_cases h : 512 = c <;> simp [h, circ, ticking, crossed, base, State.reset]
  states := by
    intro c
    rw [ticking_circuit]
    by_cases h : 512 = c <;> simp [h, circ]
  defined := by
    intro c
    rw [ticking_circuit]
    by_cases h : 512 = c <;> simp [h, circ, Circuit.defined]
  grants := by
    intro l
    simp [State.grantAgrees, ticking_lane, busyLane]
  captures := by
    intro l
    simp [State.captureAgrees, ticking_lane, busyLane]
  probing := by
    intro c
    rw [ticking_circuit]
    by_cases h : 512 = c <;> simp [h, circ]
  entries := by
    refine ⟨by decide, fun c => ?_, by simp [ticking, crossed, base, State.reset]⟩
    rw [ticking_circuit]
    by_cases h : 512 = c <;> simp [h, circ, State.entryIs, Campaign.entryFor, ticking, crossed, base, State.reset]
  commits := by
    refine ⟨fun c => ?_, by simp [ticking, crossed, base, State.reset], by decide⟩
    simp [State.committing, State.entryIs, Campaign.entryFor, ticking, crossed, base, State.reset]
  job := trivial
  ids := by unfold State.windowIdsDistinct; decide
  reservations := by unfold State.reservationsOwned; decide
  outside := .inl rfl

/-! ## Ill-formed terms -/

theorem test_illFormed_defineCircuit :
    (Instr.defineCircuit 1 (.fields ⟨1, 0, 1, 1, 0, 0, 0, 0, List.replicate 13 1⟩)).wellFormed = false := by decide
theorem test_illFormed_openWindow :
    (Instr.openWindow 1 (.fields ⟨1, 60, List.replicate 256 1⟩)).wellFormed = false := by decide +kernel
theorem test_illFormed_startCapture : (Instr.startCapture 1 (.fields ⟨0, 2, [1]⟩)).wellFormed = false := by decide
theorem test_illFormed_clearSense :
    (Instr.clearSense 1 (.fields (List.replicate 17 0))).wellFormed = false := by decide
theorem test_illFormed_unknownRequest : (Instr.unknownRequest 1 0x62).wellFormed = false := by decide
theorem test_wellFormed_startCapture : (Instr.startCapture 1 (.fields ⟨0, 2, [1, 512]⟩)).wellFormed = true := by decide

/-! ## Frames and payloads (11.2, 12) -/

/-- The check value of the CRC of R176 over the digits 1 to 9. -/
theorem test_crc_check_value : crc16 [0x31, 0x32, 0x33, 0x34, 0x35, 0x36, 0x37, 0x38, 0x39] = 0x29B1 := by decide +kernel
/-- IDENTIFY with tag 7: length 3, class 1, code 1, check 0x8B38 worked by hand from R176. -/
theorem test_identify_frame : judgeFrame [3, 0, 1, 1, 7, 0x38, 0x8B] = some ⟨7, .identify⟩ := by decide +kernel
/-- A frame of class reply is discarded (R178). -/
theorem test_reply_class_discarded : judgeFrame ([3, 0, 2, 1, 7] ++ [0x58, 0x09]) = none := by decide +kernel
/-- A u32 is sent least significant byte first (R188). -/
theorem test_setTime_payload : requestOf 0x02 [0x78, 0x56, 0x34, 0x12] = .setTime (.fields 0x12345678) := by decide
/-- Three bytes are too few (R180). -/
theorem test_setTime_short : requestOf 0x02 [0x78, 0x56, 0x34] = .setTime .short := by decide
/-- Two ids in a group of three bytes, the low 12 bits first (12.3): 1 and 512 are 0x200001. -/
theorem test_startCapture_packed :
    requestOf 0x42 [0, 2, 0, 0x01, 0x00, 0x20] = .startCapture (.fields ⟨0, 2, [1, 512]⟩) := by decide
/-- 12.9: OPEN_WINDOW 258 for 60 s over spans 256 and 1. -/
theorem test_openWindow_payload :
    requestOf 0x30 [2, 1, 60, 0, 0, 0, 2, 0, 1, 1, 0] = .openWindow (.fields ⟨258, 60, [256, 1]⟩) := by decide
/-- 12.2: circuit 300, lane 3, channel 41, code 217, no override, span 40. -/
theorem test_defineCircuit_payload :
    requestOf 0x20 [0x2C, 0x01, 3, 41, 217, 0, 0, 0, 0, 0, 0, 0, 0, 0, 0, 1, 40, 0] =
      .defineCircuit (.fields ⟨300, 3, 41, 217, 0, 0, 0, 0, [40]⟩) := by decide
/-- A span count of 13 is not looked past (R188), and is then refused. -/
theorem test_defineCircuit_count :
    requestOf 0x20 [1, 0, 3, 41, 217, 0, 0, 0, 0, 0, 0, 0, 0, 0, 0, 13] =
      .defineCircuit (.fields ⟨1, 3, 41, 217, 0, 0, 0, 0, []⟩) := by decide

/-- 12.6: GET_PROFILE's reply carries the profile in force once and the pending one once more, least significant byte
first; its code goes before them (R181), and it has no part byte (R189). -/
theorem test_getProfile_payload :
    Reply.payload ⟨1, 0x11, .ok, .profiles {} (some { burstLength := 8, rise := 515 }), []⟩ 0 =
      [0x11, 16, 2, 0, 4, 10, 24, 0, 150, 0, 0x2C, 0x01, 60, 0, 0xF4, 0x01, 0, 0,
        8, 2, 0, 4, 10, 24, 0, 0x03, 0x02, 0x2C, 0x01, 60, 0, 0xF4, 0x01, 0, 0] := by decide
/-- R189: the part byte counts from 0 and marks the last part in bit 7. -/
theorem test_part_byte : partByte 2 false = 0x02 ∧ partByte 3 true = 0x83 := by decide
/-- R189, 12.7: 1016 bytes hold 72 entries of 14 bytes and no part of a 73rd. -/
theorem test_packed_entries : packed (List.replicate 145 (List.replicate 14 0)) 0 0 = [72, 72, 1] := by decide +kernel

/-! ## The worked cases of 5.8 -/

/-- Eight samples of circuit 37, code 217. -/
def worked : List Sample :=
  [⟨1200, 217, 414436⟩, ⟨1180, 217, 414442⟩, ⟨1210, 217, 414439⟩, ⟨1195, 217, 414445⟩, ⟨1205, 217, 414438⟩,
    ⟨1190, 217, 414441⟩, ⟨1220, 217, 414440⟩, ⟨1185, 217, 414439⟩]
/-- The weak and mixed burst. -/
def mixed : List Sample :=
  [⟨40, 305, 300100⟩, ⟨38, 217, 300900⟩, ⟨18, 305, 300120⟩, ⟨41, 305, 300090⟩, ⟨39, 217, 300880⟩, ⟨5, 0, 0⟩,
    ⟨37, 512, 301500⟩, ⟨36, 512, 301520⟩]

theorem test_worked_burst : reduce 24 worked = ⟨1198, false, some ⟨217, 8, 414440, 3057⟩⟩ := by decide
theorem test_mixed_burst : reduce 24 mixed = ⟨32, false, some ⟨217, 2, 300890, 1505⟩⟩ := by decide
theorem test_worked_attempt :
    let a :=
      classify {} ⟨3, 41, 217, [40], {}⟩ (some ⟨3210, 412300, 0, 1, 3, 41, 217⟩) ⟨.attempt, worked, 24, 42, 1830, false⟩
    a.cls = .pass ∧ a.level = some 3099 ∧ a.delay = some 412610 ∧ a.deltaLevel = some 111 ∧ a.deltaDelay = some 310 := by
  decide
/-- Eight samples with a mean of 905 and D = 412,420: a rise of 229. -/
theorem test_worked_lossShift :
    let a :=
      classify {} ⟨3, 41, 217, [40], {}⟩ (some ⟨3210, 412300, 0, 1, 3, 41, 217⟩)
        ⟨.attempt, List.replicate 8 ⟨905, 217, 414250⟩, 24, 42, 1830, false⟩
    a.cls = .lossShift ∧ a.level = some 2981 ∧ a.deltaLevel = some 229 ∧ a.deltaDelay = some 120 := by decide
theorem test_worked_reference :
    judgeReference ⟨.reference, List.replicate 64 ⟨940, 0, 1830⟩, 24, 0, 0, true⟩ = ⟨.success, 42, 1830⟩ := by decide +kernel
theorem test_worked_capture :
    spreadOf [3205, 3221, 3198, 3214] = 23 ∧ meanLevel [3205, 3221, 3198, 3214] = 3210 ∧
      meanDelay [412298, 412305, 412301, 412296] = 412300 := by decide
/-- R94: one sample at 65535 among eight, the rest 0. -/
theorem test_clipped_mean :
    meanCount (⟨65535, 0, 0⟩ :: List.replicate 7 ⟨0, 0, 0⟩) = 8192 ∧ isClipped [⟨65535, 0, 0⟩] = true := by decide

/-! ## One step -/

theorem test_startUp_announces :
    gives (exec .startUpScanDone State.reset) fun t =>
      t.transmitter == .notice (.restarted .cold 0 0 0 true false) false && (t.lane 7).state == .calibrating := by decide +kernel
theorem test_setTime :
    gives (exec (.setTime 3 (.fields 100)) { base with clock := 40 }) fun t =>
      t.clock == 100 && t.replies == [⟨3, 2, .ok, .clock 40 100, []⟩] := by decide
theorem test_tick_wraps : gives (exec .secondsTick { base with clock := 4294967295 }) fun t => t.clock == 0 := by decide
/-- R26: a duration of 30 s is clamped to 60, and the circuit is held. -/
theorem test_openWindow_clamps :
    gives (exec (.openWindow 1 (.fields ⟨5, 30, [1]⟩)) (crossed .idle 0)) fun t =>
      t.replies == [⟨1, 0x30, .adjusted, .windowOpened 60 1 1, []⟩] && (t.circuit 512).state == .held := by decide
/-- R29: the remaining seconds stop at 86,400. -/
theorem test_extendWindow_caps :
    gives (exec (.extendWindow 1 (.fields ⟨5, 86400⟩)) { base with stack := [window 5 60] }) fun t =>
      t.stack.map (·.remaining) == [86400] := by decide
/-- R31: the last hold goes, so the circuit is queued with the window's tag. -/
theorem test_closeWindow_releases :
    gives (exec (.closeWindow 1 (.fields 5))
      { crossed .held 1 with stack := [window 5 60], reserved := { summary := 1 } }) fun t =>
      t.queue == [⟨512, .windowClose, some 5, false, false⟩] && t.closures.length == 1 := by decide
/-- R34: an abort returns the circuit to IDLE without verification. -/
theorem test_abortWindow_returns :
    gives (exec (.abortWindow 1 (.fields 5))
      { crossed .held 1 with stack := [window 5 60], reserved := { summary := 1 } }) fun t =>
      (t.circuit 512).state == .idle && t.queue == [] && t.occupied == 0 := by decide
/-- R120. -/
theorem test_permit : gives (exec (.permit 1) base) fun t => t.permit := by decide
/-- R146: LOCKED at SESSION, the permit kept. -/
theorem test_setProtection_locked :
    gives (exec (.setProtection 1 (.fields ⟨0, 0, 0, 0⟩)) { open0 with overlay := true }) fun t =>
      t.permit && t.replies.map (·.status) == [.locked] := by decide
/-- R179: a ninth waiting request is answered BUSY. -/
theorem test_ninth_request_busy :
    gives (exec (.identify 9)
      { State.reset with requestQueue := List.replicate 8 ⟨1, .permit⟩, transmitter := .reply 0 }) fun t =>
      t.replies == [⟨9, 1, .busy, .none, []⟩] && t.requestQueue.length == 8 := by decide
/-- R79, R76: a tune timeout parks the lane and counts one error. -/
theorem test_tuneTimeout :
    gives (exec (.tuneTimeout 2) (base.setLane 2 { busyLane with state := .tuning })) fun t =>
      (t.lane 2).state == .parking && (t.lane 2).errorCount == 1 := by decide
/-- R75: the second error faults the lane at the end of the park. -/
theorem test_parkEnd_faults :
    gives (exec (.parkEnd 2)
      (base.setLane 2 { restLane with state := .parking, errorCount := 2, lastError := some ⟨.burstFailure, none⟩ }))
      fun t => (t.lane 2).state == .faulted && t.transmitter == .notice (.laneFault 2 .burstFailure none 0) false := by
  decide
/-- R152: an EDGE, HIGH line latches on the rise and not on the fall. -/
theorem test_sense_edge :
    gives (exec (.senseInputTransition 3 true) base) (fun t => (t.line 3).raw) &&
      gives (exec (.senseInputTransition 3 false) (base.setLine 3 { input := true })) (fun t => !(t.line 3).raw) := by
  decide
/-- R166: a write that does not agree is made once more. -/
theorem test_rewrite :
    gives (exec (.storeWriteDone false false)
      { base with
        commits := [⟨.eraseBaseline 1, .processor⟩], writing := some ⟨.write, .baseline 1 .erased⟩ }) fun t =>
      t.writing == some ⟨.rewrite, .baseline 1 .erased⟩ := by decide
/-- R167: power fails during a write, and the slot stays bad. -/
theorem test_powerFail_cuts_write :
    gives (exec (.powerFail false)
      { base with
        commits := [⟨.eraseBaseline 1, .processor⟩], writing := some ⟨.write, .baseline 1 .erased⟩
        baseSlots := [(1, .damaged)] }) fun t => t.baseSlots == [(1, .damaged)] && t.phase == .off := by decide
/-- R177: the length bytes 0x02 0x00 are out of range. -/
theorem test_length_out_of_range :
    gives (exec (.byteReceived 0) { base with receiver := .header [2] }) fun t => t.receiver == .hunting := by decide

/-! ## Witnesses -/

theorem test_witness_StepTakesFront :
    ∃ s : State, s.pending = [] :=
  ⟨base, by decide⟩

theorem test_witness_ShortAnswers :
    ∃ s : State, s.ready = true :=
  ⟨base, by decide⟩

theorem test_witness_ReadsReport :
    (∃ s : State, s.ready = true) ∧
    (∃ b : ReplyBody, b.isLong = true ∧ ∀ p ∈ b.pieces, p.length ≤ 1016) ∧
    (∃ (r : Reply) (part : Nat), part < r.parts.length ∧ part < 128) :=
  ⟨⟨base, by decide⟩,
   ⟨.windows [⟨window 1 60, 3⟩] [account 2 1], by decide⟩,
   ⟨⟨1, 0x34, .ok, .windows [] [], [0]⟩, 0, by decide⟩⟩

theorem test_witness_RefusedBeforeHandling :
    ∃ s : State, s.ready = true :=
  ⟨base, by decide⟩

theorem test_witness_RequestWaits :
    ∃ (s : State) (cmd : Instr) (q : QueuedRequest),
      asRequest cmd = some q ∧
      s.waits = true :=
  ⟨{ base with phase := .scanning, transmitter := .reply 0 }, .identify 7, ⟨7, .identify⟩, by decide⟩

theorem test_witness_ProfileApplied :
    ∃ (s : State) (tag : U8) (f : SetProfileFields),
      s.ready = true ∧
      f.burstLength.toNat ∈ [8, 16, 32, 64] ∧
      (f.quietPass = 0 ∨ f.quietPass = 1) ∧
      s.pendingProfile = none ∧
      (∀ l, (s.lane l).state = .parked ∨ (s.lane l).state = .faulted) ∧
      s.queue = [] ∧
      s.campaign.state ≠ .running :=
  ⟨{ base with lanes := Vector.replicate 8 restLane }, 1, ⟨8, 3, 0, 8, 60, 4095, 2000, 10, 500, 100000⟩, by decide⟩

theorem test_witness_ProfileMadePending :
    (∃ (s : State) (tag : U8) (f : SetProfileFields),
       s.ready = true ∧
       (¬(f.burstLength.toNat ∈ [8, 16, 32, 64] ∧ (f.quietPass = 0 ∨ f.quietPass = 1)))) ∧
    (∃ (s : State) (tag : U8) (f : SetProfileFields),
       s.ready = true ∧
       f.burstLength.toNat ∈ [8, 16, 32, 64] ∧
       (f.quietPass = 0 ∨ f.quietPass = 1) ∧
       s.pendingProfile.isSome = true) ∧
    (∃ (s : State) (tag : U8) (f : SetProfileFields),
       s.ready = true ∧
       f.burstLength.toNat ∈ [8, 16, 32, 64] ∧
       (f.quietPass = 0 ∨ f.quietPass = 1) ∧
       s.pendingProfile = none ∧
       (∃ l, (s.lane l).state ≠ .parked ∧ (s.lane l).state ≠ .faulted)) :=
  ⟨⟨base, 1, ⟨9, 0, 0, 1, 1, 1, 10, 10, 10, 20⟩, by decide⟩,
   ⟨{ base with pendingProfile := some {} }, 1, ⟨8, 3, 0, 8, 60, 4095, 2000, 10, 500, 100000⟩, by decide⟩,
   ⟨base, 1, ⟨8, 3, 0, 8, 60, 4095, 2000, 10, 500, 100000⟩, by decide⟩⟩

theorem test_witness_RecalibrateByState :
    (∃ (s : State) (tag n : U8),
       s.ready = true ∧
       8 ≤ n.toNat) ∧
    (∃ (s : State) (tag n : U8) (l : LaneId),
       s.ready = true ∧
       n.toNat = l.val) :=
  ⟨⟨base, 1, 8, by decide⟩,
   ⟨base, 1, 7, 7, by decide⟩⟩

theorem test_witness_DefineTaken :
    ∃ (s : State) (tag : U8) (f : DefineFields) (l : LaneId),
      let d : Definition := ⟨l, f.channel.toNat, f.code.toNat, f.spans.map BitVec.toNat, f.override⟩
      let id := f.id.toNat
      let r := s.circuit id
      let kind := r.defineKind d
      s.ready = true ∧
      s.commits = [] ∧
      s.writing = none ∧
      f.lane.toNat = l.val ∧
      (1 ≤ f.id.toNat ∧ f.id.toNat ≤ 512) ∧
      (1 ≤ f.channel.toNat ∧ f.channel.toNat ≤ 96) ∧
      (1 ≤ f.code.toNat ∧ f.code.toNat ≤ 1023) ∧
      f.presence.toNat < 8 ∧
      (1 ≤ f.spans.length ∧ f.spans.length ≤ 12) ∧
      (∀ p ∈ f.spans, 1 ≤ p.toNat ∧ p.toNat ≤ 256) ∧
      f.spans.Nodup ∧
      (s.codeOwner d.code = none ∨ s.codeOwner d.code = some id) ∧
      (r.state = .empty ∨ r.state = .idle ∨ r.state = .unreadable) ∧
      (r.state = .empty ∨ s.insideRegion id = false) ∧
      (kind ≠ .discarding ∨ s.permit = true) :=
  ⟨base, 1, ⟨512, 7, 96, 1023, 7, 2000, 10, 100000, [256, 1]⟩, 7, by decide, by decide, by decide, by decide, by decide, by decide, by decide, by decide, by decide,
    by simp, by decide, by decide, by decide, by decide, by decide⟩

theorem test_witness_ChangeRefusals :
    (∃ (s : State) (tag : U8) (f : DefineFields),
       s.ready = true ∧
       (¬(f.lane.toNat < 8 ∧ (1 ≤ f.id.toNat ∧ f.id.toNat ≤ 512) ∧ (1 ≤ f.channel.toNat ∧ f.channel.toNat ≤ 96) ∧
           (1 ≤ f.code.toNat ∧ f.code.toNat ≤ 1023) ∧ f.presence.toNat < 8 ∧
           (1 ≤ f.spans.length ∧ f.spans.length ≤ 12) ∧ (∀ p ∈ f.spans, 1 ≤ p.toNat ∧ p.toNat ≤ 256) ∧ f.spans.Nodup))) ∧
    (∃ (s : State) (tag : U8) (f : DefineFields) (l : LaneId) (o : Nat),
       let d : Definition := ⟨l, f.channel.toNat, f.code.toNat, f.spans.map BitVec.toNat, f.override⟩
       let id := f.id.toNat
       s.ready = true ∧
       f.lane.toNat = l.val ∧
       (1 ≤ f.id.toNat ∧ f.id.toNat ≤ 512) ∧
       (1 ≤ f.channel.toNat ∧ f.channel.toNat ≤ 96) ∧
       (1 ≤ f.code.toNat ∧ f.code.toNat ≤ 1023) ∧
       f.presence.toNat < 8 ∧
       (1 ≤ f.spans.length ∧ f.spans.length ≤ 12) ∧
       (∀ p ∈ f.spans, 1 ≤ p.toNat ∧ p.toNat ≤ 256) ∧
       f.spans.Nodup ∧
       s.codeOwner d.code = some o ∧
       o ≠ id) ∧
    (∃ (s : State) (tag : U8) (f : DefineFields) (l : LaneId),
       let d : Definition := ⟨l, f.channel.toNat, f.code.toNat, f.spans.map BitVec.toNat, f.override⟩
       let id := f.id.toNat
       let r := s.circuit id
       let kind := r.defineKind d
       s.ready = true ∧
       f.lane.toNat = l.val ∧
       (1 ≤ f.id.toNat ∧ f.id.toNat ≤ 512) ∧
       (1 ≤ f.channel.toNat ∧ f.channel.toNat ≤ 96) ∧
       (1 ≤ f.code.toNat ∧ f.code.toNat ≤ 1023) ∧
       f.presence.toNat < 8 ∧
       (1 ≤ f.spans.length ∧ f.spans.length ≤ 12) ∧
       (∀ p ∈ f.spans, 1 ≤ p.toNat ∧ p.toNat ≤ 256) ∧
       f.spans.Nodup ∧
       (s.codeOwner d.code = none ∨ s.codeOwner d.code = some id) ∧
       (¬((r.state = .empty ∨ r.state = .idle ∨ r.state = .unreadable) ∧ (r.state = .empty ∨ s.insideRegion id = false) ∧
           (kind ≠ .discarding ∨ s.permit = true)))) ∧
    (∃ (s : State) (tag : U8) (id : U16),
       let r := s.circuit id.toNat
       s.ready = true ∧
       (¬((1 ≤ id.toNat ∧ id.toNat ≤ 512) ∧
           (r.state = .unreadable ∨
             (r.state = .idle ∧ s.insideRegion id.toNat = false ∧ (r.baseline = none ∨ s.permit = true)))))) ∧
    (∃ (s : State) (tag : U8) (id : U16),
       let r := s.circuit id.toNat
       s.ready = true ∧
       (¬((1 ≤ id.toNat ∧ id.toNat ≤ 512) ∧ r.state = .idle ∧ s.insideRegion id.toNat = false ∧ s.permit = true))) :=
  ⟨⟨base, 1, ⟨512, 7, 97, 1023, 7, 2000, 10, 100000, [256, 1]⟩, by decide,
     fun h => absurd h.2.2.1.2 (by decide)⟩,
   ⟨{ base with codeMap := [(1023, 5)] }, 1, ⟨512, 7, 96, 1023, 7, 2000, 10, 100000, [256, 1]⟩, 7, 5,
     by decide, by decide, by decide, by decide, by decide, by decide, by decide, by simp, by decide, by decide, by decide⟩,
   ⟨base.setCircuit 512 (circ .held), 1, ⟨512, 7, 96, 1023, 7, 2000, 10, 100000, [256, 1]⟩, 7,
     by decide, by decide, by decide, by decide, by decide, by decide, by decide, by simp, by decide, by decide, by decide⟩,
   ⟨base, 1, 513, by decide⟩,
   ⟨base.setCircuit 512 (circ .idle), 1, 512, by decide⟩⟩

theorem test_witness_DeleteAndClearTaken :
    (∃ (s : State) (tag : U8) (id : U16),
       let r := s.circuit id.toNat
       s.ready = true ∧
       s.commits = [] ∧
       s.writing = none ∧
       (1 ≤ id.toNat ∧ id.toNat ≤ 512) ∧
       (r.state = .unreadable ∨ (r.state = .idle ∧ s.insideRegion id.toNat = false ∧ (r.baseline = none ∨ s.permit = true)))) ∧
    (∃ (s : State) (tag : U8) (id : U16),
       let r := s.circuit id.toNat
       s.ready = true ∧
       s.commits = [] ∧
       s.writing = none ∧
       (1 ≤ id.toNat ∧ id.toNat ≤ 512) ∧
       r.state = .idle ∧
       s.insideRegion id.toNat = false ∧
       s.permit = true) :=
  ⟨⟨open0.setCircuit 512 (circ .idle), 1, 512, by decide⟩,
   ⟨open0.setCircuit 1 (circ .idle), 1, 1, by decide⟩⟩

theorem test_witness_ProbeNowAnswered :
    (∃ (s : State) (tag : U8) (id : U16) (d : Definition),
       let r := s.circuit id.toNat
       s.ready = true ∧
       (1 ≤ id.toNat ∧ id.toNat ≤ 512) ∧
       r.state = .idle ∧
       r.definition = some d ∧
       (s.lane d.lane).ready = false) ∧
    (∃ (s : State) (tag : U8) (id : U16),
       let r := s.circuit id.toNat
       s.ready = true ∧
       (¬((1 ≤ id.toNat ∧ id.toNat ≤ 512) ∧ r.state = .idle))) :=
  ⟨⟨base.setCircuit 512 (circ .idle), 1, 512, wire, by decide⟩,
   ⟨base, 1, 0, by decide⟩⟩

theorem test_witness_ProbeNowGranted :
    ∃ (s : State) (tag : U8) (id : U16) (d : Definition),
      let r := s.circuit id.toNat
      s.ready = true ∧
      (1 ≤ id.toNat ∧ id.toNat ≤ 512) ∧
      r.state = .idle ∧
      r.definition = some d ∧
      s.pendingProfile = none ∧
      (s.lane d.lane).state = .parked ∧
      (s.lane d.lane).age < s.profile.interval ∧
      (s.lane d.lane).calRequested = false ∧
      (∀ e ∈ s.queue, (s.circuit e.circuit).definition.map (·.lane) ≠ some d.lane) ∧
      s.occupied < 32 :=
  ⟨(base.setLane 0 restLane).setCircuit 512 (circ .idle), 1, 512, wire, by decide⟩

theorem test_witness_OpenWindowTaken :
    ∃ (s : State) (tag : U8) (f : OpenFields),
      let spans := ascending (f.spans.map BitVec.toNat)
      s.ready = true ∧
      1 ≤ f.id.toNat ∧
      f.spans ≠ [] ∧
      (∀ p ∈ f.spans, 1 ≤ p.toNat ∧ p.toNat ≤ 256) ∧
      spans.length ≤ 32 ∧
      s.stack.length < 4 ∧
      (∀ w ∈ s.stack, w.id ≠ f.id.toNat) ∧
      (∀ c ∈ s.closures, c.windowId ≠ f.id.toNat) ∧
      s.occupied < 32 ∧
      (∀ c ∈ s.crossingAny spans, (s.circuit c).state = .idle ∨ (s.circuit c).state = .held) :=
  ⟨crossed .idle 0, 1, ⟨1, 86401, [256, 1, 1]⟩, by decide, by decide, by decide, by simp, by decide, by decide, by decide, by decide, by decide, by decide⟩

theorem test_witness_HoldTaken :
    (∃ (s : State) (c : Nat), (s.circuit c).state = .idle ∨ (s.circuit c).state = .held) ∧
    (∃ (s : State) (c : Nat), (s.circuit c).state = .pending ∧ s.queuedTag c = none) ∧
    (∃ (s : State) (c : Nat) (d : Definition) (g : Grant), (s.circuit c).state = .probing ∧
       (s.circuit c).definition = some d ∧ (s.lane d.lane).grant = some g ∧ g.entry.circuit = c ∧ g.entry.tag = none) ∧
    (∃ (s : State) (c : Nat) (l : LaneId), (s.circuit c).state = .capturing ∧
       s.campaign.entryFor c = some ⟨c, .measuring l⟩) ∧
    (∃ (s : State) (c : Nat), (s.circuit c).state = .capturing ∧ s.entryIs c EntryStatus.isMeasuring = false) ∧
    (∃ (s : State) (t : Nat) (r : Closure), s.closures.find? (fun c => c.windowId == t) = some r ∧ 1 < r.outstanding) ∧
    (∃ (s : State) (c t : Nat) (r : Closure), (s.circuit c).state = .pending ∧ s.queuedTag c = some t ∧
       s.closures.find? (fun x => x.windowId == t) = some r ∧ 1 ≤ s.reserved.summary) ∧
    (∃ (s : State) (c t : Nat) (r : Closure) (d : Definition) (g : Grant), (s.circuit c).state = .probing ∧
       (s.circuit c).definition = some d ∧ (s.lane d.lane).grant = some g ∧ g.entry.circuit = c ∧ g.entry.tag = some t ∧
       s.closures.find? (fun x => x.windowId == t) = some r ∧ 1 ≤ s.reserved.summary) ∧
    (∃ (s : State) (c t : Nat), (s.circuit c).state = .pending ∧ s.queuedTag c = some t ∧
       s.closures.find? (fun x => x.windowId == t) = none) :=
  ⟨⟨crossed .held 1, 512, by decide⟩,
   ⟨{ crossed .pending 0 with queue := [⟨512, .sense, none, false, false⟩] }, 512, by decide⟩,
   ⟨(crossed .probing 0).setLane 0 { busyLane with state := .tuning, grant := some ⟨⟨512, .sense, none, false, false⟩, 8, 1, [], .tuning⟩ }, 512, wire,
     ⟨⟨512, .sense, none, false, false⟩, 8, 1, [], .tuning⟩, by decide⟩,
   ⟨{ crossed .capturing 0 with campaign := { state := .suspending, host := true, entries := [⟨512, .measuring 0⟩] } }, 512, 0, by decide⟩,
   ⟨{ crossed .capturing 0 with campaign := { state := .running, entries := [⟨512, .committing 0⟩] } }, 512, by decide⟩,
   ⟨{ base with closures := [account 1 2] }, 1, account 1 2, by decide⟩,
   ⟨{ crossed .pending 0 with
       queue := [⟨512, .sense, some 1, false, false⟩], closures := [account 1 1], reserved := { summary := 1 } },
     512, 1, account 1 1, by decide⟩,
   ⟨{ (crossed .probing 0).setLane 0 { busyLane with state := .tuning, grant := some ⟨⟨512, .sense, some 1, false, false⟩, 8, 1, [], .tuning⟩ } with
       closures := [account 1 1], reserved := { summary := 1 } },
     512, 1, account 1 1, wire, ⟨⟨512, .sense, some 1, false, false⟩, 8, 1, [], .tuning⟩, by decide⟩,
   ⟨{ crossed .pending 0 with queue := [⟨512, .sense, some 1, false, false⟩] }, 512, 1, by decide⟩⟩

theorem test_witness_WindowRefusals :
    (∃ (s : State) (tag : U8) (f : OpenFields),
       let spans := ascending (f.spans.map BitVec.toNat)
       s.ready = true ∧
       (¬(1 ≤ f.id.toNat ∧ f.spans ≠ [] ∧ (∀ p ∈ f.spans, 1 ≤ p.toNat ∧ p.toNat ≤ 256) ∧ spans.length ≤ 32))) ∧
    (∃ (s : State) (tag : U8) (f : OpenFields),
       let spans := ascending (f.spans.map BitVec.toNat)
       s.ready = true ∧
       1 ≤ f.id.toNat ∧
       f.spans ≠ [] ∧
       (∀ p ∈ f.spans, 1 ≤ p.toNat ∧ p.toNat ≤ 256) ∧
       spans.length ≤ 32 ∧
       (¬(s.stack.length < 4 ∧ (∀ w ∈ s.stack, w.id ≠ f.id.toNat) ∧ (∀ c ∈ s.closures, c.windowId ≠ f.id.toNat) ∧
           s.occupied < 32))) ∧
    (∃ (s : State) (tag : U8) (id : U16),
       s.ready = true ∧
       (id.toNat = 0 ∨ s.stack.head?.map (·.id) ≠ some id.toNat ∨ 8 ≤ s.closures.length)) ∧
    (∃ (s : State) (tag : U8) (id : U16),
       s.ready = true ∧
       (id.toNat = 0 ∨ s.stack.head?.map (·.id) ≠ some id.toNat)) :=
  ⟨⟨base, 1, ⟨0, 60, [1]⟩, by decide, fun h => absurd h.1 (by decide)⟩,
   ⟨{ base with stack := [window 4 60, window 3 60, window 2 60, window 1 60] }, 1, ⟨5, 60, [256]⟩,
     by decide, by decide, by decide, by simp, by decide, by decide⟩,
   ⟨base, 1, 0, by decide⟩,
   ⟨{ base with stack := [window 2 60, window 1 60] }, 1, 1, by decide⟩⟩

theorem test_witness_ExtendWindowAnswered :
    ∃ s : State, s.ready = true :=
  ⟨base, by decide⟩

theorem test_witness_CloseWindowTaken :
    ∃ (s : State) (tag : U8) (id : U16) (w : Window) (rest : List Window),
      let held := s.crossingAny w.spans
      s.ready = true ∧
      s.lanesBusy = true ∧
      s.stack = w :: rest ∧
      id.toNat = w.id ∧
      w.id ≠ 0 ∧
      s.closures.length < 8 ∧
      s.campaign.state = .idle ∧
      s.campaign.window = false ∧
      1 ≤ s.reserved.summary ∧
      (∀ c ∈ held, 1 ≤ (s.circuit c).holds ∧ ((s.circuit c).state = .held ∨ (s.circuit c).state = .capturing)) :=
  ⟨{ crossed .held 1 with stack := [window 1 60], reserved := { summary := 1 } }, 1, 1, window 1 60, [], by decide⟩

theorem test_witness_AbortWindowTaken :
    ∃ (s : State) (tag : U8) (id : U16) (w : Window) (rest : List Window),
      let held := s.crossingAny w.spans
      s.ready = true ∧
      s.lanesBusy = true ∧
      s.stack = w :: rest ∧
      id.toNat = w.id ∧
      w.id ≠ 0 ∧
      s.campaign.state = .idle ∧
      s.campaign.window = false ∧
      (∀ c ∈ held, 1 ≤ (s.circuit c).holds ∧ ((s.circuit c).state = .held ∨ (s.circuit c).state = .capturing)) :=
  ⟨{ crossed .held 1 with stack := [window 1 60], reserved := { summary := 1 } }, 1, 1, window 1 60, [], by decide⟩

theorem test_witness_StartCaptureTaken :
    (∃ (s : State) (tag : U8) (f : StartFields) (ids : List Nat),
       s.ready = true ∧
       ((f.option = 0 ∧ f.ids ≠ [] ∧ f.ids.length ≤ 512 ∧ (∀ c ∈ f.ids, 1 ≤ c.toNat ∧ c.toNat ≤ 512) ∧
            ids = keepFirst (f.ids.map BitVec.toNat)) ∨
          (f.option = 1 ∧ f.count = 0 ∧ ids = s.unreferenced)) ∧
       ids ≠ [] ∧
       s.campaign.state = .idle ∧
       s.permit = true ∧
       s.occupied < 32 ∧
       s.stack ≠ []) ∧
    (∃ (s : State) (tag : U8) (f : StartFields) (ids : List Nat),
       s.ready = true ∧
       ((f.option = 0 ∧ f.ids ≠ [] ∧ f.ids.length ≤ 512 ∧ (∀ c ∈ f.ids, 1 ≤ c.toNat ∧ c.toNat ≤ 512) ∧
            ids = keepFirst (f.ids.map BitVec.toNat)) ∨
          (f.option = 1 ∧ f.count = 0 ∧ ids = s.unreferenced)) ∧
       ids ≠ [] ∧
       s.campaign.state = .idle ∧
       s.permit = true ∧
       s.occupied < 32 ∧
       s.stack = [] ∧
       s.lanesBusy = true ∧
       (∀ c ∈ ids, (s.circuit c).state ≠ .empty ∧ (s.circuit c).state ≠ .unreadable)) ∧
    (∃ (s : State) (tag : U8) (f : StartFields) (ids : List Nat),
       s.ready = true ∧
       ((f.option = 0 ∧ f.ids ≠ [] ∧ f.ids.length ≤ 512 ∧ (∀ c ∈ f.ids, 1 ≤ c.toNat ∧ c.toNat ≤ 512) ∧
            ids = keepFirst (f.ids.map BitVec.toNat)) ∨
          (f.option = 1 ∧ f.count = 0 ∧ ids = s.unreferenced)) ∧
       s.campaign.state = .idle ∧
       s.permit = true ∧
       s.occupied < 32 ∧
       s.stack = [] ∧
       s.lanesBusy = true ∧
       (∃ c ∈ ids, (s.circuit c).state ≠ .empty ∧ (s.circuit c).state ≠ .unreadable) ∧
       (∀ c ∈ ids, (s.circuit c).changing = false)) ∧
    (∃ (s : State) (tag : U8) (f : StartFields) (ids : List Nat),
       s.ready = true ∧
       ((f.option = 0 ∧ f.ids ≠ [] ∧ f.ids.length ≤ 512 ∧ (∀ c ∈ f.ids, 1 ≤ c.toNat ∧ c.toNat ≤ 512) ∧
            ids = keepFirst (f.ids.map BitVec.toNat)) ∨
          (f.option = 1 ∧ f.count = 0 ∧ ids = s.unreferenced)) ∧
       ids ≠ [] ∧
       s.campaign.state = .idle ∧
       s.permit = true ∧
       s.occupied < 32 ∧
       s.stack = [] ∧
       s.lanesBusy = true ∧
       (∀ c ∈ ids, ((s.circuit c).state = .empty ∨ (s.circuit c).state = .unreadable) ∧ (s.circuit c).changing = false)) ∧
    (∃ (s : State) (tag : U8) (f : StartFields) (ids before after : List Nat) (c : Nat) (d : Definition) (l : LaneId),
       s.ready = true ∧
       ((f.option = 0 ∧ f.ids ≠ [] ∧ f.ids.length ≤ 512 ∧ (∀ c ∈ f.ids, 1 ≤ c.toNat ∧ c.toNat ≤ 512) ∧
            ids = keepFirst (f.ids.map BitVec.toNat)) ∨
          (f.option = 1 ∧ f.count = 0 ∧ ids = s.unreferenced)) ∧
       s.campaign.state = .idle ∧
       s.permit = true ∧
       s.occupied < 32 ∧
       s.stack = [] ∧
       (∀ c ∈ ids, (s.circuit c).state ≠ .empty ∧ (s.circuit c).state ≠ .unreadable) ∧
       (∀ l' : LaneId, l' ≠ l → (s.lane l').ready = false) ∧
       (∀ e ∈ s.queue, (s.circuit e.circuit).definition.map (·.lane) ≠ some l) ∧
       s.pendingProfile = none ∧
       (s.lane l).state = .parked ∧
       (s.lane l).fresh = true ∧
       ((s.lane l).age < s.profile.interval ∧ (s.lane l).calRequested = false) ∧
       ids = before ++ c :: after ∧
       (∀ x ∈ before, (s.circuit x).definition.map (·.lane) ≠ some l ∨ (s.circuit x).state ≠ .idle ∨
           (s.circuit x).changing = true) ∧
       (s.circuit c).definition = some d ∧
       d.lane = l ∧
       (s.circuit c).state = .idle ∧
       (s.circuit c).changing = false ∧
       s.insideRegion c = false) ∧
    (∃ (s : State) (tag : U8) (f : StartFields),
       s.ready = true ∧
       (f.option = 1 ∧ f.count = 0) ∧
       s.unreferenced = [] ∧
       s.campaign.state = .idle ∧
       s.permit = true ∧
       s.occupied < 32) ∧
    (∃ s : State, s.tablesCanonical = true ∧ s.unreferenced ≠ []) :=
  ⟨⟨{ open0 with stack := [window 1 60] }, 1, ⟨0, 3, [1, 512, 1]⟩, [1, 512], by decide,
     .inl ⟨by decide, by decide, by decide, by simp, by decide⟩, by decide⟩,
   ⟨(open0.setCircuit 512 (circ .held)).setCircuit 1 (circ .idle), 1, ⟨1, 0, []⟩, [1, 512], by decide⟩,
   ⟨open0.setCircuit 512 (circ .held), 1, ⟨0, 2, [1, 512]⟩, [1, 512], by decide,
     .inl ⟨by decide, by decide, by decide, by simp, by decide⟩, by decide⟩,
   ⟨open0, 1, ⟨0, 2, [1, 512]⟩, [1, 512], by decide,
     .inl ⟨by decide, by decide, by decide, by simp, by decide⟩, by decide⟩,
   ⟨(open0.setLane 0 { restLane with fresh := true }).setCircuit 512 (circ .idle), 1, ⟨1, 0, []⟩, [512], [], [], 512, wire, 0,
     by decide⟩,
   ⟨open0, 1, ⟨1, 0, []⟩, by decide⟩,
   ⟨crossed .idle 0, by decide⟩⟩

theorem test_witness_StartCaptureRefused :
    (∃ (s : State) (tag : U8) (f : StartFields),
       s.ready = true ∧
       (¬((f.option = 0 ∧ f.ids ≠ [] ∧ f.ids.length ≤ 512 ∧ (∀ c ∈ f.ids, 1 ≤ c.toNat ∧ c.toNat ≤ 512)) ∨
          (f.option = 1 ∧ f.count = 0)))) ∧
    (∃ (s : State) (tag : U8) (f : StartFields),
       s.ready = true ∧
       ((f.option = 0 ∧ f.ids ≠ [] ∧ f.ids.length ≤ 512 ∧ (∀ c ∈ f.ids, 1 ≤ c.toNat ∧ c.toNat ≤ 512)) ∨
          (f.option = 1 ∧ f.count = 0)) ∧
       (¬(s.campaign.state = .idle ∧ s.permit = true ∧ s.occupied < 32))) :=
  ⟨⟨base, 1, ⟨2, 0, []⟩, by decide, by simp⟩,
   ⟨base, 1, ⟨0, 1, [512]⟩, by decide, .inl ⟨by decide, by decide, by decide, by simp⟩, by decide⟩⟩

theorem test_witness_SuspendAndResume :
    (∃ s : State, s.ready = true) ∧
    (∃ (s : State) (tag : U8),
       s.ready = true ∧
       s.lanesBusy = true ∧
       (s.campaign.host = true → s.campaign.state ≠ .running) ∧
       (∀ e ∈ s.campaign.entries, e.status = .unprocessed →
           (s.circuit e.circuit).state ≠ .empty ∧ (s.circuit e.circuit).state ≠ .unreadable)) :=
  ⟨⟨base, by decide⟩,
   ⟨{ base.setCircuit 1 (circ .idle) with
       campaign := { state := .suspended, host := true, entries := [⟨1, .unprocessed⟩] } }, 1, by decide⟩⟩

theorem test_witness_CancelCaptureTaken :
    (∃ (s : State) (tag : U8),
       s.ready = true ∧
       s.campaign.state = .idle) ∧
    (∃ (s : State) (tag : U8),
       s.ready = true ∧
       s.campaign.state = .running ∧
       (s.campaign.host = false ∧ s.campaign.window = false ∧ s.campaign.deferredSuspend = false) ∧
       (s.campaign.entries.map (·.circuit)).Nodup ∧
       (∃ e ∈ s.campaign.entries, e.status.isCommitting = true) ∧
       (∀ e ∈ s.campaign.entries, e.status.isMeasuring = false)) ∧
    (∃ (s : State) (tag : U8),
       s.ready = true ∧
       s.campaign.state ≠ .idle ∧
       s.campaign.deferredSuspend = false ∧
       (s.campaign.entries.map (·.circuit)).Nodup ∧
       (∃ e ∈ s.campaign.entries, e.status = .unprocessed) ∧
       (∀ e ∈ s.campaign.entries, e.status.inFlight = false) ∧
       1 ≤ s.reserved.captureDone) ∧
    (∃ (s : State) (tag : U8),
       s.ready = true ∧
       s.campaign.state ≠ .idle ∧
       s.campaign.deferredSuspend = false ∧
       (s.campaign.entries.map (·.circuit)).Nodup ∧
       (∃ e ∈ s.campaign.entries, e.status.isCommitting = true) ∧
       (∃ e ∈ s.campaign.entries, e.status.isMeasuring = true)) ∧
    (∃ (s : State) (tag : U8),
       s.ready = true ∧
       s.campaign.state ≠ .idle ∧
       s.campaign.deferredSuspend = false ∧
       (s.campaign.entries.map (·.circuit)).Nodup ∧
       (∀ e ∈ s.campaign.entries, e.status.isCommitting = false) ∧
       (∃ e ∈ s.campaign.entries, e.status.isMeasuring = true) ∧
       1 ≤ s.reserved.captureDone) :=
  ⟨⟨base, 1, by decide⟩,
   ⟨{ base with campaign := { state := .running, entries := [⟨1, .committing 0⟩, ⟨2, .unprocessed⟩] } }, 1, by decide⟩,
   ⟨{ base with
       campaign := { state := .suspended, host := true, entries := [⟨2, .unprocessed⟩] }, reserved := { captureDone := 1 } },
     1, by decide⟩,
   ⟨{ base with
       campaign := { state := .suspending, host := true, entries := [⟨1, .committing 0⟩, ⟨2, .measuring 1⟩] } }, 1, by decide⟩,
   ⟨{ base with campaign := { state := .running, entries := [⟨2, .measuring 1⟩] }, reserved := { captureDone := 1 } }, 1, by decide⟩⟩

theorem test_witness_SetProtectionAnswered :
    (∃ (s : State) (tag : U8) (f : ProtectFields),
       let level : LockLevel :=
         if s.overlay then .session else if s.storedLevel = .line then .line else .openLevel
       s.ready = true ∧
       (f.side.toNat ≤ 1 ∧ f.n.toNat ≤ 32 ∧ f.complement.toNat ≤ 1 ∧ f.level.toNat ≤ 2) ∧
       (level = .session ∨ (level = .line ∧ s.refLock = true) ∨ s.permit = false)) ∧
    (∃ (s : State) (tag : U8) (f : ProtectFields),
       s.ready = true ∧
       (¬(f.side.toNat ≤ 1 ∧ f.n.toNat ≤ 32 ∧ f.complement.toNat ≤ 1 ∧ f.level.toNat ≤ 2))) ∧
    (∃ (s : State) (tag : U8) (f : ProtectFields),
       let level : LockLevel :=
         if s.overlay then .session else if s.storedLevel = .line then .line else .openLevel
       s.ready = true ∧
       s.commits = [] ∧
       s.writing = none ∧
       (f.side.toNat ≤ 1 ∧ f.n.toNat ≤ 32 ∧ f.complement.toNat ≤ 1 ∧ f.level.toNat ≤ 2) ∧
       (level = .openLevel ∨ (level = .line ∧ s.refLock = false)) ∧
       s.permit = true) :=
  ⟨⟨base, 1, ⟨1, 32, 1, 2⟩, by decide⟩,
   ⟨base, 1, ⟨1, 33, 1, 2⟩, by decide⟩,
   ⟨open0, 1, ⟨1, 32, 1, 2⟩, by decide⟩⟩

theorem test_witness_SenseRequestsAnswered :
    (∃ (s : State) (tag : U8) (f : SetSenseFields),
       s.ready = true ∧
       (¬(f.line.toNat < 16 ∧ f.enabled.toNat ≤ 1 ∧ f.mode.toNat ≤ 1 ∧ f.polarity.toNat ≤ 1 ∧ f.bothEdges.toNat ≤ 1 ∧
            f.action.toNat ≤ 1 ∧ f.binding.toNat ≤ 256 ∧ (f.mode = 0 ∨ f.bothEdges = 0)))) ∧
    (∃ (s : State) (tag : U8) (f : SetSenseFields) (l : LineId),
       let r : SenseLine :=
         { s.line l with
           enabled := f.enabled == 1, mode := if f.mode = 0 then .edge else .level
           polarity := if f.polarity = 0 then .high else .low, bothEdges := f.bothEdges == 1, span := f.binding.toNat
           action := if f.action = 0 then .logOnly else .verify
           raw := (s.line l).raw || (f.mode == 1 && (s.line l).input == (f.polarity == 0))
           masked :=
             f.enabled == 1 && ((s.line l).raw || (f.mode == 1 && (s.line l).input == (f.polarity == 0))) }
       s.ready = true ∧
       f.line.toNat = l.val ∧
       (f.enabled.toNat ≤ 1 ∧ f.mode.toNat ≤ 1 ∧ f.polarity.toNat ≤ 1 ∧ f.bothEdges.toNat ≤ 1 ∧ f.action.toNat ≤ 1) ∧
       f.binding.toNat ≤ 256 ∧
       (f.mode = 0 ∨ f.bothEdges = 0) ∧
       ((s.line l).masked = true ∨ r.masked = false)) ∧
    (∃ (s : State) (tag : U8) (f : SetSenseFields) (l : LineId),
       let r : SenseLine :=
         { s.line l with
           enabled := f.enabled == 1, mode := if f.mode = 0 then .edge else .level
           polarity := if f.polarity = 0 then .high else .low, bothEdges := f.bothEdges == 1, span := f.binding.toNat
           action := if f.action = 0 then .logOnly else .verify
           raw := (s.line l).raw || (f.mode == 1 && (s.line l).input == (f.polarity == 0))
           masked :=
             f.enabled == 1 && ((s.line l).raw || (f.mode == 1 && (s.line l).input == (f.polarity == 0))) }
       s.ready = true ∧
       f.line.toNat = l.val ∧
       (f.enabled.toNat ≤ 1 ∧ f.mode.toNat ≤ 1 ∧ f.polarity.toNat ≤ 1 ∧ f.bothEdges.toNat ≤ 1 ∧ f.action.toNat ≤ 1) ∧
       f.binding.toNat ≤ 256 ∧
       (f.mode = 0 ∨ f.bothEdges = 0) ∧
       f.binding = 0 ∧
       ((s.line l).masked = false ∧ r.masked = true)) ∧
    (∃ (s : State) (tag : U8) (f : SetSenseFields) (l : LineId) (before after : List Window) (w : Window),
       let r : SenseLine :=
         { s.line l with
           enabled := f.enabled == 1, mode := if f.mode = 0 then .edge else .level
           polarity := if f.polarity = 0 then .high else .low, bothEdges := f.bothEdges == 1, span := f.binding.toNat
           action := if f.action = 0 then .logOnly else .verify
           raw := (s.line l).raw || (f.mode == 1 && (s.line l).input == (f.polarity == 0))
           masked :=
             f.enabled == 1 && ((s.line l).raw || (f.mode == 1 && (s.line l).input == (f.polarity == 0))) }
       s.ready = true ∧
       f.line.toNat = l.val ∧
       (f.enabled.toNat ≤ 1 ∧ f.mode.toNat ≤ 1 ∧ f.polarity.toNat ≤ 1 ∧ f.bothEdges.toNat ≤ 1 ∧ f.action.toNat ≤ 1) ∧
       f.binding.toNat ≤ 256 ∧
       (f.mode = 0 ∨ f.bothEdges = 0) ∧
       f.binding ≠ 0 ∧
       ((s.line l).masked = false ∧ r.masked = true) ∧
       s.stack = before ++ w :: after ∧
       (∀ x ∈ before, r.span ∉ x.spans) ∧
       r.span ∈ w.spans) ∧
    (∃ (s : State) (tag : U8) (f : SetSenseFields) (l : LineId),
       let r : SenseLine :=
         { s.line l with
           enabled := f.enabled == 1, mode := if f.mode = 0 then .edge else .level
           polarity := if f.polarity = 0 then .high else .low, bothEdges := f.bothEdges == 1, span := f.binding.toNat
           action := if f.action = 0 then .logOnly else .verify
           raw := (s.line l).raw || (f.mode == 1 && (s.line l).input == (f.polarity == 0))
           masked :=
             f.enabled == 1 && ((s.line l).raw || (f.mode == 1 && (s.line l).input == (f.polarity == 0))) }
       s.ready = true ∧
       f.line.toNat = l.val ∧
       (f.enabled.toNat ≤ 1 ∧ f.mode.toNat ≤ 1 ∧ f.polarity.toNat ≤ 1 ∧ f.bothEdges.toNat ≤ 1 ∧ f.action.toNat ≤ 1) ∧
       f.binding.toNat ≤ 256 ∧
       (f.mode = 0 ∨ f.bothEdges = 0) ∧
       f.binding ≠ 0 ∧
       ((s.line l).masked = false ∧ r.masked = true) ∧
       (∀ w ∈ s.stack, r.span ∉ w.spans) ∧
       f.action = 0) ∧
    (∃ (s : State) (tag : U8) (f : SetSenseFields) (l : LineId),
       let r : SenseLine :=
         { s.line l with
           enabled := f.enabled == 1, mode := if f.mode = 0 then .edge else .level
           polarity := if f.polarity = 0 then .high else .low, bothEdges := f.bothEdges == 1, span := f.binding.toNat
           action := if f.action = 0 then .logOnly else .verify
           raw := (s.line l).raw || (f.mode == 1 && (s.line l).input == (f.polarity == 0))
           masked :=
             f.enabled == 1 && ((s.line l).raw || (f.mode == 1 && (s.line l).input == (f.polarity == 0))) }
       s.ready = true ∧
       f.line.toNat = l.val ∧
       (f.enabled.toNat ≤ 1 ∧ f.mode.toNat ≤ 1 ∧ f.polarity.toNat ≤ 1 ∧ f.bothEdges.toNat ≤ 1 ∧ f.action.toNat ≤ 1) ∧
       f.binding.toNat ≤ 256 ∧
       (f.mode = 0 ∨ f.bothEdges = 0) ∧
       f.binding ≠ 0 ∧
       ((s.line l).masked = false ∧ r.masked = true) ∧
       (∀ w ∈ s.stack, r.span ∉ w.spans) ∧
       f.action = 1 ∧
       s.lanesBusy = true ∧
       (∀ c ∈ s.crossing r.span, (s.circuit c).state ≠ .capturing) ∧
       (s.crossing r.span).Nodup) ∧
    (∃ (s : State) (tag : U8) (lines : List U8) (l : LineId),
       s.ready = true ∧
       (lines ≠ [] ∧ ∀ n ∈ lines, n.toNat = l.val) ∧
       ((s.line l).mode = .level ∧ (s.line l).atActive = true ∧ (s.line l).enabled = true) ∧
       ((s.line l).span = 0 ∨ ((∀ w ∈ s.stack, (s.line l).span ∉ w.spans) ∧ (s.line l).action = .logOnly))) ∧
    (∃ (s : State) (tag : U8) (lines : List U8) (l : LineId) (before after : List Window) (w : Window),
       s.ready = true ∧
       (lines ≠ [] ∧ ∀ n ∈ lines, n.toNat = l.val) ∧
       ((s.line l).mode = .level ∧ (s.line l).atActive = true ∧ (s.line l).enabled = true) ∧
       (s.line l).span ≠ 0 ∧
       s.stack = before ++ w :: after ∧
       (∀ x ∈ before, (s.line l).span ∉ x.spans) ∧
       (s.line l).span ∈ w.spans) ∧
    (∃ (s : State) (tag : U8) (lines : List U8),
       let named := allLines.filter fun l => l.val ∈ lines.map BitVec.toNat
       let again (l : LineId) := (s.line l).mode == .level && (s.line l).atActive
       s.ready = true ∧
       (lines ≠ [] ∧ ∀ n ∈ lines, n.toNat < 16) ∧
       (∀ l ∈ named, again l = true → (s.line l).enabled = false)) ∧
    (∃ (s : State) (tag : U8) (lines : List U8),
       s.ready = true ∧
       (lines = [] ∨ ∃ n ∈ lines, 16 ≤ n.toNat)) ∧
    (∃ (s : State) (tag : U8) (lines : List U8),
       let named := allLines.filter fun l => l.val ∈ lines.map BitVec.toNat
       s.ready = true ∧
       (lines ≠ [] ∧ ∀ n ∈ lines, n.toNat < 16) ∧
       (∀ l ∈ named, (s.line l).mode = .edge ∨ (s.line l).atActive = false)) ∧
    (∃ (s : State) (tag : U8) (f : SetSenseFields) (l : LineId),
       let r : SenseLine :=
         { s.line l with
           enabled := f.enabled == 1, mode := if f.mode = 0 then .edge else .level
           polarity := if f.polarity = 0 then .high else .low, bothEdges := f.bothEdges == 1, span := f.binding.toNat
           action := if f.action = 0 then .logOnly else .verify
           raw := (s.line l).raw || (f.mode == 1 && (s.line l).input == (f.polarity == 0))
           masked :=
             f.enabled == 1 && ((s.line l).raw || (f.mode == 1 && (s.line l).input == (f.polarity == 0))) }
       let capturing := (s.crossing r.span).filter fun c => (s.circuit c).state = .capturing
       let measuring := capturing.filter fun c => s.entryIs c EntryStatus.isMeasuring
       s.ready = true ∧
       f.line.toNat = l.val ∧
       (f.enabled.toNat ≤ 1 ∧ f.mode.toNat ≤ 1 ∧ f.polarity.toNat ≤ 1 ∧ f.bothEdges.toNat ≤ 1 ∧ f.action.toNat ≤ 1) ∧
       f.binding.toNat ≤ 256 ∧
       (f.mode = 0 ∨ f.bothEdges = 0) ∧
       f.binding ≠ 0 ∧
       ((s.line l).masked = false ∧ r.masked = true) ∧
       s.lanesBusy = true ∧
       (∀ w ∈ s.stack, r.span ∉ w.spans) ∧
       r.action = .verify ∧
       (s.crossing r.span).Nodup ∧
       (s.campaign.entries.map (·.circuit)).Nodup ∧
       (s.campaign.host = false ∧ s.campaign.window = false ∧ s.campaign.deferredSuspend = false) ∧
       (measuring = [] ∨ ∃ e ∈ s.campaign.entries, e.circuit ∉ measuring ∧ e.status.isFinished = false)) ∧
    (∃ (s : State) (tag : U8) (lines : List U8) (l : LineId),
       let r : SenseLine := { s.line l with raw := true, masked := true }
       let capturing := (s.crossing r.span).filter fun c => (s.circuit c).state = .capturing
       let measuring := capturing.filter fun c => s.entryIs c EntryStatus.isMeasuring
       s.ready = true ∧
       (lines ≠ [] ∧ ∀ n ∈ lines, n.toNat = l.val) ∧
       ((s.line l).mode = .level ∧ (s.line l).atActive = true ∧ (s.line l).enabled = true) ∧
       r.span ≠ 0 ∧
       s.lanesBusy = true ∧
       (∀ w ∈ s.stack, r.span ∉ w.spans) ∧
       r.action = .verify ∧
       (s.crossing r.span).Nodup ∧
       (s.campaign.entries.map (·.circuit)).Nodup ∧
       (s.campaign.host = false ∧ s.campaign.window = false ∧ s.campaign.deferredSuspend = false) ∧
       (measuring = [] ∨ ∃ e ∈ s.campaign.entries, e.circuit ∉ measuring ∧ e.status.isFinished = false)) ∧
    (∃ (s : State) (tag : U8) (lines : List U8),
       let named := allLines.filter fun l => l.val ∈ lines.map BitVec.toNat
       let again (l : LineId) := (s.line l).mode == .level && (s.line l).atActive
       let events := named.filter fun l => again l && (s.line l).enabled
       let window (l : LineId) : Option Nat :=
         if (s.line l).span = 0 then none else s.stack.findIdx? fun w => w.spans.contains (s.line l).span
       s.ready = true ∧
       (lines ≠ [] ∧ ∀ n ∈ lines, n.toNat < 16) ∧
       (∀ l ∈ events, (s.line l).span = 0 ∨ window l ≠ none ∨ (s.line l).action = .logOnly)) :=
  ⟨⟨base, 1, ⟨16, 1, 0, 0, 0, 0, 0⟩, by decide⟩,
   ⟨base, 1, ⟨15, 1, 0, 1, 1, 1, 256⟩, 15, by decide⟩,
   ⟨base, 1, ⟨15, 1, 1, 1, 0, 0, 0⟩, 15, by decide⟩,
   ⟨{ base with stack := [window 2 60] }, 1, ⟨15, 1, 1, 1, 0, 1, 1⟩, 15, [], [], window 2 60, by decide⟩,
   ⟨base, 1, ⟨15, 1, 1, 1, 0, 0, 256⟩, 15, by decide⟩,
   ⟨crossed .idle 0, 1, ⟨15, 1, 1, 1, 0, 1, 1⟩, 15, by decide⟩,
   ⟨base.setLine 15 { enabled := true, mode := .level, polarity := .low }, 1, [15, 15], 15, by decide⟩,
   ⟨{ base.setLine 15 { enabled := true, mode := .level, polarity := .low, span := 1 } with stack := [window 2 60] }, 1, [15], 15, [], [], window 2 60, by decide⟩,
   ⟨base.setLine 15 { mode := .level, polarity := .low }, 1, [15, 0], by decide⟩,
   ⟨base, 1, [16], by decide⟩,
   ⟨base, 1, [15, 0, 15], by decide⟩,
   ⟨{ crossed .capturing 0 with campaign := { state := .running, entries := [⟨512, .measuring 0⟩, ⟨2, .committing 1⟩] } },
     1, ⟨15, 1, 1, 1, 0, 1, 1⟩, 15, by decide⟩,
   ⟨(crossed .idle 0).setLine 15 { enabled := true, mode := .level, polarity := .low, span := 1, action := .verify }, 1, [15], 15, by decide⟩,
   ⟨{ (base.setLine 15 { enabled := true, mode := .level, polarity := .low, span := 1, action := .verify }).setLine 0 { enabled := true, mode := .level, polarity := .low } with stack := [window 2 60] }, 1, [15, 0], by decide⟩⟩

theorem test_witness_RestartsSetEverythingAnew :
    (∃ (s : State) (erased : Bool),
       (s.writing = none ∨ s.commits = [] ∨ erased = false)) ∧
    (∃ (s : State) (c : Commit) (rest : List Commit) (id : Nat) (step : WriteStep) (saved : Slot Baseline),
       s.commits = c :: rest ∧
       s.writing = some ⟨step, .baseline id saved⟩ ∧
       (((step = .write ∨ step = .rewrite) ∧ c.op = .eraseBaseline id) ∨ (step = .restore ∧ saved = .erased))) ∧
    (∃ (s : State) (c : Commit) (rest : List Commit) (id : Nat) (step : WriteStep) (saved : Slot Definition),
       s.commits = c :: rest ∧
       s.writing = some ⟨step, .definition id saved⟩ ∧
       (((step = .write ∨ step = .rewrite) ∧ c.op = .eraseDefinition id) ∨ (step = .restore ∧ saved = .erased))) ∧
    (∃ (s : State) (c : Commit) (rest : List Commit),
       s.commits = c :: rest ∧
       s.writing = some ⟨.restore, .protection .erased⟩) ∧
    (∃ (s : State) (w : Writing) (c : Commit) (rest : List Commit),
       s.commits = c :: rest ∧
       s.writing = some w ∧
       (w.step = .write ∨ w.step = .rewrite → ∀ id : Nat, c.op ≠ .eraseDefinition id ∧ c.op ≠ .eraseBaseline id) ∧
       (w.step = .restore →
           w.saved ≠ .protection .erased ∧ ∀ id : Nat, w.saved ≠ .definition id .erased ∧ w.saved ≠ .baseline id .erased)) ∧
    (∃ (s : State) (c : Commit) (rest : List Commit) (id : Nat) (step : WriteStep) (saved : Slot Baseline),
       s.resetLine = false ∧
       s.phase ≠ .off ∧
       s.commits = c :: rest ∧
       s.writing = some ⟨step, .baseline id saved⟩ ∧
       (((step = .write ∨ step = .rewrite) ∧ c.op = .eraseBaseline id) ∨ (step = .restore ∧ saved = .erased))) ∧
    (∃ (s : State) (c : Commit) (rest : List Commit) (id : Nat) (step : WriteStep) (saved : Slot Definition),
       s.resetLine = false ∧
       s.phase ≠ .off ∧
       s.commits = c :: rest ∧
       s.writing = some ⟨step, .definition id saved⟩ ∧
       (((step = .write ∨ step = .rewrite) ∧ c.op = .eraseDefinition id) ∨ (step = .restore ∧ saved = .erased))) ∧
    (∃ (s : State) (c : Commit) (rest : List Commit),
       s.resetLine = false ∧
       s.phase ≠ .off ∧
       s.commits = c :: rest ∧
       s.writing = some ⟨.restore, .protection .erased⟩) ∧
    (∃ (s : State) (w : Writing) (c : Commit) (rest : List Commit),
       s.resetLine = false ∧
       s.phase ≠ .off ∧
       s.commits = c :: rest ∧
       s.writing = some w ∧
       (w.step = .write ∨ w.step = .rewrite → ∀ id : Nat, c.op ≠ .eraseDefinition id ∧ c.op ≠ .eraseBaseline id) ∧
       (w.step = .restore →
           w.saved ≠ .protection .erased ∧ ∀ id : Nat, w.saved ≠ .definition id .erased ∧ w.saved ≠ .baseline id .erased)) ∧
    (∃ (s : State) (erased : Bool),
       (s.writing = none ∨ s.commits = [] ∨ erased = false)) ∧
    (∃ s : State, s.ready = true) :=
  ⟨⟨base, true, by decide⟩,
   ⟨{ base with commits := [⟨.eraseBaseline 1, .processor⟩], writing := some ⟨.rewrite, .baseline 1 .damaged⟩ },
     ⟨.eraseBaseline 1, .processor⟩, [], 1, .rewrite, .damaged, by decide⟩,
   ⟨{ base with commits := [⟨.writeDefinition 1 wire, .processor⟩], writing := some ⟨.restore, .definition 1 .erased⟩ },
     ⟨.writeDefinition 1 wire, .processor⟩, [], 1, .restore, .erased, by decide⟩,
   ⟨{ base with commits := [⟨.writeProtection ⟨{}, .line⟩, .processor⟩], writing := some ⟨.restore, .protection .erased⟩ },
     ⟨.writeProtection ⟨{}, .line⟩, .processor⟩, [], by decide⟩,
   ⟨{ base with commits := [⟨.writeDefinition 1 wire, .processor⟩], writing := some ⟨.write, .definition 1 .erased⟩ },
     ⟨.write, .definition 1 .erased⟩, ⟨.writeDefinition 1 wire, .processor⟩, [], rfl, rfl, by simp, by simp⟩,
   ⟨{ base with commits := [⟨.eraseBaseline 1, .processor⟩], writing := some ⟨.rewrite, .baseline 1 .damaged⟩ },
     ⟨.eraseBaseline 1, .processor⟩, [], 1, .rewrite, .damaged, by decide⟩,
   ⟨{ base with commits := [⟨.writeDefinition 1 wire, .processor⟩], writing := some ⟨.restore, .definition 1 .erased⟩ },
     ⟨.writeDefinition 1 wire, .processor⟩, [], 1, .restore, .erased, by decide⟩,
   ⟨{ base with commits := [⟨.writeProtection ⟨{}, .line⟩, .processor⟩], writing := some ⟨.restore, .protection .erased⟩ },
     ⟨.writeProtection ⟨{}, .line⟩, .processor⟩, [], by decide⟩,
   ⟨{ base with commits := [⟨.writeDefinition 1 wire, .processor⟩], writing := some ⟨.write, .definition 1 .erased⟩ },
     ⟨.write, .definition 1 .erased⟩, ⟨.writeDefinition 1 wire, .processor⟩, [], by decide, by decide, rfl, rfl, by simp, by simp⟩,
   ⟨base, true, by decide⟩,
   ⟨base, by decide⟩⟩

theorem test_witness_ScanLoadsTheStore :
    (∃ (defs : Table (Slot Definition)) (bases : Table (Slot Baseline)) (prot : Slot ProtectionRecord) (cause : RestartCause)
       (overlay : Bool),
       tableWf .erased defs = true) ∧
    (∃ (s : State),
       s.phase = .scanning ∧
       s.transmitter = .idle ∧
       (s.replies = [] ∧ s.notices = []) ∧
       s.restartReplySent = false ∧
       s.completeFrame = none ∧
       s.stack = [] ∧
       s.occupied < 32) :=
  ⟨⟨[(1, .holding wire), (2, .damaged)], [], .erased, .cold, false, by decide⟩,
   ⟨{ State.reset with requestQueue := [⟨1, .restart⟩, ⟨2, .identify⟩] }, by decide⟩⟩

theorem test_witness_LineEvents :
    ∃ s : State, s.calm = true :=
  ⟨base, by decide⟩

theorem test_witness_FrameReceivedJudged :
    (∃ (s : State),
       s.alive = true ∧
       s.completeFrame = none) ∧
    (∃ (s : State) (bytes : List U8),
       s.alive = true ∧
       s.completeFrame = some bytes ∧
       (crc16 (bytes.take (bytes.length - 2)) ≠ u16At bytes (bytes.length - 2) ∨ u8At bytes 2 ≠ 1)) ∧
    (∃ (s : State) (bytes : List U8) (c : Instr),
       State.calm { s with completeFrame := none } = true ∧ s.completeFrame = some bytes ∧
       crc16 (bytes.take (bytes.length - 2)) = u16At bytes (bytes.length - 2) ∧ u8At bytes 2 = 1 ∧
       asRequest c =
         some ⟨u8At bytes 4, requestOf (u8At bytes 3) ((bytes.take (bytes.length - 2)).drop 5)⟩) :=
  ⟨⟨base, by decide +kernel⟩,
   ⟨{ base with completeFrame := some [3, 0, 1, 1, 7, 0, 0] }, [3, 0, 1, 1, 7, 0, 0], by decide +kernel⟩,
   ⟨{ base with completeFrame := some [3, 0, 1, 1, 7, 0x38, 0x8B] }, [3, 0, 1, 1, 7, 0x38, 0x8B], .identify 7, by decide +kernel⟩⟩

theorem test_witness_FrameSent :
    (∃ (s : State),
       s.calm = true ∧
       s.transmitter = .idle) ∧
    (∃ (s : State) (part : Nat) (r : Reply) (rest : List Reply),
       s.calm = true ∧
       s.transmitter = .reply part ∧
       s.replies = r :: rest ∧
       part + 1 < r.parts.length) ∧
    (∃ (s : State) (part : Nat) (r : Reply) (rest : List Reply),
       s.calm = true ∧
       s.transmitter = .reply part ∧
       s.replies = r :: rest ∧
       r.parts.length ≤ part + 1 ∧
       (match s.processor with | .replying _ => false | _ => true) = true) ∧
    (∃ (s : State) (part : Nat) (r r' : Reply) (rest : List Reply),
       s.calm = true ∧
       s.transmitter = .reply part ∧
       s.replies = r :: rest ∧
       r.parts.length ≤ part + 1 ∧
       rest.length < 8 ∧
       s.processor = .replying r') ∧
    (∃ (s : State) (n : Notice) (mark : Bool),
       s.calm = true ∧
       s.transmitter = .notice n mark ∧
       (s.lanesBusy = true ∨ s.queue = [])) ∧
    (∃ (s : State) (part : Nat) (r : Reply) (rest : List Reply),
       (s.restartTaken = true ∧ s.restartReplySent = false) ∧
       State.calm { s with restartTaken := false, requestQueue := [] } = true ∧
       s.transmitter = .reply part ∧
       s.replies = r :: rest ∧
       r.parts.length ≤ part + 1 ∧
       (r.code = 0x03 ∧ r.status = .ok) ∧
       s.processor = .free) :=
  ⟨⟨base, by decide⟩,
   ⟨{ base with transmitter := .reply 0, replies := [⟨1, 1, .ok, .none, [1, 1]⟩] }, 0, ⟨1, 1, .ok, .none, [1, 1]⟩, [], by decide⟩,
   ⟨{ base with transmitter := .reply 1, replies := [⟨1, 1, .ok, .none, [1, 1]⟩] }, 1, ⟨1, 1, .ok, .none, [1, 1]⟩, [], by decide⟩,
   ⟨{ base with
       transmitter := .reply 0, replies := List.replicate 8 ⟨1, 1, .ok, .none, []⟩, processor := .replying ⟨1, 1, .ok, .none, [1, 1]⟩ },
     0, ⟨1, 1, .ok, .none, []⟩, ⟨1, 1, .ok, .none, [1, 1]⟩, List.replicate 7 ⟨1, 1, .ok, .none, []⟩, by decide⟩,
   ⟨{ base with transmitter := .notice (.profileApplied {}) true }, .profileApplied {}, true, by decide⟩,
   ⟨{ base with transmitter := .reply 0, replies := [⟨1, 3, .ok, .none, []⟩], restartTaken := true }, 0, ⟨1, 3, .ok, .none, []⟩, [],
     by decide⟩⟩

theorem test_witness_TickCounts :
    ∃ (s : State),
      s.calm = true ∧
      s.clock < 4294967296 :=
  ⟨{ base with clock := 4294967295 }, by decide⟩

theorem test_witness_WindowExpires :
    (∃ (s : State) (above below : List Window) (w : Window),
       State.calm { s with stack := [] } = true ∧ s.stack = above ++ w :: below ∧ w.remaining = 0 ∧
       ∀ x ∈ below, 1 ≤ x.remaining) ∧
    (∃ (s : State) (w : Window) (rest : List Window),
       let held := s.crossingAny w.spans
       let released := held.filter fun c => (s.circuit c).state = .held ∧ (s.circuit c).holds = 1
       State.calm { s with stack := [] } = true ∧
       s.lanesBusy = true ∧
       s.transmitter ≠ .idle ∧
       s.stack = w :: rest ∧
       w.remaining = 0 ∧
       (∀ x ∈ rest, 1 ≤ x.remaining) ∧
       s.campaign.state = .idle ∧
       s.campaign.window = false ∧
       1 ≤ s.reserved.summary ∧
       (∀ c ∈ held, 1 ≤ (s.circuit c).holds ∧ ((s.circuit c).state = .held ∨ (s.circuit c).state = .capturing)) ∧
       (released = [] ∨ s.closures.length < 8)) ∧
    (∃ (s : State) (w : Window) (rest : List Window) (old : Closure) (others : List Closure),
       let held := s.crossingAny w.spans
       let released := held.filter fun c => (s.circuit c).state = .held ∧ (s.circuit c).holds = 1
       State.calm { s with stack := [] } = true ∧
       s.lanesBusy = true ∧
       s.transmitter ≠ .idle ∧
       s.stack = w :: rest ∧
       w.remaining = 0 ∧
       (∀ x ∈ rest, 1 ≤ x.remaining) ∧
       s.campaign.state = .idle ∧
       s.campaign.window = false ∧
       1 ≤ s.reserved.summary ∧
       (∀ c ∈ held, 1 ≤ (s.circuit c).holds ∧ ((s.circuit c).state = .held ∨ (s.circuit c).state = .capturing)) ∧
       s.closures = old :: others ∧
       others.length = 7 ∧
       released ≠ []) :=
  ⟨⟨{ base with stack := [window 3 60, window 2 0, window 1 1] }, [window 3 60], [window 1 1], window 2 0, by decide⟩,
   ⟨{ crossed .held 1 with
       stack := [window 1 0], reserved := { summary := 1 }, transmitter := .reply 0, closures := List.replicate 7 (account 9 1) },
     window 1 0, [], by decide⟩,
   ⟨{ crossed .held 1 with
       stack := [window 1 0], reserved := { summary := 1 }, transmitter := .reply 0, closures := List.replicate 8 (account 9 1) },
     window 1 0, [], account 9 1, List.replicate 7 (account 9 1), by decide⟩⟩

theorem test_witness_CalibrationStarts :
    (∃ (s : State) (l : LaneId),
       s.phase = .running ∧
       (s.lane l).state = .parked ∧
       (s.profile.interval ≤ (s.lane l).age ∨ (s.lane l).calRequested = true) ∧
       s.pendingProfile = none ∧
       (s.setLane l (s.lane l).startRun).calm = true) ∧
    (∃ (s : State) (l : LaneId),
       s.calm = true) :=
  ⟨⟨base.setLane 7 { restLane with age := 10 }, 7, by decide⟩,
   ⟨base, 7, by decide⟩⟩

theorem test_witness_HeadMessages :
    (∃ (s : State) (l : LaneId),
       s.calm = true) ∧
    (∃ (s : State) (l : LaneId) (x : Sample),
       s.calm = true ∧
       ((s.lane l).state = .measuring ∨ ((s.lane l).state = .calibrating ∧ (s.lane l).calStep = some .burst)) ∧
       (s.lane l).samples.length + 1 < (s.lane l).burstLength) ∧
    (∃ (s : State) (l : LaneId) (x : Sample) (purpose : Purpose),
       s.calm = true ∧
       (s.lane l).state = .measuring ∧
       (s.lane l).burstLength ≤ (s.lane l).samples.length + 1 ∧
       ((∃ c, (s.lane l).work = .verification c ∧ purpose = .attempt) ∨ (∃ c, (s.lane l).work = .capture c ∧ purpose = .capture))) ∧
    (∃ (s : State) (l : LaneId) (x : Sample),
       s.calm = true ∧
       ((s.lane l).state = .calibrating ∧ (s.lane l).calStep = some .burst) ∧
       (s.lane l).burstLength ≤ (s.lane l).samples.length + 1) ∧
    (∃ (s : State) (l : LaneId) (x : Sample),
       s.calm = true ∧
       (s.lane l).state ≠ .measuring ∧
       (¬((s.lane l).state = .calibrating ∧ (s.lane l).calStep = some .burst))) :=
  ⟨⟨base, 0, by decide⟩,
   ⟨base.setLane 0 { busyLane with state := .measuring, burstLength := 8, samples := List.replicate 6 ⟨1200, 9, 2000⟩ }, 0,
     ⟨1200, 9, 2000⟩, by decide⟩,
   ⟨base.setLane 0
       { busyLane with
         state := .measuring, burstLength := 8, samples := List.replicate 7 ⟨1200, 9, 2000⟩, work := .verification 512 },
     0, ⟨1200, 9, 2000⟩, .attempt, by decide, by decide, by decide, .inl ⟨512, rfl, rfl⟩⟩,
   ⟨base.setLane 0 { busyLane with calStep := some .burst, burstLength := 64, samples := List.replicate 63 ⟨1200, 9, 2000⟩ }, 0,
     ⟨1200, 9, 2000⟩, by decide⟩,
   ⟨base, 0, ⟨1200, 9, 2000⟩, by decide⟩⟩

theorem test_witness_BurstJudgedOrRepeated :
    (∃ (s : State) (l : LaneId),
       s.calm = true ∧
       (s.lane l).handed = none) ∧
    (∃ (s : State) (l : LaneId) (b : HandedBurst),
       s.calm = true ∧
       (s.lane l).handed = some b ∧
       ((b.purpose = .attempt ∧ (s.lane l).grant = none) ∨ (b.purpose = .capture ∧ (s.lane l).capture = none))) ∧
    (∃ (s : State) (l : LaneId) (b : HandedBurst),
       s.calm = true ∧
       (s.lane l).handed = some b ∧
       b.purpose = .reference) ∧
    (∃ b : HandedBurst, b.reduce.returned = none) ∧
    (∃ (b : HandedBurst) (r : Returned), b.reduce.returned = some r) ∧
    (∃ (s : State) (l : LaneId) (b : HandedBurst) (g : Grant) (d : Definition),
       let a := classify s.profile d (s.circuit g.entry.circuit).baseline b
       s.calm = true ∧
       (s.lane l).handed = some b ∧
       b.purpose = .attempt ∧
       (s.lane l).grant = some g ∧
       (s.circuit g.entry.circuit).definition = some d ∧
       (a.cls ≠ .pass ∧ a.cls ≠ .continuityOnly) ∧
       g.attempts.length < g.retries) :=
  ⟨⟨base, 0, by decide⟩,
   ⟨base.setLane 0 { busyLane with handed := some (burst .attempt 5) }, 0, burst .attempt 5, by decide⟩,
   ⟨base.setLane 0 { busyLane with handed := some (burst .reference 5) }, 0, burst .reference 5, by decide⟩,
   ⟨burst .reference 23, by decide⟩,
   ⟨burst .reference 24, ⟨9, 8, 2000, 1355⟩, by decide⟩,
   ⟨(crossed .probing 0).setLane 0
       { busyLane with
         state := .tuned, handed := some (burst .attempt 23), grant := some ⟨⟨512, .sense, none, false, false⟩, 8, 1, [], .tuning⟩,
         work := .verification 512 },
     0, burst .attempt 23, ⟨⟨512, .sense, none, false, false⟩, 8, 1, [], .tuning⟩, wire, by decide⟩⟩

theorem test_witness_VerdictConcludes :
    (∃ (s : State) (l : LaneId) (b : HandedBurst) (g : Grant) (d : Definition),
       let a := classify s.profile d (s.circuit g.entry.circuit).baseline b
       s.calm = true ∧
       (∀ l' : LaneId, l' ≠ l → (s.lane l').ready = false) ∧
       (∀ e ∈ s.queue, (s.circuit e.circuit).definition.map (·.lane) ≠ some l) ∧
       s.campaign.state = .idle ∧
       s.transmitter ≠ .idle ∧
       1 ≤ s.reserved.verdict ∧
       (s.lane l).state = .tuned ∧
       (s.lane l).handed = some b ∧
       b.purpose = .attempt ∧
       (s.lane l).grant = some g ∧
       g.entry.tag = none ∧
       (s.circuit g.entry.circuit).definition = some d ∧
       (a.cls = .pass ∨ a.cls = .continuityOnly ∨ g.retries ≤ g.attempts.length)) ∧
    (∃ (s : State) (l : LaneId) (b : HandedBurst) (g : Grant) (d : Definition) (tag : Nat) (r : Closure),
       let a := classify s.profile d (s.circuit g.entry.circuit).baseline b
       let kind := combine (g.attempts.map (·.cls)) a.cls
       let r' : Closure :=
         { r with
           counts := r.counts.bump kind, spanEvents := r.spanEvents + (if g.entry.spanEvent then 1 else 0)
           outstanding := r.outstanding - 1 }
       s.calm = true ∧
       (∀ l' : LaneId, l' ≠ l → (s.lane l').ready = false) ∧
       s.campaign.state = .idle ∧
       s.transmitter ≠ .idle ∧
       1 ≤ s.reserved.verdict ∧
       (s.lane l).state = .tuned ∧
       (s.lane l).handed = some b ∧
       b.purpose = .attempt ∧
       (s.lane l).grant = some g ∧
       g.entry.tag = some tag ∧
       s.closures.find? (fun x => x.windowId == tag) = some r ∧
       1 ≤ s.reserved.summary ∧
       (s.circuit g.entry.circuit).definition = some d ∧
       (a.cls = .pass ∨ a.cls = .continuityOnly ∨ g.retries ≤ g.attempts.length) ∧
       (∀ e ∈ s.queue, (s.circuit e.circuit).definition.map (·.lane) ≠ some l)) ∧
    (∃ (s : State) (l : LaneId) (b : HandedBurst) (g : Grant) (d d' : Definition) (e : QueueEntry)
       (before after : List QueueEntry),
       let a := classify s.profile d (s.circuit g.entry.circuit).baseline b
       s.calm = true ∧
       (∀ l' : LaneId, l' ≠ l → (s.lane l').ready = false) ∧
       s.campaign.state = .idle ∧
       s.transmitter ≠ .idle ∧
       1 ≤ s.reserved.verdict ∧
       (s.lane l).state = .tuned ∧
       (s.lane l).handed = some b ∧
       b.purpose = .attempt ∧
       (s.lane l).grant = some g ∧
       g.entry.tag = none ∧
       (s.circuit g.entry.circuit).definition = some d ∧
       (a.cls = .pass ∨ a.cls = .continuityOnly ∨ g.retries ≤ g.attempts.length) ∧
       s.pendingProfile = none ∧
       ((s.lane l).age < s.profile.interval ∧ (s.lane l).calRequested = false) ∧
       s.queue = before ++ e :: after ∧
       (∀ x ∈ before, (s.circuit x.circuit).definition.map (·.lane) ≠ some l) ∧
       (∀ x ∈ before ++ after, x.circuit ≠ e.circuit) ∧
       e.circuit ≠ g.entry.circuit ∧
       (s.circuit e.circuit).definition = some d' ∧
       d'.lane = l ∧
       s.occupied < 32) ∧
    (∃ (s : State) (t : Nat) (r : Closure), s.closures.find? (fun c => c.windowId == t) = some r ∧ 1 ≤ s.reserved.summary) :=
  ⟨⟨{ (crossed .probing 0).setLane 0
         { busyLane with
           state := .tuned, handed := some (burst .attempt 23), grant := some ⟨⟨512, .sense, none, false, false⟩, 8, 0, [], .tuning⟩,
           work := .verification 512 } with
       transmitter := .reply 0, reserved := { verdict := 1 } },
     0, burst .attempt 23, ⟨⟨512, .sense, none, false, false⟩, 8, 0, [], .tuning⟩, wire, by decide⟩,
   ⟨{ (crossed .probing 0).setLane 0
         { busyLane with
           state := .tuned, handed := some (burst .attempt 23), grant := some ⟨⟨512, .sense, some 1, false, false⟩, 8, 0, [], .tuning⟩,
           work := .verification 512 } with
       transmitter := .reply 0, reserved := { verdict := 1, summary := 1 }, closures := [account 1 1] },
     0, burst .attempt 23, ⟨⟨512, .sense, some 1, false, false⟩, 8, 0, [], .tuning⟩, wire, 1, account 1 1, by decide⟩,
   ⟨{ ((crossed .probing 0).setCircuit 7 (circ .pending)).setLane 0
         { busyLane with
           state := .tuned, handed := some (burst .attempt 23), grant := some ⟨⟨512, .sense, none, false, false⟩, 8, 0, [], .tuning⟩,
           work := .verification 512 } with
       transmitter := .reply 0, reserved := { verdict := 1 }, queue := [⟨7, .sense, none, false, false⟩] },
     0, burst .attempt 23, ⟨⟨512, .sense, none, false, false⟩, 8, 0, [], .tuning⟩, wire, wire, ⟨7, .sense, none, false, false⟩, [], [], by decide⟩,
   ⟨{ base with closures := [account 1 1], reserved := { summary := 1 } }, 1, account 1 1, by decide⟩⟩

theorem test_witness_CaptureBursts :
    (∃ (s : State) (l : LaneId) (b : HandedBurst) (w : CaptureWork) (d : Definition) (r : Returned),
       s.calm = true ∧
       (s.lane l).handed = some b ∧
       b.purpose = .capture ∧
       (s.lane l).capture = some w ∧
       (s.circuit w.circuit).definition = some d ∧
       b.reduce.returned = some r ∧
       r.code = d.code ∧
       b.reduce.clipped = false ∧
       w.kept.length + 1 < w.bursts) ∧
    (∃ (s : State) (l : LaneId) (b : HandedBurst) (w : CaptureWork) (d : Definition) (result : CaptureResult),
       s.calm = true ∧
       (s.lane l).handed = some b ∧
       b.purpose = .capture ∧
       (s.lane l).capture = some w ∧
       (s.circuit w.circuit).definition = some d ∧
       (∀ l' : LaneId, l' ≠ l → (s.lane l').ready = false) ∧
       (∀ e ∈ s.queue, (s.circuit e.circuit).definition.map (·.lane) ≠ some l) ∧
       (s.lane l).state = .tuned ∧
       (s.campaign.host = false ∧ s.campaign.window = false ∧ s.campaign.deferredSuspend = false) ∧
       (∀ e ∈ s.campaign.entries, e.status ≠ .unprocessed) ∧
       (∃ e ∈ s.campaign.entries, e.circuit ≠ w.circuit ∧ e.status.isCommitting = true) ∧
       ((match b.reduce.returned with
         | none => some (.noReturn (w.kept.length + 1) b.reduce.mean)
         | some r =>
           let levels := w.kept.map (·.1) ++ [levelOf r b.trim]
           if r.code ≠ d.code then some (.wrongCode (w.kept.length + 1) r.code)
           else if b.reduce.clipped = true then some (.clipped (w.kept.length + 1))
           else if w.bursts ≤ w.kept.length + 1 ∧ w.spreadLimit < spreadOf levels then
             some (.unstableCapture (spreadOf levels))
           else none) = some result)) ∧
    (∃ (s : State) (l : LaneId) (b : HandedBurst) (w : CaptureWork) (d : Definition) (r : Returned),
       let kept := w.kept ++ [(levelOf r b.trim, pathDelay r.rawDelay b.offset)]
       s.calm = true ∧
       (s.lane l).handed = some b ∧
       b.purpose = .capture ∧
       (s.lane l).capture = some w ∧
       (s.circuit w.circuit).definition = some d ∧
       (∀ l' : LaneId, l' ≠ l → (s.lane l').ready = false) ∧
       (∀ e ∈ s.queue, (s.circuit e.circuit).definition.map (·.lane) ≠ some l) ∧
       (s.lane l).state = .tuned ∧
       (s.campaign.host = false ∧ s.campaign.window = false ∧ s.campaign.deferredSuspend = false) ∧
       (∀ e ∈ s.campaign.entries, e.status ≠ .unprocessed) ∧
       b.reduce.returned = some r ∧
       r.code = d.code ∧
       b.reduce.clipped = false ∧
       w.bursts ≤ w.kept.length + 1 ∧
       spreadOf (kept.map (·.1)) ≤ w.spreadLimit ∧
       s.insideRegion w.circuit = false ∧
       s.campaign.handOff = [] ∧
       (s.commits = [] ∧ s.writing = none)) :=
  ⟨⟨{ (crossed .capturing 0).setLane 0
         { busyLane with
           state := .tuned, handed := some (burst .capture 1200), capture := some (captureOf 2), work := .capture 512 } with
       region := { n := 0 }
       campaign := { state := .running, entries := [⟨512, .measuring 0⟩, ⟨2, .committing 0⟩] } },
     0, burst .capture 1200, captureOf 2, wire, ⟨9, 8, 2000, 3062⟩, by decide⟩,
   ⟨{ (crossed .capturing 0).setLane 0
         { busyLane with
           state := .tuned, handed := some (burst .capture 23), capture := some (captureOf 2), work := .capture 512 } with
       region := { n := 0 }
       campaign := { state := .running, entries := [⟨512, .measuring 0⟩, ⟨2, .committing 0⟩] } },
     0, burst .capture 23, captureOf 2, wire, .noReturn 1 23, by decide⟩,
   ⟨{ (crossed .capturing 0).setLane 0
         { busyLane with
           state := .tuned, handed := some (burst .capture 1200), capture := some (captureOf 1), work := .capture 512 } with
       region := { n := 0 }
       campaign := { state := .running, entries := [⟨512, .measuring 0⟩, ⟨2, .committing 0⟩] } },
     0, burst .capture 1200, captureOf 1, wire, ⟨9, 8, 2000, 3062⟩, by decide⟩⟩

theorem test_witness_TimeoutsByState :
    (∃ (s : State) (l : LaneId) (g : Grant),
       s.calm = true ∧
       s.lanesBusy = true ∧
       (s.lane l).state = .tuning ∧
       (s.lane l).grant = some g) ∧
    (∃ (s : State) (l : LaneId) (w : CaptureWork),
       s.calm = true ∧
       s.lanesBusy = true ∧
       (s.lane l).state = .tuning ∧
       (s.lane l).grant = none ∧
       (s.lane l).capture = some w ∧
       (s.campaign.host = false ∧ s.campaign.window = false)) ∧
    (∃ (s : State) (l : LaneId),
       s.calm = true ∧
       (s.lane l).state = .tuning ∧
       (s.lane l).grant = none ∧
       (s.lane l).capture = none) ∧
    (∃ (s : State) (l : LaneId),
       s.calm = true ∧
       (s.lane l).state = .calibrating) ∧
    (∃ (s : State) (l : LaneId),
       s.calm = true ∧
       (s.lane l).state ≠ .tuning ∧
       (s.lane l).state ≠ .calibrating) ∧
    (∃ (s : State) (l : LaneId) (g : Grant),
       s.calm = true ∧
       s.lanesBusy = true ∧
       (s.lane l).state = .measuring ∧
       (s.lane l).grant = some g) ∧
    (∃ (s : State) (l : LaneId) (w : CaptureWork),
       s.calm = true ∧
       s.lanesBusy = true ∧
       (s.lane l).state = .measuring ∧
       (s.lane l).grant = none ∧
       (s.lane l).capture = some w ∧
       (s.campaign.host = false ∧ s.campaign.window = false)) ∧
    (∃ (s : State) (l : LaneId),
       s.calm = true ∧
       (s.lane l).state = .measuring ∧
       (s.lane l).grant = none ∧
       (s.lane l).capture = none) ∧
    (∃ (s : State) (l : LaneId),
       s.calm = true ∧
       (s.lane l).state = .calibrating) ∧
    (∃ (s : State) (l : LaneId),
       s.calm = true ∧
       (s.lane l).state ≠ .measuring ∧
       (s.lane l).state ≠ .calibrating) :=
  ⟨⟨base.setLane 0 { busyLane with state := .tuning, grant := some ⟨⟨512, .sense, none, false, false⟩, 8, 1, [], .tuning⟩ }, 0,
     ⟨⟨512, .sense, none, false, false⟩, 8, 1, [], .tuning⟩, by decide⟩,
   ⟨base.setLane 0 { busyLane with state := .tuning, capture := some (captureOf 1) }, 0, captureOf 1, by decide⟩,
   ⟨base.setLane 0 { busyLane with state := .tuning }, 0, by decide⟩,
   ⟨base, 0, by decide⟩,
   ⟨sending.setLane 0 { busyLane with state := .faulted }, 0, by decide⟩,
   ⟨base.setLane 0 { busyLane with state := .measuring, grant := some ⟨⟨512, .sense, none, false, false⟩, 8, 1, [], .tuning⟩ }, 0,
     ⟨⟨512, .sense, none, false, false⟩, 8, 1, [], .tuning⟩, by decide⟩,
   ⟨base.setLane 0 { busyLane with state := .measuring, capture := some (captureOf 1) }, 0, captureOf 1, by decide⟩,
   ⟨base.setLane 0 { busyLane with state := .measuring }, 0, by decide⟩,
   ⟨base, 0, by decide⟩,
   ⟨sending.setLane 0 { busyLane with state := .faulted }, 0, by decide⟩⟩

theorem test_witness_ParkEnds :
    (∃ (s : State) (l : LaneId),
       s.calm = true ∧
       (s.lane l).state ≠ .parking ∧
       (s.lane l).state ≠ .calibrating) ∧
    (∃ (s : State) (l : LaneId),
       s.calm = true ∧
       (s.lane l).state = .parking ∧
       s.pendingProfile = none ∧
       (s.lane l).errorCount ≠ 2 ∧
       ((s.lane l).age < s.profile.interval ∧ (s.lane l).calRequested = false) ∧
       (∀ e ∈ s.queue, (s.circuit e.circuit).definition.map (·.lane) ≠ some l) ∧
       s.campaign.state ≠ .running) ∧
    (∃ (s : State) (l : LaneId),
       s.calm = true ∧
       (s.lane l).state = .parking ∧
       s.pendingProfile = none ∧
       (s.lane l).errorCount ≠ 2 ∧
       (s.profile.interval ≤ (s.lane l).age ∨ (s.lane l).calRequested = true)) ∧
    (∃ (s : State) (l : LaneId) (err : LaneError),
       s.calm = true ∧
       (s.lane l).state = .parking ∧
       s.pendingProfile = none ∧
       (s.lane l).errorCount = 2 ∧
       (s.lane l).lastError = some err ∧
       (∀ e ∈ s.queue, (s.circuit e.circuit).definition.map (·.lane) ≠ some l) ∧
       s.campaign.state ≠ .running) ∧
    (∃ (s : State) (l : LaneId) (e : QueueEntry) (before after : List QueueEntry) (d : Definition),
       s.calm = true ∧
       (s.lane l).state = .parking ∧
       s.pendingProfile = none ∧
       (s.lane l).errorCount ≠ 2 ∧
       ((s.lane l).age < s.profile.interval ∧ (s.lane l).calRequested = false) ∧
       s.queue = before ++ e :: after ∧
       (∀ x ∈ before, (s.circuit x.circuit).definition.map (·.lane) ≠ some l) ∧
       (∀ x ∈ before ++ after, x.circuit ≠ e.circuit) ∧
       (s.circuit e.circuit).definition = some d ∧
       d.lane = l ∧
       s.occupied < 32) ∧
    (∃ (s : State) (l : LaneId) (err : LaneError) (e : QueueEntry) (before after : List QueueEntry) (d : Definition),
       s.calm = true ∧
       (s.lane l).state = .parking ∧
       s.pendingProfile = none ∧
       (s.lane l).errorCount = 2 ∧
       (s.lane l).lastError = some err ∧
       s.queue = before ++ e :: after ∧
       (∀ x ∈ before ++ after, (s.circuit x.circuit).definition.map (·.lane) ≠ some l) ∧
       (∀ x ∈ before ++ after, x.circuit ≠ e.circuit) ∧
       (s.circuit e.circuit).definition = some d ∧
       d.lane = l ∧
       e.tag = none ∧
       s.campaign.state = .idle ∧
       s.transmitter ≠ .idle ∧
       s.occupied < 31) ∧
    (∃ (s : State) (l : LaneId) (p : Profile),
       s.calm = true ∧
       (s.lane l).state = .parking ∧
       s.pendingProfile = some p ∧
       (s.lane l).errorCount ≠ 2 ∧
       (∀ l' : LaneId, l' ≠ l → (s.lane l').state = .parked ∨ (s.lane l').state = .faulted) ∧
       s.queue = [] ∧
       s.campaign.state ≠ .running ∧
       s.transmitter ≠ .idle ∧
       1 ≤ s.reserved.profileApplied) ∧
    (∃ (s : State) (l : LaneId) (before after : List CaptureEntry) (c : Nat) (d : Definition),
       let waits (x : CaptureEntry) : Bool :=
         x.status == .unprocessed && (s.circuit x.circuit).definition.map (·.lane) == some l &&
           (s.circuit x.circuit).state == .idle && !(s.circuit x.circuit).changing
       s.calm = true ∧
       (s.lane l).state = .parking ∧
       s.pendingProfile = none ∧
       (s.lane l).errorCount ≠ 2 ∧
       ((s.lane l).age < s.profile.interval ∧ (s.lane l).calRequested = false) ∧
       (∀ e ∈ s.queue, (s.circuit e.circuit).definition.map (·.lane) ≠ some l) ∧
       s.campaign.state = .running ∧
       (s.campaign.entries.map (·.circuit)).Nodup ∧
       (s.lane l).fresh = true ∧
       s.campaign.entries = before ++ ⟨c, .unprocessed⟩ :: after ∧
       (∀ x ∈ before, waits x = false) ∧
       waits ⟨c, .unprocessed⟩ = true ∧
       (s.circuit c).definition = some d ∧
       s.insideRegion c = false ∧
       (s.campaign.entries.countP fun x => x.status.isCommitting) < 8) ∧
    (∃ (s : State) (l : LaneId),
       let waits (x : CaptureEntry) : Bool :=
         x.status == .unprocessed && (s.circuit x.circuit).definition.map (·.lane) == some l &&
           (s.circuit x.circuit).state == .idle && !(s.circuit x.circuit).changing
       s.calm = true ∧
       (s.lane l).state = .parking ∧
       s.pendingProfile = none ∧
       (s.lane l).errorCount ≠ 2 ∧
       ((s.lane l).age < s.profile.interval ∧ (s.lane l).calRequested = false) ∧
       (∀ e ∈ s.queue, (s.circuit e.circuit).definition.map (·.lane) ≠ some l) ∧
       s.campaign.state = .running ∧
       (s.campaign.entries.map (·.circuit)).Nodup ∧
       (s.campaign.host = false ∧ s.campaign.window = false ∧ s.campaign.deferredSuspend = false) ∧
       (∃ x ∈ s.campaign.entries, waits x = false ∧ x.status.isFinished = false) ∧
       (∃ x ∈ s.campaign.entries, waits x = true) ∧
       (∀ x ∈ s.campaign.entries, waits x = true → s.insideRegion x.circuit = true)) ∧
    (∃ (s : State) (l : LaneId) (err : LaneError),
       let waits (x : CaptureEntry) : Bool :=
         x.status == .unprocessed && (s.circuit x.circuit).definition.map (·.lane) == some l &&
           (s.circuit x.circuit).state == .idle && !(s.circuit x.circuit).changing
       s.calm = true ∧
       (s.lane l).state = .parking ∧
       s.pendingProfile = none ∧
       (s.lane l).errorCount = 2 ∧
       (s.lane l).lastError = some err ∧
       (∀ e ∈ s.queue, (s.circuit e.circuit).definition.map (·.lane) ≠ some l) ∧
       s.campaign.state = .running ∧
       (s.campaign.entries.map (·.circuit)).Nodup ∧
       (s.campaign.host = false ∧ s.campaign.window = false ∧ s.campaign.deferredSuspend = false) ∧
       (∃ x ∈ s.campaign.entries, waits x = false ∧ x.status.isFinished = false) ∧
       (∃ x ∈ s.campaign.entries, waits x = true)) ∧
    (∃ (s : State) (l : LaneId),
       let waits (x : CaptureEntry) : Bool :=
         x.status == .unprocessed && (s.circuit x.circuit).definition.map (·.lane) == some l &&
           (s.circuit x.circuit).state == .idle && !(s.circuit x.circuit).changing
       s.calm = true ∧
       (s.lane l).state = .parking ∧
       s.pendingProfile = none ∧
       (s.lane l).errorCount ≠ 2 ∧
       ((s.lane l).age < s.profile.interval ∧ (s.lane l).calRequested = false) ∧
       (∀ e ∈ s.queue, (s.circuit e.circuit).definition.map (·.lane) ≠ some l) ∧
       s.campaign.state = .running ∧
       ((s.lane l).fresh = false ∨ 8 ≤ s.campaign.entries.countP fun x => x.status.isCommitting) ∧
       (∀ x ∈ s.campaign.entries, waits x = true → s.insideRegion x.circuit = false) ∧
       (s.campaign.entries.map (·.circuit)).Nodup) :=
  ⟨⟨base.setLane 0 restLane, 0, by decide⟩,
   ⟨base.setLane 0 { restLane with state := .parking, age := 9 }, 0, by decide⟩,
   ⟨base.setLane 0 { restLane with state := .parking, age := 10 }, 0, by decide⟩,
   ⟨base.setLane 0 { restLane with state := .parking, errorCount := 2, lastError := some ⟨.tuneFailure, none⟩ }, 0, ⟨.tuneFailure, none⟩, by decide⟩,
   ⟨{ (crossed .pending 0).setLane 0 { restLane with state := .parking } with queue := [⟨512, .sense, none, false, false⟩] }, 0,
     ⟨512, .sense, none, false, false⟩, [], [], wire, by decide⟩,
   ⟨{ (crossed .pending 0).setLane 0 { restLane with state := .parking, errorCount := 2, lastError := some ⟨.tuneFailure, none⟩ } with
       queue := [⟨512, .sense, none, false, false⟩], transmitter := .reply 0 },
     0, ⟨.tuneFailure, none⟩, ⟨512, .sense, none, false, false⟩, [], [], wire, by decide⟩,
   ⟨{ base with
       lanes := (Vector.replicate 8 restLane).set 0 { restLane with state := .parking }, pendingProfile := some {}
       transmitter := .reply 0, reserved := { profileApplied := 1 } },
     0, {}, by decide⟩,
   ⟨{ (crossed .idle 0).setLane 0 { restLane with state := .parking, fresh := true } with
       region := { n := 0 }, campaign := { state := .running, entries := [⟨2, .committing 1⟩, ⟨512, .unprocessed⟩] } },
     0, [⟨2, .committing 1⟩], [], 512, wire, by decide⟩,
   ⟨{ (crossed .idle 0).setLane 0 { restLane with state := .parking } with
       region := { n := 32 }, campaign := { state := .running, entries := [⟨512, .unprocessed⟩, ⟨2, .committing 1⟩] } },
     0, by decide⟩,
   ⟨{ (crossed .idle 0).setLane 0 { restLane with state := .parking, errorCount := 2, lastError := some ⟨.tuneFailure, none⟩ } with
       region := { n := 0 }, campaign := { state := .running, entries := [⟨512, .unprocessed⟩, ⟨2, .committing 1⟩] } },
     0, ⟨.tuneFailure, none⟩, by decide⟩,
   ⟨{ (crossed .idle 0).setLane 0 { restLane with state := .parking } with
       region := { n := 0 }, campaign := { state := .running, entries := [⟨512, .unprocessed⟩, ⟨2, .committing 1⟩] } },
     0, by decide⟩⟩

theorem test_witness_ReferenceRunEnds :
    (∃ (s : State) (l : LaneId) (r : CalResult),
       s.calm = true ∧
       (s.lane l).state = .calibrating ∧
       (s.lane l).calStep = some .park ∧
       (s.lane l).calResult = some r ∧
       s.pendingProfile = none ∧
       1 ≤ s.profile.interval ∧
       (∀ e ∈ s.queue, (s.circuit e.circuit).definition.map (·.lane) ≠ some l) ∧
       s.campaign.state ≠ .running ∧
       r.outcome = .success) ∧
    (∃ (s : State) (l : LaneId) (r : CalResult),
       s.calm = true ∧
       (s.lane l).state = .calibrating ∧
       (s.lane l).calStep = some .park ∧
       (s.lane l).calResult = some r ∧
       s.pendingProfile = none ∧
       1 ≤ s.profile.interval ∧
       (∀ e ∈ s.queue, (s.circuit e.circuit).definition.map (·.lane) ≠ some l) ∧
       s.campaign.state ≠ .running ∧
       r.outcome ≠ .success ∧
       (s.lane l).errorCount = 0) ∧
    (∃ (s : State) (l : LaneId) (r : CalResult),
       s.calm = true ∧
       (s.lane l).state = .calibrating ∧
       (s.lane l).calStep = some .park ∧
       (s.lane l).calResult = some r ∧
       s.pendingProfile = none ∧
       1 ≤ s.profile.interval ∧
       (∀ e ∈ s.queue, (s.circuit e.circuit).definition.map (·.lane) ≠ some l) ∧
       s.campaign.state ≠ .running ∧
       r.outcome ≠ .success ∧
       1 ≤ (s.lane l).errorCount) :=
  ⟨⟨base.setLane 0 { busyLane with calStep := some .park, calResult := some ⟨.success, 600, 65535⟩, errorCount := 1 }, 0,
     ⟨.success, 600, 65535⟩, by decide⟩,
   ⟨base.setLane 0 { busyLane with calStep := some .park, calResult := some ⟨.wrongCode, 600, 65535⟩, errorCount := 0 }, 0,
     ⟨.wrongCode, 600, 65535⟩, by decide⟩,
   ⟨base.setLane 0 { busyLane with calStep := some .park, calResult := some ⟨.trimRange, 600, 65535⟩, errorCount := 1 }, 0,
     ⟨.trimRange, 600, 65535⟩, by decide⟩⟩

theorem test_witness_SenseTransition :
    (∃ (s : State) (l : LineId) (high : Bool),
       s.calm = true ∧
       (s.line l).input = high) ∧
    (∃ (s : State) (l : LineId) (high : Bool),
       let latched := (((s.line l).mode == .edge && (s.line l).bothEdges) || high == ((s.line l).polarity == .high))
       let r : SenseLine :=
         { s.line l with
           input := high, raw := (s.line l).raw || latched, masked := ((s.line l).raw || latched) && (s.line l).enabled }
       s.calm = true ∧
       (s.line l).input ≠ high ∧
       ((s.line l).masked = true ∨ r.masked = false)) ∧
    (∃ (s : State) (l : LineId) (high : Bool),
       let latched := (((s.line l).mode == .edge && (s.line l).bothEdges) || high == ((s.line l).polarity == .high))
       let r : SenseLine :=
         { s.line l with
           input := high, raw := (s.line l).raw || latched, masked := ((s.line l).raw || latched) && (s.line l).enabled }
       s.calm = true ∧
       (s.line l).input ≠ high ∧
       ((s.line l).masked = false ∧ r.masked = true) ∧
       (r.span = 0 ∨ ((∀ w ∈ s.stack, r.span ∉ w.spans) ∧ r.action = .logOnly))) ∧
    (∃ (s : State) (l : LineId) (high : Bool) (before after : List Window) (w : Window),
       let latched := (((s.line l).mode == .edge && (s.line l).bothEdges) || high == ((s.line l).polarity == .high))
       let r : SenseLine :=
         { s.line l with
           input := high, raw := (s.line l).raw || latched, masked := ((s.line l).raw || latched) && (s.line l).enabled }
       s.calm = true ∧
       (s.line l).input ≠ high ∧
       ((s.line l).masked = false ∧ r.masked = true) ∧
       r.span ≠ 0 ∧
       s.stack = before ++ w :: after ∧
       (∀ x ∈ before, r.span ∉ x.spans) ∧
       r.span ∈ w.spans) ∧
    (∃ (s : State) (l : LineId) (high : Bool),
       let latched := (((s.line l).mode == .edge && (s.line l).bothEdges) || high == ((s.line l).polarity == .high))
       let r : SenseLine :=
         { s.line l with
           input := high, raw := (s.line l).raw || latched, masked := ((s.line l).raw || latched) && (s.line l).enabled }
       s.calm = true ∧
       (s.line l).input ≠ high ∧
       ((s.line l).masked = false ∧ r.masked = true) ∧
       s.lanesBusy = true ∧
       r.span ≠ 0 ∧
       (∀ w ∈ s.stack, r.span ∉ w.spans) ∧
       r.action = .verify ∧
       (∀ c ∈ s.crossing r.span, (s.circuit c).state ≠ .capturing) ∧
       (s.crossing r.span).Nodup) ∧
    (∃ (s : State) (l : LineId) (high : Bool),
       s.phase = .off) ∧
    (∃ (s : State) (l : LineId) (high : Bool),
       let latched := (((s.line l).mode == .edge && (s.line l).bothEdges) || high == ((s.line l).polarity == .high))
       let r : SenseLine :=
         { s.line l with
           input := high, raw := (s.line l).raw || latched, masked := ((s.line l).raw || latched) && (s.line l).enabled }
       let capturing := (s.crossing r.span).filter fun c => (s.circuit c).state = .capturing
       let measuring := capturing.filter fun c => s.entryIs c EntryStatus.isMeasuring
       s.calm = true ∧
       (s.line l).input ≠ high ∧
       ((s.line l).masked = false ∧ r.masked = true) ∧
       s.lanesBusy = true ∧
       r.span ≠ 0 ∧
       (∀ w ∈ s.stack, r.span ∉ w.spans) ∧
       r.action = .verify ∧
       (s.crossing r.span).Nodup ∧
       (s.campaign.entries.map (·.circuit)).Nodup ∧
       (s.campaign.host = false ∧ s.campaign.window = false ∧ s.campaign.deferredSuspend = false) ∧
       (measuring = [] ∨ ∃ e ∈ s.campaign.entries, e.circuit ∉ measuring ∧ e.status.isFinished = false)) :=
  ⟨⟨base, 15, false, by decide⟩,
   ⟨base, 15, true, by decide⟩,
   ⟨base.setLine 15 { enabled := true }, 15, true, by decide⟩,
   ⟨{ base.setLine 15 { enabled := true, span := 1 } with stack := [window 2 60] }, 15, true, [], [], window 2 60, by decide⟩,
   ⟨(crossed .idle 0).setLine 15 { enabled := true, span := 1, action := .verify }, 15, true, by decide⟩,
   ⟨{ base with phase := .off }, 15, true, by decide⟩,
   ⟨{ (crossed .capturing 0).setLine 15 { enabled := true, span := 1, action := .verify } with
       campaign := { state := .running, entries := [⟨512, .measuring 0⟩, ⟨2, .committing 1⟩] } },
     15, true, by decide⟩⟩

theorem test_witness_StoreWriteSteps :
    (∃ (s : State) (agrees erased : Bool),
       s.calm = true ∧
       (s.writing = none ∨ s.commits = [])) ∧
    (∃ (s : State) (erased : Bool) (w : Writing),
       s.calm = true ∧
       s.commits ≠ [] ∧
       s.writing = some w ∧
       w.step ≠ .eraseCheck) ∧
    (∃ (s : State) (agrees erased : Bool) (w : Writing) (tag : U8) (p : ProtectionRecord) (session : Bool),
       s.calm = true ∧
       s.processor = .committing tag (.protect p session) ∧
       s.commits = [⟨.writeProtection p, .processor⟩] ∧
       s.writing = some w ∧
       s.replies.length < 8 ∧
       agrees = true ∧
       (w.step = .write ∨ w.step = .rewrite)) ∧
    (∃ (s : State) (agrees erased : Bool) (w : Writing) (tag : U8) (p : ProtectionRecord) (session : Bool) (x : Slot ProtectionRecord),
       s.calm = true ∧
       s.processor = .committing tag (.protect p session) ∧
       s.commits = [⟨.writeProtection p, .processor⟩] ∧
       s.writing = some w ∧
       s.replies.length < 8 ∧
       w.saved = .protection x ∧
       agrees = true ∧
       w.step = .restore) ∧
    (∃ (s : State) (agrees erased : Bool) (w : Writing) (tag : U8) (p : ProtectionRecord) (session : Bool) (x : Slot ProtectionRecord),
       s.calm = true ∧
       s.processor = .committing tag (.protect p session) ∧
       s.commits = [⟨.writeProtection p, .processor⟩] ∧
       s.writing = some w ∧
       s.replies.length < 8 ∧
       w.saved = .protection x ∧
       w.step = .eraseCheck) :=
  ⟨⟨base, true, false, by decide⟩,
   ⟨{ base with commits := [⟨.eraseBaseline 1, .processor⟩], writing := some ⟨.restore, .baseline 1 .erased⟩ }, false,
     ⟨.restore, .baseline 1 .erased⟩, by decide⟩,
   ⟨{ base with
       processor := .committing 1 (.protect ⟨{ n := 32 }, .line⟩ true), commits := [⟨.writeProtection ⟨{ n := 32 }, .line⟩, .processor⟩]
       writing := some ⟨.rewrite, .protection .erased⟩ },
     true, false, ⟨.rewrite, .protection .erased⟩, 1, ⟨{ n := 32 }, .line⟩, true, by decide⟩,
   ⟨{ base with
       processor := .committing 1 (.protect ⟨{ n := 32 }, .line⟩ true), commits := [⟨.writeProtection ⟨{ n := 32 }, .line⟩, .processor⟩]
       writing := some ⟨.restore, .protection .erased⟩ },
     true, false, ⟨.restore, .protection .erased⟩, 1, ⟨{ n := 32 }, .line⟩, true, .erased, by decide⟩,
   ⟨{ base with
       processor := .committing 1 (.protect ⟨{ n := 32 }, .line⟩ true), commits := [⟨.writeProtection ⟨{ n := 32 }, .line⟩, .processor⟩]
       writing := some ⟨.eraseCheck, .protection .erased⟩ },
     true, false, ⟨.eraseCheck, .protection .erased⟩, 1, ⟨{ n := 32 }, .line⟩, true, .erased, by decide⟩⟩

theorem test_witness_CommitsTakeEffect :
    (∃ (s : State) (erased : Bool) (w : Writing) (tag : U8) (id : Nat) (d : Definition) (kind : DefineKind) (clamped second : Bool),
       s.calm = true ∧
       s.processor = .committing tag (.define id d kind clamped second) ∧
       s.commits = [⟨.writeDefinition id d, .processor⟩] ∧
       s.writing = some w ∧
       (w.step = .write ∨ w.step = .rewrite) ∧
       s.replies.length < 8 ∧
       s.campaign.state = .idle ∧
       second = false ∧
       kind ≠ .discarding ∧
       (kind = .new → (s.circuit id).state ≠ .unreadable) ∧
       s.spansExact) ∧
    (∃ (s : State) (erased : Bool) (w : Writing) (tag : U8) (id : Nat) (d : Definition) (kind : DefineKind) (clamped : Bool),
       s.calm = true ∧
       s.processor = .committing tag (.define id d kind clamped false) ∧
       (kind = .discarding ∨ (kind = .new ∧ (s.circuit id).state = .unreadable)) ∧
       s.commits = [⟨.writeDefinition id d, .processor⟩] ∧
       s.writing = some w ∧
       (w.step = .write ∨ w.step = .rewrite)) ∧
    (∃ (s : State) (erased : Bool) (w : Writing) (tag : U8) (id : Nat) (usesPermit : Bool),
       s.calm = true ∧
       s.processor = .committing tag (.delete id usesPermit false) ∧
       s.commits = [⟨.eraseBaseline id, .processor⟩] ∧
       s.writing = some w ∧
       (w.step = .write ∨ w.step = .rewrite)) ∧
    (∃ (s : State) (erased : Bool) (w : Writing) (tag : U8) (id : Nat) (usesPermit : Bool),
       s.calm = true ∧
       s.processor = .committing tag (.delete id usesPermit true) ∧
       s.commits = [⟨.eraseDefinition id, .processor⟩] ∧
       s.writing = some w ∧
       (w.step = .write ∨ w.step = .rewrite) ∧
       s.replies.length < 8 ∧
       s.campaign.state = .idle ∧
       s.spansExact) ∧
    (∃ (s : State) (erased : Bool) (w : Writing) (tag : U8) (id : Nat),
       s.calm = true ∧
       s.processor = .committing tag (.clearBaseline id) ∧
       s.commits = [⟨.eraseBaseline id, .processor⟩] ∧
       s.writing = some w ∧
       (w.step = .write ∨ w.step = .rewrite) ∧
       s.replies.length < 8 ∧
       s.campaign.state = .idle) ∧
    (∃ (s : State) (erased : Bool) (w : Writing) (tag : U8) (id : Nat) (d : Definition) (kind : DefineKind) (clamped : Bool),
       s.calm = true ∧
       s.processor = .committing tag (.define id d kind clamped true) ∧
       (kind = .new ∨ kind = .discarding) ∧
       s.commits = [⟨.eraseBaseline id, .processor⟩] ∧
       s.writing = some w ∧
       (w.step = .write ∨ w.step = .rewrite) ∧
       s.replies.length < 8 ∧
       s.campaign.state = .idle ∧
       s.spansExact) ∧
    (∃ (s : State) (agrees erased : Bool) (w : Writing) (tag code : U8) (job : Job) (op : StoreOp) (id : Nat) (uses : Bool) (d : Definition)
       (kind : DefineKind) (clamped : Bool) (x : Slot Definition),
       s.calm = true ∧
       s.processor = .committing tag job ∧
       s.commits = [⟨op, .processor⟩] ∧
       s.writing = some w ∧
       ((agrees = true ∧ w.step = .restore) ∨ w.step = .eraseCheck) ∧
       s.replies.length < 8 ∧
       s.campaign.state = .idle ∧
       w.saved = .definition id x ∧
       ((job = .define id d kind clamped false ∧ uses = (kind == .discarding) ∧ code = 0x20) ∨
          (job = .delete id uses true ∧ code = 0x21))) ∧
    (∃ (s : State) (agrees erased : Bool) (w : Writing) (tag code : U8) (job : Job) (op : StoreOp) (id : Nat) (uses : Bool) (d : Definition)
       (kind : DefineKind) (clamped : Bool) (x : Slot Baseline),
       s.calm = true ∧
       s.processor = .committing tag job ∧
       s.commits = [⟨op, .processor⟩] ∧
       s.writing = some w ∧
       ((agrees = true ∧ w.step = .restore) ∨ w.step = .eraseCheck) ∧
       s.replies.length < 8 ∧
       s.campaign.state = .idle ∧
       w.saved = .baseline id x ∧
       ((job = .define id d kind clamped true ∧ uses = (kind == .discarding) ∧ code = 0x20) ∨
          (job = .delete id uses false ∧ code = 0x21) ∨ (job = .clearBaseline id ∧ uses = true ∧ code = 0x22))) :=
  ⟨⟨{ crossed .idle 0 with
       processor := .committing 1 (.define 512 wire .overrideOnly false false), commits := [⟨.writeDefinition 512 wire, .processor⟩], writing := some ⟨.write, .definition 512 .erased⟩ },
     false, ⟨.write, .definition 512 .erased⟩, 1, 512, wire, .overrideOnly, false, false, by decide, by decide, by decide, by decide, by decide,
     by decide, by decide, by decide, by decide, by decide, crossed_spansExact _ _⟩,
   ⟨{ base with
       processor := .committing 1 (.define 512 wire .discarding false false), commits := [⟨.writeDefinition 512 wire, .processor⟩], writing := some ⟨.write, .definition 512 .erased⟩ },
     false, ⟨.write, .definition 512 .erased⟩, 1, 512, wire, .discarding, false, by decide⟩,
   ⟨{ base with
       processor := .committing 1 (.delete 512 true false), commits := [⟨.eraseBaseline 512, .processor⟩], writing := some ⟨.write, .baseline 512 .erased⟩ },
     false, ⟨.write, .baseline 512 .erased⟩, 1, 512, true, by decide⟩,
   ⟨{ crossed .idle 0 with
       processor := .committing 1 (.delete 512 true true), commits := [⟨.eraseDefinition 512, .processor⟩], writing := some ⟨.write, .definition 512 .erased⟩ },
     false, ⟨.write, .definition 512 .erased⟩, 1, 512, true, by decide, by decide, by decide, by decide, by decide, by decide, by decide,
     crossed_spansExact _ _⟩,
   ⟨{ base with
       processor := .committing 1 (.clearBaseline 512), commits := [⟨.eraseBaseline 512, .processor⟩], writing := some ⟨.write, .baseline 512 .erased⟩ },
     false, ⟨.write, .baseline 512 .erased⟩, 1, 512, by decide⟩,
   ⟨{ crossed .idle 0 with
       processor := .committing 1 (.define 512 wire .discarding true true), commits := [⟨.eraseBaseline 512, .processor⟩], writing := some ⟨.write, .baseline 512 .erased⟩ },
     false, ⟨.write, .baseline 512 .erased⟩, 1, 512, wire, .discarding, true, by decide, by decide, by decide, by decide, by decide,
     by decide, by decide, by decide, crossed_spansExact _ _⟩,
   ⟨{ base with
       processor := .committing 1 (.delete 512 true true), commits := [⟨.eraseDefinition 512, .processor⟩], writing := some ⟨.restore, .definition 512 .damaged⟩ },
     true, false, ⟨.restore, .definition 512 .damaged⟩, 1, 0x21, .delete 512 true true, .eraseDefinition 512, 512, true, wire, .discarding, false, .damaged,
     by decide⟩,
   ⟨{ base with
       processor := .committing 1 (.clearBaseline 512), commits := [⟨.eraseBaseline 512, .processor⟩], writing := some ⟨.restore, .baseline 512 .damaged⟩ },
     true, false, ⟨.restore, .baseline 512 .damaged⟩, 1, 0x22, .clearBaseline 512, .eraseBaseline 512, 512, true, wire, .discarding, false, .damaged,
     by decide⟩⟩

theorem test_witness_CaptureCommitConcludes :
    (∃ (s : State) (agrees erased ok : Bool) (w : Writing) (c : Nat) (b : Baseline) (x : Slot Baseline),
       s.calm = true ∧
       s.lanesBusy = true ∧
       s.commits = [⟨.writeBaseline c b, .capture c⟩] ∧
       s.writing = some w ∧
       w.saved = .baseline c x ∧
       ((ok = true ∧ agrees = true ∧ (w.step = .write ∨ w.step = .rewrite)) ∨
          (ok = false ∧ ((agrees = true ∧ w.step = .restore) ∨ w.step = .eraseCheck))) ∧
       s.campaign.handOff = [] ∧
       s.campaign.state ≠ .idle ∧
       (∃ e ∈ s.campaign.entries, e.circuit ≠ c ∧ e.status.isFinished = false) ∧
       (∀ e ∈ s.campaign.entries, e.circuit = c → e.status.isCommitting = true)) ∧
    (∃ (s : State) (agrees erased ok : Bool) (w : Writing) (c : Nat) (b : Baseline) (x : Slot Baseline),
       s.calm = true ∧
       s.lanesBusy = true ∧
       s.transmitter ≠ .idle ∧
       1 ≤ s.reserved.captureDone ∧
       s.commits = [⟨.writeBaseline c b, .capture c⟩] ∧
       s.writing = some w ∧
       w.saved = .baseline c x ∧
       ((ok = true ∧ agrees = true ∧ (w.step = .write ∨ w.step = .rewrite)) ∨
          (ok = false ∧ ((agrees = true ∧ w.step = .restore) ∨ w.step = .eraseCheck))) ∧
       s.campaign.handOff = [] ∧
       s.campaign.state ≠ .idle ∧
       (∃ e ∈ s.campaign.entries, e.circuit = c) ∧
       (∀ e ∈ s.campaign.entries, if e.circuit = c then e.status.isCommitting = true else e.status.isFinished = true)) ∧
    (∃ (s : State) (agrees erased ok : Bool) (w : Writing) (c : Nat) (b : Baseline) (x : Slot Baseline)
       (others tail : List Commit) (gone rest : List HandOff) (h : HandOff) (c₂ : Nat) (b₂ : Baseline),
       s.calm = true ∧
       s.lanesBusy = true ∧
       s.commits = ⟨.writeBaseline c b, .capture c⟩ :: others ∧
       s.writing = some w ∧
       w.saved = .baseline c x ∧
       ((ok = true ∧ agrees = true ∧ (w.step = .write ∨ w.step = .rewrite)) ∨
          (ok = false ∧ ((agrees = true ∧ w.step = .restore) ∨ w.step = .eraseCheck))) ∧
       s.campaign.handOff = gone ++ h :: rest ∧
       (∀ g ∈ gone, s.insideRegion g.circuit = true) ∧
       s.insideRegion h.circuit = false ∧
       (c :: gone.map (·.circuit)).Nodup ∧
       ((others.countP fun x => x.submitter != .processor) < 8 ∧
          (rest = [] ∨ (others.countP fun x => x.submitter != .processor) = 7)) ∧
       others ++ [⟨.writeBaseline h.circuit h.baseline, .capture h.circuit⟩] = ⟨.writeBaseline c₂ b₂, .capture c₂⟩ :: tail ∧
       s.campaign.state ≠ .idle ∧
       h.circuit ∉ c :: gone.map (·.circuit) ∧
       (∃ e ∈ s.campaign.entries, e.circuit = h.circuit ∧ e.status.isCommitting = true)) :=
  ⟨⟨{ crossed .capturing 0 with
       commits := [⟨.writeBaseline 512 ⟨3000, 1000, 5, 65535, 0, 5, 9⟩, .capture 512⟩], writing := some ⟨.write, .baseline 512 .erased⟩
       campaign := { state := .running, entries := [⟨512, .committing 0⟩, ⟨2, .unprocessed⟩], deferredSuspend := true } },
     true, false, true, ⟨.write, .baseline 512 .erased⟩, 512, ⟨3000, 1000, 5, 65535, 0, 5, 9⟩, .erased, by decide⟩,
   ⟨{ crossed .capturing 0 with
       commits := [⟨.writeBaseline 512 ⟨3000, 1000, 5, 65535, 0, 5, 9⟩, .capture 512⟩], writing := some ⟨.restore, .baseline 512 .erased⟩
       transmitter := .reply 0, reserved := { captureDone := 1 }
       campaign := { state := .suspending, window := true, entries := [⟨512, .committing 0⟩] } },
     true, false, false, ⟨.restore, .baseline 512 .erased⟩, 512, ⟨3000, 1000, 5, 65535, 0, 5, 9⟩, .erased, by decide⟩,
   ⟨{ crossed .capturing 0 with
       commits := [⟨.writeBaseline 512 ⟨3000, 1000, 5, 65535, 0, 5, 9⟩, .capture 512⟩], writing := some ⟨.write, .baseline 512 .erased⟩
       region := { n := 1 }
       campaign :=
         { state := .running
           entries := [⟨512, .committing 0⟩, ⟨2, .committing 0⟩, ⟨30, .committing 0⟩]
           handOff := [⟨2, ⟨3000, 1000, 5, 65535, 0, 5, 9⟩⟩, ⟨30, ⟨3000, 1000, 5, 65535, 0, 5, 9⟩⟩] } },
     true, false, true, ⟨.write, .baseline 512 .erased⟩, 512, ⟨3000, 1000, 5, 65535, 0, 5, 9⟩, .erased, [], [],
     [⟨2, ⟨3000, 1000, 5, 65535, 0, 5, 9⟩⟩], [], ⟨30, ⟨3000, 1000, 5, 65535, 0, 5, 9⟩⟩, 30, ⟨3000, 1000, 5, 65535, 0, 5, 9⟩, by decide⟩⟩

theorem test_witness_BaseLevel :
    (∃ m e : Nat, 2 ^ e ≤ m ∧ m < 2 ^ (e + 1) ∧ m ≤ 65535) ∧
    (∃ m n : Nat, 1 ≤ m ∧ m ≤ n ∧ n ≤ 65535) ∧
    (∃ m n e : Nat, 6 ≤ e ∧ e ≤ 15 ∧ 2 ^ e ≤ m ∧ m < 2 ^ (e + 1) ∧ 2 ^ e ≤ n ∧ n < 2 ^ (e + 1) ∧
       m / 2 ^ (e - 6) = n / 2 ^ (e - 6) ∧ m ≠ n) ∧
    (∃ m n : Nat, 1 ≤ m ∧ m < n ∧ n ≤ 64) :=
  ⟨⟨65535, 15, by decide⟩,
   ⟨1, 65535, by decide⟩,
   ⟨65024, 65535, 15, by decide⟩,
   ⟨63, 64, by decide⟩⟩

theorem test_witness_BurstReduced :
    (∃ (samples : List Sample) (h : Nat), 0 < h ∧ samples.length = 2 * h) ∧
    (∃ (floor : Nat) (samples : List Sample) (h : Nat), 0 < h ∧ samples.length = 2 * h ∧ 1 ≤ floor) ∧
    (∃ (floor : Nat) (samples : List Sample) (r : Returned), (reduce floor samples).returned = some r) :=
  ⟨⟨List.replicate 8 ⟨1200, 9, 2000⟩, 4, by decide⟩,
   ⟨1, List.replicate 64 ⟨1200, 9, 2000⟩, 32, by decide⟩,
   ⟨1200, List.replicate 8 ⟨1200, 9, 2000⟩, ⟨9, 8, 2000, 3062⟩, by decide⟩⟩

theorem test_witness_CaptureArithmetic :
    (∃ levels : List Int, levels ≠ [] ∧ ∀ p ∈ levels, -600 ≤ p ∧ p ≤ 5411) ∧
    (∃ levels : List Int, levels ≠ []) ∧
    (∃ delays : List Nat, delays ≠ []) :=
  ⟨⟨[-600, 5411], by decide⟩,
   ⟨[-600], by decide⟩,
   ⟨[16777215], by decide⟩⟩

theorem test_witness_AttemptClassified :
    (∃ b : HandedBurst, b.reduce.returned = none) ∧
    (∃ (b : HandedBurst) (r : Returned), b.reduce.returned = some r) :=
  ⟨⟨burst .attempt 23, by decide⟩,
   ⟨burst .attempt 24, ⟨9, 8, 2000, 1355⟩, by decide⟩⟩

theorem test_witness_AttemptsCombined :
    (∃ last : AttemptClass, last ≠ .pass ∧ last ≠ .continuityOnly) ∧
    (∃ (earlier : List AttemptClass) (last : AttemptClass),
       ∀ a ∈ earlier ++ [last], a ∈ [AttemptClass.noReturn, .misrouted, .continuityOnly]) :=
  ⟨⟨.misrouted, by decide⟩,
   ⟨[.noReturn], .misrouted, by decide⟩⟩

theorem test_witness_RegionBlocks :
    (∃ n c : Nat, n ≤ 32 ∧ 1 ≤ c ∧ c ≤ 512) ∧
    (∃ c : Nat, 1 ≤ c ∧ c ≤ 512) :=
  ⟨⟨32, 512, by decide⟩,
   ⟨1, by decide⟩⟩

theorem test_witness_FrameRoundTrip :
    (∃ payload : List U8, payload.length ≤ 1018) ∧
    (∃ (class_ code tag low high : U8) (payload : List U8), payload.length ≤ 1018 ∧
       let n := payload.length + 3
       let covered : List U8 := [BitVec.ofNat 8 n, BitVec.ofNat 8 (n / 256), class_, code, tag] ++ payload
       class_ ≠ 0x01 ∨ low ≠ (crc16 covered).extractLsb' 0 8 ∨ high ≠ (crc16 covered).extractLsb' 8 8) :=
  ⟨⟨List.replicate 1018 0xA5, by rw [List.length_replicate]⟩,
   ⟨2, 1, 7, 0, 0, [], by decide⟩⟩

theorem test_witness_NoticesFitKept :
    (∃ s t : State, s.noticesFit = true ∧ step s = .next t) ∧
    (∃ s t : State, s.Agreed ∧ step s = .next t) :=
  ⟨⟨{ base with pending := [.secondsTick], reserved := { verdict := 31 }, transmitter := .notice (.profileApplied {}) false }, _, by decide, rfl⟩,
   ⟨ticking, _, ticking_agreed, rfl⟩⟩

theorem test_witness_ClosuresBalancedKept :
    ∃ s t : State, s.closuresBalanced = true ∧ step s = .next t :=
  ⟨{ base with pending := [.secondsTick], closures := [account 1 1] }, _, by decide, rfl⟩

theorem test_witness_LanesSoundKept :
    ∃ s t : State, s.lanesSound = true ∧ step s = .next t :=
  ⟨{ base.setLane 0 { restLane with age := 65535, trim := -600, offset := 65535 } with pending := [.secondsTick] }, _, by decide, rfl⟩

theorem test_witness_StructuresKept :
    ∃ s t : State, (s.listsFit = true ∧ s.linesMasked = true ∧ s.tablesCanonical = true) ∧ step s = .next t :=
  ⟨{ crossed .idle 0 with pending := [.secondsTick], replies := List.replicate 8 ⟨1, 1, .ok, .none, []⟩ }, _, by decide, rfl⟩

theorem test_witness_IndexesExactKept :
    ∃ s t : State, (s.codesExact ∧ s.spansExact ∧ s.spansAscending = true ∧ s.jobChecked = true) ∧ step s = .next t :=
  ⟨{ crossed .idle 0 with pending := [.secondsTick] }, _, ⟨crossed_codesExact _ _, crossed_spansExact _ _, by decide, by decide⟩, rfl⟩

theorem test_witness_TableFollowsTheStore :
    (∃ (s t : State) (cmd : Instr), s.restartDue = false ∧ (∀ erased, cmd ≠ .storeWriteDone true erased) ∧
       cmd ≠ .startUpScanDone ∧ cmd ≠ .powerOn ∧ (∀ erased, cmd ≠ .powerFail erased) ∧
       (∀ erased, cmd ≠ .resetAsserted erased) ∧ exec cmd s = .next t) ∧
    (∃ (s t : State) (cmd : Instr), s.overlay = true ∧ cmd ≠ .powerOn ∧ (∀ erased, cmd ≠ .powerFail erased) ∧
       exec cmd s = .next t) :=
  ⟨⟨base, _, .storeWriteDone false true, by decide, nofun, nofun, nofun, nofun, nofun, rfl⟩,
   ⟨{ base with overlay := true }, _, .secondsTick, by decide, nofun, nofun, rfl⟩⟩

theorem test_witness_RecordsAgreeKept :
    ∃ s t : State, s.Agreed ∧ step s = .next t :=
  ⟨ticking, _, ticking_agreed, rfl⟩

end Sys2Proof.Tests
end

/-! PROOF. The base level (R98). Everything follows from the logarithm in sixty-fourths of an octave, 64e + f: within an
octave its fraction has one closed form on each side of 64 counts, and every octave ends below the start of the next. -/

namespace Sys2Proof.Machine

/-- The piecewise-linear base-2 logarithm in sixty-fourths of an octave, 64e + f (R98, step 3). -/
def logSixtyFourths (m : Nat) : Nat := 64 * m.log2 + octaveFraction m

theorem baseLevel_eq_logSixtyFourths (m : Nat) : baseLevel m = (logSixtyFourths m * 301 + 32) / 64 := rfl

/-! ## The fraction within one octave -/

section Octave

variable {m n e : Nat}

theorem log2_eq_of_octave (lo : 2 ^ e ≤ m) (hi : m < 2 ^ (e + 1)) : m.log2 = e :=
  (Nat.log2_eq_iff (by have := Nat.two_pow_pos e; omega)).2 ⟨lo, hi⟩

/-- The fraction of a count in octave `e`, with the octave named instead of computed. -/
theorem octaveFraction_of_octave (lo : 2 ^ e ≤ m) (hi : m < 2 ^ (e + 1)) :
    octaveFraction m = if 6 ≤ e then (m - 2 ^ e) / 2 ^ (e - 6) else (m - 2 ^ e) * 2 ^ (6 - e) := by
  simp only [octaveFraction, log2_eq_of_octave lo hi]

theorem two_pow_eq_sixtyFour_mul (he : 6 ≤ e) : 2 ^ e = 64 * 2 ^ (e - 6) := by
  rw [show (64 : Nat) = 2 ^ 6 by rfl, ← pow_add, Nat.add_sub_cancel' he]

theorem two_pow_mul_eq_sixtyFour (he : e ≤ 6) : 2 ^ e * 2 ^ (6 - e) = 64 := by
  rw [← pow_add, Nat.add_sub_cancel' he]; rfl

/-- From 64 counts up, the fraction is the count's top seven bits without the highest. -/
theorem octaveFraction_add_of_six_le (he : 6 ≤ e) (lo : 2 ^ e ≤ m) (hi : m < 2 ^ (e + 1)) :
    octaveFraction m + 64 = m / 2 ^ (e - 6) := by
  have hpow := two_pow_eq_sixtyFour_mul he
  have hsplit : m = (m - 2 ^ e) + 2 ^ (e - 6) * 64 := by omega
  calc octaveFraction m + 64
      = (m - 2 ^ e) / 2 ^ (e - 6) + 64 := by rw [octaveFraction_of_octave lo hi, if_pos he]
    _ = ((m - 2 ^ e) + 2 ^ (e - 6) * 64) / 2 ^ (e - 6) := (Nat.add_mul_div_left _ _ (Nat.two_pow_pos _)).symm
    _ = m / 2 ^ (e - 6) := by rw [← hsplit]

/-- Below 64 counts, the fraction is exact. -/
theorem octaveFraction_add_of_lt_six (he : e < 6) (lo : 2 ^ e ≤ m) (hi : m < 2 ^ (e + 1)) :
    octaveFraction m + 64 = m * 2 ^ (6 - e) := by
  rw [octaveFraction_of_octave lo hi, if_neg (Nat.not_le.2 he), ← two_pow_mul_eq_sixtyFour he.le, ← Nat.add_mul,
    Nat.sub_add_cancel lo]

theorem octaveFraction_le (lo : 2 ^ e ≤ m) (hi : m < 2 ^ (e + 1)) : octaveFraction m ≤ 63 := by
  have hdouble : 2 ^ (e + 1) = 2 ^ e * 2 := pow_succ 2 e
  have hlt : octaveFraction m + 64 < 128 := by
    by_cases he : 6 ≤ e
    · have hpow := two_pow_eq_sixtyFour_mul he
      rw [octaveFraction_add_of_six_le he lo hi]
      exact Nat.div_lt_of_lt_mul (by omega)
    · have hpow := two_pow_mul_eq_sixtyFour (Nat.le_of_not_le he)
      calc octaveFraction m + 64
          = m * 2 ^ (6 - e) := octaveFraction_add_of_lt_six (Nat.lt_of_not_le he) lo hi
        _ < 2 ^ (e + 1) * 2 ^ (6 - e) := Nat.mul_lt_mul_of_pos_right hi (Nat.two_pow_pos _)
        _ = 128 := by rw [hdouble, Nat.mul_right_comm, hpow]
  omega

theorem octaveFraction_mono (lo : 2 ^ e ≤ m) (hmn : m ≤ n) (hi : n < 2 ^ (e + 1)) :
    octaveFraction m ≤ octaveFraction n := by
  rw [octaveFraction_of_octave lo (hmn.trans_lt hi), octaveFraction_of_octave (lo.trans hmn) hi]
  split
  · exact Nat.div_le_div_right (Nat.sub_le_sub_right hmn _)
  · exact Nat.mul_le_mul_right _ (Nat.sub_le_sub_right hmn _)

/-- Up to 64 counts the fraction tells the counts of one octave apart. -/
theorem octaveFraction_strictMono (he : e < 6) (lo : 2 ^ e ≤ m) (hmn : m < n) (hi : n < 2 ^ (e + 1)) :
    octaveFraction m < octaveFraction n := by
  have hm := octaveFraction_add_of_lt_six he lo (hmn.trans hi)
  have hn := octaveFraction_add_of_lt_six he (lo.trans hmn.le) hi
  have := Nat.mul_lt_mul_of_pos_right hmn (Nat.two_pow_pos (6 - e))
  omega

end Octave

/-! ## The logarithm over all octaves -/

section Logarithm

variable {m n : Nat}

theorem octave_of_pos (hm : 1 ≤ m) : 2 ^ m.log2 ≤ m ∧ m < 2 ^ (m.log2 + 1) :=
  ⟨Nat.log2_self_le (Nat.ne_of_gt hm), Nat.lt_log2_self⟩

/-- Two counts stand in one octave, or the lesser one's logarithm ends below the start of the greater one's octave. -/
theorem log2_eq_or_logSixtyFourths_lt (hm : 1 ≤ m) (hmn : m ≤ n) :
    m.log2 = n.log2 ∨ logSixtyFourths m < logSixtyFourths n := by
  obtain ⟨lo, hi⟩ := octave_of_pos hm
  have hf := octaveFraction_le lo hi
  have hlog : m.log2 ≤ n.log2 := (Nat.le_log2 (by omega)).2 (lo.trans hmn)
  simp only [logSixtyFourths]
  omega

theorem logSixtyFourths_mono (hm : 1 ≤ m) (hmn : m ≤ n) : logSixtyFourths m ≤ logSixtyFourths n := by
  obtain hsame | hlt := log2_eq_or_logSixtyFourths_lt hm hmn
  · have hf := octaveFraction_mono (hsame ▸ (octave_of_pos hm).1) hmn (octave_of_pos (hm.trans hmn)).2
    simpa only [logSixtyFourths, hsame, Nat.add_le_add_iff_left] using hf
  · exact hlt.le

theorem logSixtyFourths_strictMono (hm : 1 ≤ m) (hmn : m < n) (hn : n ≤ 64) :
    logSixtyFourths m < logSixtyFourths n := by
  obtain hsame | hlt := log2_eq_or_logSixtyFourths_lt hm hmn.le
  · obtain ⟨lo, -⟩ := octave_of_pos hm
    have he : m.log2 < 6 := (Nat.log2_lt (Nat.ne_of_gt hm)).2 (show m < 64 by omega)
    have hf := octaveFraction_strictMono he lo hmn (hsame ▸ (octave_of_pos (hm.trans hmn.le)).2)
    simpa only [logSixtyFourths, hsame, Nat.add_lt_add_iff_left] using hf
  · exact hlt

end Logarithm

/-! ## The base level -/

theorem baseLevel_mono {m n : Nat} (hm : 1 ≤ m) (hmn : m ≤ n) : baseLevel m ≤ baseLevel n := by
  have := logSixtyFourths_mono hm hmn
  rw [baseLevel_eq_logSixtyFourths, baseLevel_eq_logSixtyFourths]
  omega

/-- One sixty-fourth of an octave is worth 301/64, more than one step of the level. -/
theorem baseLevel_strictMono {m n : Nat} (hm : 1 ≤ m) (hmn : m < n) (hn : n ≤ 64) : baseLevel m < baseLevel n := by
  have := logSixtyFourths_strictMono hm hmn hn
  rw [baseLevel_eq_logSixtyFourths, baseLevel_eq_logSixtyFourths]
  omega

/-- The level of a count in octave `e`, with the octave named instead of computed. -/
theorem baseLevel_of_octave {m e : Nat} (lo : 2 ^ e ≤ m) (hi : m < 2 ^ (e + 1)) :
    baseLevel m = ((64 * e + octaveFraction m) * 301 + 32) / 64 := by
  rw [baseLevel, log2_eq_of_octave lo hi]

theorem baseLevel_eq_of_top_bits {m n e : Nat} (he : 6 ≤ e) (mlo : 2 ^ e ≤ m) (mhi : m < 2 ^ (e + 1))
    (nlo : 2 ^ e ≤ n) (nhi : n < 2 ^ (e + 1)) (htop : m / 2 ^ (e - 6) = n / 2 ^ (e - 6)) :
    baseLevel m = baseLevel n := by
  have hm := octaveFraction_add_of_six_le he mlo mhi
  have hn := octaveFraction_add_of_six_le he nlo nhi
  have hf : octaveFraction m = octaveFraction n := by omega
  rw [baseLevel_of_octave mlo mhi, baseLevel_of_octave nlo nhi, hf]

end Sys2Proof.Machine

namespace Sys2Proof.Proofs

open Sys2Proof.Machine

/-- Settles O47: the ranges are those of the octave and of its fraction, the level keeps the order of the logarithm,
and the rows of the table are evaluated, `10 ^ (2 * v)` and `m ^ 2000` as exact numbers. -/
theorem baseLevel : Obligations.BaseLevel := by
  refine ⟨?ranges, fun m n hm hmn _ => baseLevel_mono hm hmn, ?topBits,
    fun m n hm hmn hn => baseLevel_strictMono hm hmn hn, ?table⟩
  case ranges =>
    intro m e lo hi hm
    have he : e < 16 := (Nat.pow_lt_pow_iff_right Nat.one_lt_two).1 (show 2 ^ e < 2 ^ 16 by omega)
    have hf := octaveFraction_le lo hi
    have hlevel := baseLevel_of_octave lo hi
    rw [← octaveFraction_of_octave lo hi]
    exact ⟨by omega, hf, by omega, hlevel, by omega⟩
  case topBits =>
    intro m n e he _ mlo mhi nlo nhi htop
    exact baseLevel_eq_of_top_bits he mlo mhi nlo nhi htop
  case table => decide +kernel

end Sys2Proof.Proofs

/-! # 6.2 Combining the attempts: what the classes of a verification say together (R110) -/

namespace Sys2Proof.Machine

section Classes

variable {c last : AttemptClass} {earlier : List AttemptClass}

/-! ## One class -/

theorem AttemptClass.ends_eq_true_iff : c.ends = true ↔ c = .pass ∨ c = .continuityOnly := by
  cases c <;> decide

theorem AttemptClass.ends_eq_false_iff : c.ends = false ↔ c ≠ .pass ∧ c ≠ .continuityOnly := by
  rw [← Bool.not_eq_true, AttemptClass.ends_eq_true_iff, not_or]

theorem AttemptClass.kind_ne_unstable (c : AttemptClass) : c.kind ≠ .unstable := by
  cases c <;> decide

theorem AttemptClass.kind_ne_unmeasurable (c : AttemptClass) : c.kind ≠ .unmeasurable := by
  cases c <;> decide

/-! ## The three cases of R110 -/

theorem combine_of_ends (h : last.ends = true) : combine earlier last = last.kind := if_pos h

/-- The model's Boolean test of the earlier attempts as the rule states it. -/
theorem combine_of_failed (h : last.ends = false) :
    combine earlier last = if ∀ a ∈ earlier, a = last then last.kind else .unstable := by
  simp only [combine, h, List.all_eq_true, beq_iff_eq, Bool.false_eq_true, if_false]

theorem combine_eq_kind_or_unstable (earlier : List AttemptClass) (last : AttemptClass) :
    combine earlier last = last.kind ∨ combine earlier last = .unstable := by
  cases h : last.ends with
  | true => exact .inl (combine_of_ends h)
  | false => rw [combine_of_failed h]; exact ite_eq_or_eq ..

theorem combine_ne_unmeasurable (earlier : List AttemptClass) (last : AttemptClass) :
    combine earlier last ≠ .unmeasurable := by
  obtain h | h := combine_eq_kind_or_unstable earlier last
  · exact h ▸ last.kind_ne_unmeasurable
  · simp [h]

/-- UNSTABLE is named like no class, so only the third case of R110 gives it. -/
theorem combine_eq_unstable_iff (h : last.ends = false) :
    combine earlier last = .unstable ↔ ∃ a ∈ earlier, a ≠ last := by
  rw [combine_of_failed h, ite_eq_right_iff]
  simp only [last.kind_ne_unstable, imp_false, not_forall, exists_prop, ne_eq]

/-- Two attempts that differ cannot both have the last one's class. -/
theorem exists_ne_append_last_iff :
    (∃ a ∈ earlier ++ [last], ∃ b ∈ earlier ++ [last], a ≠ b) ↔ ∃ a ∈ earlier, a ≠ last := by
  constructor
  · contrapose!
    intro hsame
    have hlast : ∀ a ∈ earlier ++ [last], a = last := by simpa [or_imp, forall_and] using hsame
    exact fun a ha b hb => (hlast a ha).trans (hlast b hb).symm
  · rintro ⟨a, ha, hne⟩
    exact ⟨a, List.mem_append_left _ ha, last, List.mem_append_right _ (List.mem_singleton_self _), hne⟩

end Classes

/-! ## A circuit without a baseline -/

theorem classify_cls_of_not_returned {p : Profile} {d : Definition} {base : Option Baseline} {b : HandedBurst}
    (h : b.reduce.returned = none) : (classify p d base b).cls = .noReturn := by
  simp only [classify, h]

theorem classify_cls_of_returned {p : Profile} {d : Definition} {base : Option Baseline} {b : HandedBurst}
    {r : Returned} (h : b.reduce.returned = some r) :
    (classify p d base b).cls = classOf p d r.code (deltasOf base (levelOf r b.trim) (pathDelay r.rawDelay b.offset)) := by
  simp only [classify, h]

theorem classOf_none (p : Profile) (d : Definition) (code : Nat) :
    classOf p d code none = if code ≠ d.code then .misrouted else .continuityOnly := rfl

theorem classify_cls_without_baseline (p : Profile) (d : Definition) (b : HandedBurst) :
    (classify p d none b).cls ∈ [AttemptClass.noReturn, .misrouted, .continuityOnly] := by
  cases h : b.reduce.returned with
  | none => simp [classify_cls_of_not_returned h]
  | some r =>
    have hcls : (classify p d none b).cls = if r.code ≠ d.code then .misrouted else .continuityOnly :=
      (classify_cls_of_returned h).trans (classOf_none p d r.code)
    rw [hcls]
    split_ifs <;> simp

theorem AttemptClass.kind_without_baseline {c : AttemptClass}
    (h : c ∈ [AttemptClass.noReturn, .misrouted, .continuityOnly]) :
    c.kind ∈ [VerdictKind.noReturn, .misrouted, .continuityOnly] :=
  List.mem_map_of_mem (f := AttemptClass.kind) h

end Sys2Proof.Machine

namespace Sys2Proof.Proofs

open Sys2Proof.Machine

/-- Settles O51: a last attempt that ends the loop is its own kind; of a failed one, UNSTABLE says that an earlier
attempt differs from it. -/
theorem attemptsCombined : Obligations.AttemptsCombined := by
  refine ⟨?threeCases, ?unstable, ?named, combine_ne_unmeasurable, classify_cls_without_baseline, ?withoutBaseline,
    fun _ => AttemptClass.ends_eq_false_iff, ?table⟩
  case threeCases =>
    intro earlier last
    split_ifs with hpass hcont
    · exact hpass ▸ combine_of_ends rfl
    · exact hcont ▸ combine_of_ends rfl
    all_goals rw [combine_of_failed (AttemptClass.ends_eq_false_iff.2 ⟨hpass, hcont⟩)]
    · rw [if_pos ‹_›]
    · rw [if_neg ‹_›]
  case unstable =>
    intro earlier last hpass hcont
    rw [combine_eq_unstable_iff (AttemptClass.ends_eq_false_iff.2 ⟨hpass, hcont⟩), exists_ne_append_last_iff]
  case named =>
    intro c
    refine ⟨?_, c.kind_ne_unstable, c.kind_ne_unmeasurable⟩
    cases c <;> rfl
  case withoutBaseline =>
    intro earlier last hall
    have hlast := AttemptClass.kind_without_baseline (hall last (by simp))
    obtain h | h := combine_eq_kind_or_unstable earlier last
    · exact h ▸ List.mem_append_left [VerdictKind.unstable] hlast
    · simp [h]
  case table => decide

end Sys2Proof.Proofs

/-! # 8.1 The protected region: which circuits and how many lie inside (R141, R148) -/

namespace Sys2Proof.Machine

/-! ## Blocks of circuits -/

section Blocks

variable {b c : Nat}

theorem blockOf_lt_iff (hc : 1 ≤ c) : blockOf c < b ↔ c ≤ 16 * b := by
  rw [blockOf, Nat.div_lt_iff_lt_mul (by decide)]
  omega

theorem le_blockOf_iff (hc : 1 ≤ c) : b ≤ blockOf c ↔ 16 * b + 1 ≤ c := by
  rw [← Nat.not_lt, blockOf_lt_iff hc, Nat.not_le, Nat.lt_iff_add_one_le]

theorem blockOf_lt (hc : 1 ≤ c) (hlast : c ≤ 512) : blockOf c < 32 := (blockOf_lt_iff hc).2 hlast

end Blocks

/-! ## The blocks that side and n count -/

section Counted

variable {n b : Nat} {k : Bool}

theorem Region.counted_low_iff : Region.counted ⟨.low, n, k⟩ b = true ↔ b < n := decide_eq_true_iff

theorem Region.counted_high_iff : Region.counted ⟨.high, n, k⟩ b = true ↔ 32 - n ≤ b := decide_eq_true_iff

theorem Region.counted_zero (side : Side) (hb : b < 32) : Region.counted ⟨side, 0, k⟩ b = false := by
  rw [← Bool.not_eq_true]
  cases side with
  | low => exact mt Region.counted_low_iff.1 (Nat.not_lt_zero b)
  | high => exact mt Region.counted_high_iff.1 (Nat.not_le.2 hb)

theorem Region.counted_thirtyTwo (side : Side) (hb : b < 32) : Region.counted ⟨side, 32, k⟩ b = true := by
  cases side with
  | low => exact Region.counted_low_iff.2 hb
  | high => exact Region.counted_high_iff.2 (Nat.zero_le b)

end Counted

/-! ## The circuits inside -/

section Inside

variable {side : Side} {n c : Nat}

theorem Region.inside_iff (r : Region) (c : Nat) :
    r.inside c = true ↔ if r.complement then ¬r.counted (blockOf c) = true else r.counted (blockOf c) = true := by
  rw [Region.inside]
  cases r.complement <;> simp

theorem Region.inside_plain : Region.inside ⟨side, n, false⟩ c = Region.counted ⟨side, n, false⟩ (blockOf c) :=
  Bool.bne_false _

theorem Region.inside_low_plain (hc : 1 ≤ c) : Region.inside ⟨.low, n, false⟩ c = decide (c ≤ 16 * n) := by
  rw [Region.inside_plain, Bool.eq_iff_iff, Region.counted_low_iff, blockOf_lt_iff hc, decide_eq_true_iff]

theorem Region.inside_high_plain (hc : 1 ≤ c) :
    Region.inside ⟨.high, n, false⟩ c = decide (16 * (32 - n) + 1 ≤ c) := by
  rw [Region.inside_plain, Bool.eq_iff_iff, Region.counted_high_iff, le_blockOf_iff hc, decide_eq_true_iff]

/-- Side and n count the same blocks with complement on, so it protects just the circuits left out without it. -/
theorem Region.inside_complement : Region.inside ⟨side, n, true⟩ c = !Region.inside ⟨side, n, false⟩ c :=
  (Bool.bne_true _).trans (congrArg not Region.inside_plain.symm)

theorem Region.inside_low_complement (hc : 1 ≤ c) :
    Region.inside ⟨.low, n, true⟩ c = decide (16 * n + 1 ≤ c) := by
  rw [Region.inside_complement, Region.inside_low_plain hc, ← decide_not]
  exact decide_eq_decide.2 Nat.not_le

theorem Region.inside_high_complement (hc : 1 ≤ c) :
    Region.inside ⟨.high, n, true⟩ c = decide (c ≤ 16 * (32 - n)) := by
  rw [Region.inside_complement, Region.inside_high_plain hc, ← decide_not]
  exact decide_eq_decide.2 Nat.not_lt

theorem Region.inside_zero (side : Side) (k : Bool) (hc : 1 ≤ c) (hlast : c ≤ 512) :
    Region.inside ⟨side, 0, k⟩ c = k := by
  rw [Region.inside, Region.counted_zero side (blockOf_lt hc hlast), Bool.false_bne]

theorem Region.inside_thirtyTwo (side : Side) (k : Bool) (hc : 1 ≤ c) (hlast : c ≤ 512) :
    Region.inside ⟨side, 32, k⟩ c = !k := by
  rw [Region.inside, Region.counted_thirtyTwo side (blockOf_lt hc hlast), Bool.true_bne]

end Inside

/-! ## The slots inside -/

/-- A test that looks only at the block of a number holds for whole blocks of `m` numbers. -/
theorem countP_range_mul_of_div {m : Nat} (hm : 0 < m) (p : Nat → Bool) (n : Nat) :
    ((List.range (m * n)).countP fun k => p (k / m)) = m * (List.range n).countP p := by
  induction n with
  | zero => rfl
  | succ n ih =>
    have hblock : ((List.range m).countP fun j => p ((m * n + j) / m)) = if p n then m else 0 := by
      have hdiv : ∀ j ∈ List.range m, (p ((m * n + j) / m) = true ↔ p n = true) := by
        intro j hj
        rw [Nat.mul_add_div hm, Nat.div_eq_of_lt (List.mem_range.1 hj), Nat.add_zero]
      rw [List.countP_congr hdiv]
      cases p n <;> simp
    rw [Nat.mul_succ, List.range_add, List.countP_append, List.countP_map, ih, List.range_succ, List.countP_append,
      List.countP_singleton, Nat.mul_add]
    simp only [Function.comp_def, hblock, mul_ite, Nat.mul_one, Nat.mul_zero]

theorem Region.slotsInside_eq_countP (r : Region) :
    r.slotsInside = (List.range 512).countP fun k => r.inside (k + 1) :=
  (countP_range_mul_of_div (show 0 < 16 by decide) (fun b => r.counted b != r.complement) 32).symm

end Sys2Proof.Machine

namespace Sys2Proof.Proofs

open Sys2Proof.Machine

/-- Settles O52: the rows of the table are the general bounds at n = 0, 3 and 32, and the slots inside are counted
block by block. -/
theorem regionBlocks : Obligations.RegionBlocks := by
  refine ⟨?sides, ?table, Region.slotsInside_eq_countP⟩
  case sides =>
    intro n c complement _ _ _
    simp only [Region.inside_iff, Region.counted_low_iff, Region.counted_high_iff, blockOf, and_self]
  case table =>
    intro side c hc hlast
    exact ⟨Region.inside_zero side false hc hlast, Region.inside_zero side true hc hlast,
      Region.inside_thirtyTwo side false hc hlast, Region.inside_thirtyTwo side true hc hlast,
      Region.inside_low_plain hc, Region.inside_low_complement hc,
      Region.inside_high_plain hc, Region.inside_high_complement hc⟩

end Sys2Proof.Proofs

/-! # What a step can do: the moves of the state

Every command but those that restart the part or end its scan is a sequence of the moves below. A property that each move
keeps is kept by every such command, so the invariants need only be proved for the moves. -/

namespace Sys2Proof.Machine

/-! ## The parts of the state that the invariants of single parts speak of -/

/-- The fields that the invariants of the notice queue, the lists, the lanes, the lines, the tables and the indexes read. -/
structure Tracked where
  phase : Phase
  requestQueue : List QueuedRequest
  processor : Processor
  replies : List Reply
  transmitter : Transmitter
  notices : List Notice
  reserved : ReservedCounts
  circuits : Table Circuit
  codeMap : Table Nat
  spanIndex : Table (List Nat)
  stack : List Window
  closures : List Closure
  lanes : Vector Lane 8
  region : Region
  storedLevel : StoredLevel
  overlay : Bool
  senseLines : Vector SenseLine 16
  defSlots : Table (Slot Definition)
  baseSlots : Table (Slot Baseline)

def State.tracked (s : State) : Tracked :=
  ⟨s.phase, s.requestQueue, s.processor, s.replies, s.transmitter, s.notices, s.reserved, s.circuits, s.codeMap,
    s.spanIndex, s.stack, s.closures, s.lanes, s.region, s.storedLevel, s.overlay, s.senseLines, s.defSlots, s.baseSlots⟩

/-- A window stack of at most 4 windows, each with at most 16 events (R23, R35). -/
def stackFits (ws : List Window) : Prop :=
  ws.length ≤ Config.stackDepth ∧ ∀ w ∈ ws, w.events.length ≤ Config.eventListDepth

/-- The masked status is formed from the raw status and the enabled field (R153). -/
def SenseLine.formed (r : SenseLine) : Prop := r.masked = (r.raw && r.enabled)

/-- One move of the part. With `conclude` it may put the outcome of a concluded commit in force, and free the entry of a
notice that has been sent; with `talk` it may place a reply, set the request processor, and change the request queue and the
window stack. -/
inductive Move (conclude talk : Bool) : State → State → Prop
  | other {s t : State} (h : t.tracked = s.tracked) : Move conclude talk s t
  | circuit {s : State} (c : Nat) (r : Circuit) (hd : r.definition = (s.circuit c).definition)
      (hb : r.baseline = (s.circuit c).baseline) : Move conclude talk s (s.setCircuit c r)
  | lane {s : State} (l : LaneId) (r : Lane) (h : (s.lane l).sound = true → r.sound = true) :
      Move conclude talk s (s.setLane l r)
  | line {s : State} (l : LineId) (r : SenseLine) (h : (s.line l).formed → r.formed) : Move conclude talk s (s.setLine l r)
  | reserve {s : State} (kind : ReservedKind) (h : s.hasFree = true) : Move conclude talk s (s.reserve kind)
  | unreserve {s : State} (kind : ReservedKind) :
      Move conclude talk s { s with reserved := s.reserved.withCount kind (s.reserved.count kind - 1) }
  | queueUnreserved {s : State} (n : Notice) : Move conclude talk s (s.queueUnreserved n)
  | queueReserved {s : State} (kind : ReservedKind) (n : Notice) : Move conclude talk s (s.queueReserved kind n)
  | beginNotice {s : State} (n : Notice) (rest : List Notice) (mark : Bool) (hi : s.transmitter = .idle)
      (hn : s.notices = n :: rest) :
      Move conclude talk s { s with notices := rest, transmitter := .notice n mark, discarded := false }
  | transmitter {s : State} (x : Transmitter) (hb : s.transmitter.sendingCount = 0 ∨ conclude = true)
      (h : x.sendingCount = 0) : Move conclude talk s { s with transmitter := x }
  | requests {s : State} (qs : List QueuedRequest) (hk : talk = true)
      (h : s.requestQueue.length ≤ Config.requestEntries → qs.length ≤ Config.requestEntries) :
      Move conclude talk s { s with requestQueue := qs }
  | replies {s : State} (rs : List Reply) (hk : talk = true)
      (h : s.replies.length ≤ Config.replyEntries → rs.length ≤ Config.replyEntries) :
      Move conclude talk s { s with replies := rs }
  | processor {s : State} (x : Processor) (hk : talk = true)
      (h : s.jobChecked = true → State.jobChecked { s with processor := x } = true) :
      Move conclude talk s { s with processor := x }
  | stack {s : State} (ws : List Window) (hk : talk = true) (h : stackFits s.stack → stackFits ws) :
      Move conclude talk s { s with stack := ws }
  | closures {s : State} (cs : List Closure)
      (hl : s.closures.length ≤ Config.closureDepth → cs.length ≤ Config.closureDepth)
      (hb : s.closuresBalanced = true → ∀ c ∈ cs, c.balanced = true) : Move conclude talk s { s with closures := cs }
  | slot {s : State} (x : SavedSlot) : Move conclude talk s (s.putSlot x)
  | definition {s : State} (id : Nat) (d : Definition) (kind : DefineKind) (hk : conclude = true)
      (h : ∃ tag clamped second, s.processor = .committing tag (.define id d kind clamped second)) :
      Move conclude talk s (s.putDefinition id d kind)
  | emptySlot {s : State} (id : Nat) (hk : conclude = true) : Move conclude talk s (s.emptySlot id)
  | baseline {s : State} (c : Nat) (b : Option Baseline) (hk : conclude = true) :
      Move conclude talk s (s.modifyCircuit c fun r => { r with baseline := b })
  | protection {s : State} (r : Region) (level : StoredLevel) (session : Bool) (hk : conclude = true) :
      Move conclude talk s { s with region := r, storedLevel := level, overlay := s.overlay || session }

/-- A sequence of moves. -/
def Moves (conclude talk : Bool) : State → State → Prop := Relation.ReflTransGen (Move conclude talk)

namespace Moves

variable {p q : Bool} {s t u : State}

theorem nil : Moves p q s s := Relation.ReflTransGen.refl

theorem trans (h : Moves p q s t) (h' : Moves p q t u) : Moves p q s u := Relation.ReflTransGen.trans h h'

theorem move (h : Moves p q s t) (m : Move p q t u) : Moves p q s u := Relation.ReflTransGen.tail h m

/-- What each move keeps, a sequence of them keeps. -/
theorem keeps {P : State → Prop} (hP : ∀ {s t}, Move p q s t → P s → P t) (h : Moves p q s t) (hs : P s) : P t := by
  induction h with
  | refl => exact hs
  | tail _ m ih => exact hP m ih

theorem foldl {β : Type} {f : State → β → State} (hf : ∀ s b, Moves p q s (f s b)) (bs : List β)
    (h : Moves p q s t) : Moves p q s (bs.foldl f t) := by
  induction bs generalizing t with
  | nil => exact h
  | cons b bs ih => exact ih (h.trans (hf t b))

end Moves

/-! ## What moves leave unchanged -/

theorem foldl_frame {β γ : Type} {f : State → β → State} {g : State → γ} (hf : ∀ s b, g (f s b) = g s) (bs : List β)
    (s : State) : g (bs.foldl f s) = g s := by
  induction bs generalizing s with
  | nil => rfl
  | cons b bs ih => exact (ih (f s b)).trans (hf s b)

theorem foldl_commute {β : Type} {f : State → β → State} {g : State → State} (hf : ∀ s b, f (g s) b = g (f s b))
    (bs : List β) (s : State) : bs.foldl f (g s) = g (bs.foldl f s) := by
  induction bs generalizing s with
  | nil => rfl
  | cons b bs ih => rw [List.foldl_cons, hf, ih]; rfl

end Sys2Proof.Machine

/-! ## The operations as moves -/

namespace Sys2Proof.Machine

namespace Moves

variable {p q : Bool} {s t : State}

/-! ### Records, looks and the notice queue -/

theorem other (h : Moves p q s t) {u : State} (e : u.tracked = t.tracked) : Moves p q s u := h.move (.other e)

theorem setCampaign (h : Moves p q s t) (c : Campaign) : Moves p q s { t with campaign := c } := h.other rfl

theorem looks (h : Moves p q s t) (ls : List LaneId) : Moves p q s { t with looks := ls } := h.other rfl

theorem modifyCircuit (h : Moves p q s t) (c : Nat) (f : Circuit → Circuit)
    (hd : (f (t.circuit c)).definition = (t.circuit c).definition)
    (hb : (f (t.circuit c)).baseline = (t.circuit c).baseline) : Moves p q s (t.modifyCircuit c f) :=
  h.move (.circuit c _ hd hb)

theorem setCircuitState (h : Moves p q s t) (c : Nat) (st : CircuitState) : Moves p q s (t.setCircuitState c st) :=
  h.modifyCircuit c _ rfl rfl

theorem modifyLane (h : Moves p q s t) (l : LaneId) (f : Lane → Lane)
    (hf : (t.lane l).sound = true → (f (t.lane l)).sound = true) : Moves p q s (t.modifyLane l f) :=
  h.move (.lane l _ hf)

theorem lookAt (h : Moves p q s t) (l : LaneId) : Moves p q s (t.lookAt l) := by
  obtain ⟨ls, e⟩ := t.lookAt_eq l
  exact h.other (by rw [e]; rfl)

theorem lookAtAll (h : Moves p q s t) : Moves p q s t.lookAtAll := by
  obtain ⟨ls, e⟩ := t.lookAtAll_eq
  exact h.other (by rw [e]; rfl)

theorem lookAtCircuit (h : Moves p q s t) (c : Nat) : Moves p q s (t.lookAtCircuit c) := by
  obtain ⟨ls, e⟩ := t.lookAtCircuit_eq c
  exact h.other (by rw [e]; rfl)

theorem lookAtWaiting (h : Moves p q s t) : Moves p q s t.lookAtWaiting := by
  obtain ⟨ls, e⟩ := t.lookAtWaiting_eq
  exact h.other (by rw [e]; rfl)

theorem returnReservation (h : Moves p q s t) (k : ReservedKind) : Moves p q s (t.returnReservation k) :=
  (h.move (.unreserve k)).lookAtWaiting

theorem queueUnreserved (h : Moves p q s t) (n : Notice) : Moves p q s (t.queueUnreserved n) :=
  h.move (.queueUnreserved n)

theorem queueReserved (h : Moves p q s t) (k : ReservedKind) (n : Notice) : Moves p q s (t.queueReserved k n) :=
  h.move (.queueReserved k n)

/-! ### Closure records and the verification queue -/

theorem queueSummary (h : Moves p q s t) (c : Closure) (early : Bool) : Moves p q s (t.queueSummary c early) :=
  h.queueReserved ..

end Moves

theorem closureBalanced_iff (c : Closure) :
    c.balanced = true ↔ c.released = c.counts.sum + c.reHeld + c.outstanding ∧ 1 ≤ c.outstanding := by
  simp [Closure.balanced]

theorem closuresBalanced_iff (s : State) : s.closuresBalanced = true ↔ ∀ c ∈ s.closures, c.balanced = true := by
  simp [State.closuresBalanced]

/-- The verdict counts rise by one with each verdict. -/
theorem VerdictCounts.sum_bump (c : VerdictCounts) (k : VerdictKind) : (c.bump k).sum = c.sum + 1 := by
  cases k <;> simp only [VerdictCounts.bump, VerdictCounts.sum] <;> omega

/-- A change of a closure record that counts one circuit more as concluded or re-held (R42, R43). -/
def CountsOne (f : Closure → Closure) : Prop :=
  ∀ c : Closure, (f c).released = c.released ∧ (f c).counts.sum + (f c).reHeld = c.counts.sum + c.reHeld + 1

/-- A record stays balanced when one circuit moves out of outstanding and another is left. -/
theorem CountsOne.balanced {f : Closure → Closure} (hf : CountsOne f) {c : Closure} (hc : c.balanced = true)
    (hout : c.outstanding - 1 ≠ 0) : Closure.balanced { f c with outstanding := c.outstanding - 1 } = true := by
  obtain ⟨hr, hs⟩ := hf c
  rw [closureBalanced_iff] at hc ⊢
  refine ⟨?_, Nat.one_le_iff_ne_zero.2 hout⟩
  show (f c).released = (f c).counts.sum + (f c).reHeld + (c.outstanding - 1)
  omega

namespace Moves

variable {p q : Bool} {s t : State}

theorem updateClosure (h : Moves p q s t) (tag : Nat) {f : Closure → Closure} (hf : CountsOne f) :
    Moves p q s (t.updateClosure tag f) := by
  unfold State.updateClosure
  cases hc : t.closures.find? (fun c => c.windowId == tag) with
  | none => exact h
  | some c =>
    dsimp only
    have hmem := List.mem_of_find?_eq_some hc
    split
    · refine queueSummary (h.move (.closures _ (fun hl => (List.length_filter_le ..).trans hl) ?_)) ..
      exact fun hb x hx => (closuresBalanced_iff t).1 hb x (List.mem_of_mem_filter hx)
    · next hout =>
      refine h.move (.closures _ (fun hl => by simpa using hl) ?_)
      intro hb x hx
      rw [closuresBalanced_iff] at hb
      obtain ⟨y, hy, rfl⟩ := List.mem_map.1 hx
      split
      · exact hf.balanced (hb c hmem) hout
      · exact hb y hy

theorem countVerdict (h : Moves p q s t) (tag : Option Nat) (kind : VerdictKind) (spanEvent : Bool) :
    Moves p q s (t.countVerdict tag kind spanEvent) := by
  cases tag with
  | none => exact h
  | some n =>
    refine h.updateClosure n fun c => ⟨rfl, ?_⟩
    show (c.counts.bump kind).sum + c.reHeld = _
    rw [VerdictCounts.sum_bump]
    omega

theorem countReHold (h : Moves p q s t) (tag : Option Nat) : Moves p q s (t.countReHold tag) := by
  cases tag with
  | none => exact h
  | some n => exact h.updateClosure n fun c => ⟨rfl, (Nat.add_assoc ..).symm⟩

theorem removeTag (h : Moves p q s t) (n : Nat) : Moves p q s (t.removeTag n) := by
  have hf : ∀ u l, Moves p q u
      (u.modifyLane l fun r => { r with grant := r.grant.map fun g => { g with entry := g.entry.untag n } }) :=
    fun _ l => nil.modifyLane l _ id
  have hq : Moves p q s { t with queue := t.queue.map fun e => e.untag n } := h.other rfl
  exact foldl hf allLanes hq

theorem appendEntry (h : Moves p q s t) (e : QueueEntry) : Moves p q s (t.appendEntry e) := by
  have hq : Moves p q s { t with queue := t.queue ++ [e] } := h.other rfl
  exact (hq.setCircuitState e.circuit .pending).lookAtCircuit e.circuit

theorem putBack (h : Moves p q s t) (e : QueueEntry) : Moves p q s (t.putBack e) := by
  have hq : Moves p q s { t with queue := e :: t.queue } := h.other rfl
  exact (hq.setCircuitState e.circuit .pending).lookAtCircuit e.circuit

theorem dropEntry (h : Moves p q s t) (c : Nat) : Moves p q s (t.dropEntry c) := h.other rfl

theorem makeIdle (h : Moves p q s t) (c : Nat) : Moves p q s (t.makeIdle c) := by
  unfold State.makeIdle
  dsimp only
  split
  · exact (h.setCircuitState c .idle).lookAtCircuit c
  · exact h.setCircuitState c .idle

end Moves

/-! ### Lanes: each operation keeps a lane sound -/

/-- The parts of `Lane.sound`. -/
theorem Lane.sound_iff (r : Lane) :
    r.sound = true ↔ figuresFit r.trim r.offset = true ∧ r.errorCount ≤ Config.faultCount ∧ r.age ≤ Config.maxAge ∧
      (∀ c, r.calResult = some c → c.outcome = .success → figuresFit c.trim c.offset = true) ∧
      (r.state = .faulted → r.errorCount = Config.faultCount) := by
  have hres : ∀ c : CalResult, (∀ c', some c = some c' → c'.outcome = .success → figuresFit c'.trim c'.offset = true) ↔
      (c.outcome = .success → figuresFit c.trim c.offset = true) := fun c =>
    ⟨fun h => h c rfl, fun h _ e => Option.some.inj e ▸ h⟩
  rw [Lane.sound]
  cases r.calResult with
  | none => simp [and_assoc, imp_iff_not_or]
  | some c => rw [hres]; simp [and_assoc, imp_iff_not_or]

/-- A lane keeps its soundness through a change of the fields that it does not speak of, the state included, which does not
become FAULTED. -/
theorem Lane.sound_of_state {r r' : Lane} (h : r.sound = true) (ht : r'.trim = r.trim) (ho : r'.offset = r.offset)
    (he : r'.errorCount = r.errorCount) (ha : r'.age = r.age) (hc : r'.calResult = r.calResult)
    (hs : r'.state ≠ .faulted) : r'.sound = true := by
  rw [Lane.sound_iff] at h ⊢
  rw [ht, ho, he, ha, hc]
  exact ⟨h.1, h.2.1, h.2.2.1, h.2.2.2.1, fun e => absurd e hs⟩

theorem Lane.park_sound {r : Lane} (h : r.sound = true) : r.park.sound = true :=
  Lane.sound_of_state h rfl rfl rfl rfl rfl nofun

theorem Lane.burst_sound {r : Lane} (h : r.sound = true) : r.burst.sound = true :=
  Lane.sound_of_state h rfl rfl rfl rfl rfl nofun

theorem Lane.endWork_sound {r : Lane} (h : r.sound = true) : r.endWork.sound = true := h

theorem Lane.begin_sound {r : Lane} (h : r.sound = true) (channel n : Nat) : (r.begin channel n).sound = true := by
  unfold Lane.begin
  dsimp only
  split
  · exact Lane.sound_of_state h rfl rfl rfl rfl rfl nofun
  · exact Lane.sound_of_state h rfl rfl rfl rfl rfl nofun

theorem Lane.stop_sound {r : Lane} (h : r.sound = true) : r.stop.sound = true := by
  unfold Lane.stop
  cases r.state with
  | tuned => exact Lane.park_sound (Lane.endWork_sound h)
  | measuring => exact Lane.park_sound (Lane.endWork_sound h)
  | _ => exact Lane.endWork_sound h

theorem Lane.startRun_sound {r : Lane} (h : r.sound = true) : r.startRun.sound = true := by
  rw [Lane.sound_iff] at h ⊢
  obtain ⟨hf, he, ha, -, -⟩ := h
  exact ⟨hf, he, ha, nofun, nofun⟩

/-- An outcome whose candidates fit where it is a success. -/
def CalResult.fits (c : CalResult) : Prop := c.outcome = .success → figuresFit c.trim c.offset = true

theorem Lane.closeRun_sound {r : Lane} (h : r.sound = true) {c : CalResult} (hc : c.fits) :
    (r.closeRun c).sound = true := by
  rw [Lane.sound_iff] at h ⊢
  obtain ⟨hf, he, ha, -, hs⟩ := h
  exact ⟨hf, he, ha, fun _ e => Option.some.inj e ▸ hc, hs⟩

theorem judgeReference_fits (b : HandedBurst) : (judgeReference b).fits := by
  unfold judgeReference CalResult.fits
  cases b.reduce.returned with
  | none => exact nofun
  | some r =>
    dsimp only
    split
    · exact nofun
    · split
      · exact nofun
      · split
        · exact nofun
        · rename_i htrim hoff
          intro _
          simp only [figuresFit, Bool.and_eq_true, decide_eq_true_eq]
          omega

theorem Lane.countError_sound {r : Lane} (h : r.sound = true) (k : ErrorKind) (c : Option Nat) :
    (r.countError k c).sound = true := by
  rw [Lane.sound_iff] at h ⊢
  obtain ⟨hf, he, ha, hc, hs⟩ := h
  refine ⟨hf, Nat.min_le_left .., ha, hc, fun e => ?_⟩
  show min Config.faultCount (r.errorCount + 1) = _
  rw [hs e]
  rfl

/-- A lane that becomes FAULTED exactly with two errors. -/
theorem Lane.settled_sound {r : Lane} (hf : figuresFit r.trim r.offset = true) (he : r.errorCount ≤ Config.faultCount)
    (ha : r.age ≤ Config.maxAge) (hc : ∀ c, r.calResult = some c → c.fits) :
    Lane.sound { r with state := if r.errorCount = Config.faultCount then .faulted else .parked } = true := by
  rw [Lane.sound_iff]
  refine ⟨hf, he, ha, hc, fun e => ?_⟩
  by_contra hne
  exact absurd e (by simp [hne])

theorem Lane.endPark_sound {r : Lane} (h : r.sound = true) : r.endPark.sound = true := by
  obtain ⟨hf, he, ha, hc, -⟩ := (Lane.sound_iff r).1 h
  exact Lane.settled_sound hf he ha hc

theorem Lane.endRun_sound {r : Lane} (h : r.sound = true) {c : CalResult} (hc : r.calResult = some c) :
    (r.endRun c).sound = true := by
  obtain ⟨hf, he, -, hfit, -⟩ := (Lane.sound_iff r).1 h
  unfold Lane.endRun
  dsimp only
  split
  · next hs => exact Lane.settled_sound (hfit c hc hs) (Nat.zero_le _) (Nat.zero_le _) nofun
  · exact Lane.settled_sound hf (Nat.min_le_left ..) (Nat.zero_le _) nofun

theorem Lane.atPhase_sound {r : Lane} (h : r.sound = true) (phase : GrantPhase) : (r.atPhase phase).sound = true := h

theorem Lane.settle_sound {r : Lane} (h : r.sound = true) : r.settle.sound = true := by
  unfold Lane.settle
  cases r.state with
  | tuning =>
    dsimp only
    split
    · exact Lane.park_sound h
    · exact Lane.atPhase_sound (Lane.burst_sound h) _
  | calibrating => dsimp only; split <;> exact h
  | _ => exact h

theorem Lane.takeSample_sound {r : Lane} (h : r.sound = true) (floor : Nat) (x : Sample) :
    (r.takeSample floor x).sound = true := by
  unfold Lane.takeSample
  dsimp only
  split
  · split
    · exact h
    · rw [Lane.sound_iff] at h ⊢
      obtain ⟨hf, -, ha, hc, -⟩ := h
      exact ⟨hf, Nat.zero_le _, ha, hc, nofun⟩
  · split
    · split <;> exact h
    · exact h
  all_goals exact h

theorem Lane.age_sound {r : Lane} (h : r.sound = true) :
    Lane.sound { r with age := min Config.maxAge (r.age + 1) } = true := by
  rw [Lane.sound_iff] at h ⊢
  obtain ⟨hf, he, -, hc, hs⟩ := h
  exact ⟨hf, he, Nat.min_le_left .., hc, hs⟩

namespace Moves

variable {p q : Bool} {s t : State}

theorem startRunIfDue (h : Moves p q s t) (l : LaneId) : Moves p q s (t.startRunIfDue l) := by
  unfold State.startRunIfDue
  split
  · exact h.modifyLane l _ Lane.startRun_sound
  · exact h

theorem startRuns (h : Moves p q s t) (ls : List LaneId) : Moves p q s (ls.foldl State.startRunIfDue t) := by
  have hf : ∀ (u : State) (l : LaneId), Moves p q u (u.startRunIfDue l) := fun _ l => nil.startRunIfDue l
  exact foldl hf ls h

theorem applyPending (h : Moves p q s t) (x : Profile) : Moves p q s (t.applyPending x) := by
  have hp : Moves p q s { t with profile := x, pendingProfile := none } := h.other rfl
  exact ((hp.queueReserved .profileApplied (.profileApplied x)).startRuns allLanes).lookAtAll

theorem laneSettled (h : Moves p q s t) (l : LaneId) : Moves p q s (t.laneSettled l) := by
  unfold State.laneSettled
  split
  · split
    · exact (h.applyPending _).lookAt l
    · exact h.lookAt l
  · exact (h.startRunIfDue l).lookAt l

theorem reportFault (h : Moves p q s t) (l : LaneId) : Moves p q s (t.reportFault l) := by
  unfold State.reportFault
  dsimp only
  split
  · exact h.queueUnreserved _
  · exact h

/-! ### The store -/

theorem beginCommit (h : Moves p q s t) : Moves p q s t.beginCommit := by
  unfold State.beginCommit
  split
  · split
    · exact h
    · exact (h.move (.slot _)).other rfl
  · exact h

theorem handCommit (h : Moves p q s t) (op : StoreOp) (x : Submitter) : Moves p q s (t.handCommit op x) := by
  have hc : Moves p q s { t with commits := t.commits ++ [⟨op, x⟩] } := h.other rfl
  exact hc.beginCommit

/-! ### The capture controller -/

theorem setEntry (h : Moves p q s t) (c : Nat) (st : EntryStatus) : Moves p q s (t.setEntry c st) := h.other rfl

theorem endCampaign (h : Moves p q s t) : Moves p q s t.endCampaign := (h.queueReserved _ _).other rfl

theorem finishEntry (h : Moves p q s t) (c : Nat) (r : CaptureResult) : Moves p q s (t.finishEntry c r) := by
  unfold State.finishEntry
  dsimp only
  split
  · exact endCampaign (h.other rfl)
  · split
    · exact h.other rfl
    · exact h.other rfl

theorem returnEntry (h : Moves p q s t) (c : Nat) : Moves p q s (t.returnEntry c) := by
  have hf : Moves p q s { t.setEntry c .unprocessed with
      campaign := (t.setEntry c .unprocessed).campaign.followReasons } := (h.setEntry c .unprocessed).other rfl
  exact hf.lookAtCircuit c

theorem reachUndefined (h : Moves p q s t) (c : Nat) : Moves p q s (t.reachUndefined c) := by
  unfold State.reachUndefined
  dsimp only
  split
  · split
    · exact h.finishEntry ..
    · split
      · exact h.finishEntry ..
      · exact h
  · exact h

theorem startRunning (h : Moves p q s t) : Moves p q s t.startRunning := by
  have hr : Moves p q s { t with campaign := { t.campaign with state := .running } } := h.other rfl
  have hf : ∀ (u : State) (c : Nat), Moves p q u (u.reachUndefined c) := fun _ c => nil.reachUndefined c
  have hall := (foldl hf (t.campaign.entries.map (·.circuit)) hr).lookAtAll
  exact hall

theorem resumeIfFree (h : Moves p q s t) : Moves p q s t.resumeIfFree := by
  unfold State.resumeIfFree
  dsimp only
  split
  · exact h.startRunning
  · exact h

theorem stackEmptied (h : Moves p q s t) : Moves p q s t.stackEmptied := by
  have hw : Moves p q s { t with campaign := { t.campaign with window := false } } := h.other rfl
  exact hw.resumeIfFree

theorem windowOpened (h : Moves p q s t) : Moves p q s t.windowOpened := by
  unfold State.windowOpened
  split
  · exact h
  · exact h.other rfl

theorem askCapture (l : LaneId) (cs : List Nat) (h : Moves p q s t) : Moves p q s (State.askCapture l cs t).1 := by
  induction cs generalizing t with
  | nil => exact h
  | cons c cs ih =>
    unfold State.askCapture
    split
    · exact h
    · split
      · split
        · exact ih (h.finishEntry ..)
        · split
          · exact ih (h.finishEntry ..)
          · split <;> exact h
      · exact ih h

theorem grantCapture (h : Moves p q s t) (l : LaneId) (c channel : Nat) : Moves p q s (t.grantCapture l c channel) := by
  unfold State.grantCapture
  dsimp only
  exact ((h.setCircuitState c .capturing).setEntry c (.measuring l)).modifyLane l _ fun hr => Lane.begin_sound hr ..

theorem settleCommit (h : Moves p q s t) (c : Nat) : Moves p q s (t.settleCommit c) := by
  have hc : Moves p q s (t.setCircuit c { t.circuit c with releaseOwed := none, disturbed := false }) :=
    h.move (.circuit c _ rfl rfl)
  unfold State.settleCommit
  dsimp only
  split
  · exact hc.setCircuitState ..
  · split
    · exact hc.appendEntry _
    · exact hc.appendEntry _
    · split
      · exact hc.appendEntry _
      · exact hc.makeIdle c

theorem lookIfBelow (h : Moves p q s t) (n : Nat) : Moves p q s (t.lookIfBelow n) := by
  unfold State.lookIfBelow
  split
  · exact h.lookAtAll
  · exact h

theorem handOn (n : Nat) (h : Moves p q s t) : Moves p q s (State.handOn n t) := by
  induction n generalizing t with
  | zero => exact h
  | succ n ih =>
    unfold State.handOn
    split
    · exact h
    · next x rest _ =>
      split
      · dsimp only
        have hr : Moves p q s { t with campaign := { t.campaign with handOff := rest } } := h.other rfl
        split
        · exact ih (((hr.finishEntry ..).settleCommit _).lookIfBelow _)
        · exact ih (hr.handCommit ..)
      · exact h

theorem handOnAll (h : Moves p q s t) : Moves p q s t.handOnAll := handOn _ h

theorem concludeCapture (h : Moves p q s t) (c : Nat) (b : Baseline) {success : Bool} (hp : success = true → p = true) :
    Moves p q s (t.concludeCapture c b success) := by
  unfold State.concludeCapture
  cases success with
  | true => exact ((((h.move (.baseline c (some b) (hp rfl))).finishEntry ..).settleCommit c).lookIfBelow _).handOnAll
  | false => exact (((h.finishEntry ..).settleCommit c).lookIfBelow _).handOnAll

theorem releaseLane (h : Moves p q s t) (l : LaneId) : Moves p q s (t.releaseLane l) :=
  (h.modifyLane l _ Lane.endWork_sound).lookAt l

theorem failCapture (h : Moves p q s t) (l : LaneId) (c : Nat) (r : CaptureResult) :
    Moves p q s (t.failCapture l c r) := ((h.releaseLane l).finishEntry c r).makeIdle c

theorem completeCapture (h : Moves p q s t) (l : LaneId) (w : CaptureWork) (d : Definition) :
    Moves p q s (t.completeCapture l w d) := by
  unfold State.completeCapture
  dsimp only
  split
  · exact h.failCapture ..
  · have hs : Moves p q s ((t.releaseLane l).setEntry w.circuit (.committing l)) := (h.releaseLane l).setEntry ..
    exact handOnAll (hs.other rfl)

theorem takeCaptureBurst (h : Moves p q s t) (l : LaneId) (w : CaptureWork) (d : Definition) (b : HandedBurst) :
    Moves p q s (t.takeCaptureBurst l w d b) := by
  unfold State.takeCaptureBurst
  dsimp only
  split
  · exact h.failCapture ..
  · split
    · exact h.failCapture ..
    · split
      · exact h.failCapture ..
      · split
        · exact h.modifyLane l _ Lane.burst_sound
        · exact h.completeCapture ..

theorem stopCapture (h : Moves p q s t) (c : Nat) : Moves p q s (t.stopCapture c) := by
  unfold State.stopCapture
  split
  · exact h.modifyLane _ _ Lane.stop_sound
  · exact h

theorem laneError (h : Moves p q s t) (l : LaneId) (k : ErrorKind) : Moves p q s (t.laneError l k) := by
  have hl : ∀ c, Moves p q s (t.setLane l ((t.lane l).endWork.park.countError k c)) := fun c =>
    h.modifyLane l (fun r => r.endWork.park.countError k c) fun hs =>
      Lane.countError_sound (Lane.park_sound (Lane.endWork_sound hs)) ..
  unfold State.laneError
  dsimp only
  split
  · exact ((hl _).returnReservation _).putBack _
  · exact ((hl _).returnEntry _).makeIdle _
  · exact hl _

/-! ### Verdicts and the arbiter -/

theorem concludeVerdict (h : Moves p q s t) (c : Nat) (v : Verdict) : Moves p q s (t.concludeVerdict c v) := by
  unfold State.concludeVerdict
  dsimp only
  have hc := ((h.modifyCircuit c (fun r => { r with lastVerdict := some v }) rfl rfl).makeIdle c).countVerdict
    v.closureId v.kind v.qualifiers.spanEvent
  split
  · exact hc.returnReservation _
  · exact hc.queueReserved ..

theorem endGrant (h : Moves p q s t) (l : LaneId) (g : Grant) (earlier : List Attempt) (last : Attempt) :
    Moves p q s (t.endGrant l g earlier last) :=
  ((h.concludeVerdict ..).modifyLane l _ Lane.endWork_sound).lookAt l

theorem takeAttempt (h : Moves p q s t) (l : LaneId) (g : Grant) (d : Definition) (b : HandedBurst) :
    Moves p q s (t.takeAttempt l g d b) := by
  unfold State.takeAttempt
  dsimp only
  split
  · exact h.endGrant ..
  · exact h.modifyLane l _ Lane.burst_sound

theorem dispatchFaulted (h : Moves p q s t) (hfree : t.hasFree = true) (l : LaneId) (e : QueueEntry) :
    Moves p q s (t.dispatchFaulted l e) := ((h.move (.reserve .verdict hfree)).dropEntry _).concludeVerdict ..

theorem grantVerification (h : Moves p q s t) (hfree : t.hasFree = true) (l : LaneId) (e : QueueEntry) (channel : Nat) :
    Moves p q s (t.grantVerification l e channel) := by
  unfold State.grantVerification
  dsimp only
  exact (((h.move (.reserve .verdict hfree)).dropEntry e.circuit).setCircuitState e.circuit .probing).modifyLane l _
    fun hr => Lane.begin_sound hr ..

theorem offerEntry (looks : List LaneId) (acc : State × List LaneId) (e : QueueEntry) (h : Moves p q s acc.1) :
    Moves p q s (State.offerEntry looks acc e).1 := by
  unfold State.offerEntry
  obtain ⟨t, done⟩ := acc
  dsimp only
  split
  · split
    · split
      · exact h
      · next hfree =>
        have hfree : t.hasFree = true := by simpa using hfree
        split
        · exact h.dispatchFaulted hfree ..
        · split
          · exact h.grantVerification hfree ..
          · exact h
    · exact h
  · exact h

theorem offerQueue (h : Moves p q s t) : Moves p q s t.offerQueue := by
  have hfold : ∀ (es : List QueueEntry) (acc : State × List LaneId), Moves p q s acc.1 →
      Moves p q s (es.foldl (State.offerEntry t.looks) acc).1 := by
    intro es
    induction es with
    | nil => exact fun _ h => h
    | cons e es ih => exact fun acc h => ih _ (offerEntry _ acc e h)
  exact hfold t.queue (t, []) h

theorem offerCapture (h : Moves p q s t) (l : LaneId) : Moves p q s (t.offerCapture l) := by
  unfold State.offerCapture
  split
  · have ha := askCapture l (t.campaign.entries.map (·.circuit)) h
    dsimp only
    split
    · split
      · split
        · exact ha.grantCapture ..
        · exact ha
      · exact ha
    · exact ha
  · exact h

theorem parkIfIdle (h : Moves p q s t) (l : LaneId) : Moves p q s (t.parkIfIdle l) := by
  unfold State.parkIfIdle
  split
  · exact h.modifyLane l _ Lane.park_sound
  · exact h

theorem arbitrate (h : Moves p q s t) : Moves p q s t.arbitrate := by
  have hoffer : ∀ (u : State) (l : LaneId), Moves p q u (u.offerCapture l) := fun _ l => nil.offerCapture l
  have hpark : ∀ (u : State) (l : LaneId), Moves p q u (u.parkIfIdle l) := fun _ l => nil.parkIfIdle l
  have hend := foldl hpark allLanes (foldl hoffer t.offerQueue.lookedAt h.offerQueue)
  exact hend.looks []

end Moves

end Sys2Proof.Machine

/-! ## What every move leaves unchanged -/

namespace Sys2Proof.Machine

theorem State.putSlot_phase (s : State) (x : SavedSlot) : (s.putSlot x).phase = s.phase := by cases x <;> rfl
theorem State.putSlot_processor (s : State) (x : SavedSlot) : (s.putSlot x).processor = s.processor := by
  cases x <;> rfl

theorem State.queueUnreserved_phase (s : State) (n : Notice) : (s.queueUnreserved n).phase = s.phase := by
  rcases s.queueUnreserved_cases n with ⟨-, e⟩ | ⟨-, e⟩ <;> rw [e]
theorem State.queueUnreserved_processor (s : State) (n : Notice) : (s.queueUnreserved n).processor = s.processor := by
  rcases s.queueUnreserved_cases n with ⟨-, e⟩ | ⟨-, e⟩ <;> rw [e]

theorem State.queueReserved_phase (s : State) (k : ReservedKind) (n : Notice) :
    (s.queueReserved k n).phase = s.phase := by
  unfold State.queueReserved
  split
  · exact s.queueUnreserved_phase n
  · rfl
theorem State.queueReserved_processor (s : State) (k : ReservedKind) (n : Notice) :
    (s.queueReserved k n).processor = s.processor := by
  unfold State.queueReserved
  split
  · exact s.queueUnreserved_processor n
  · rfl

/-- The old definition leaves the indexes alone changed. -/
theorem State.unindexOld_eq (s : State) (id code : Nat) (old : Option Definition) :
    ∃ cm si, s.unindexOld id code old = { s with codeMap := cm, spanIndex := si } := by
  cases old with
  | none => exact ⟨s.codeMap, s.spanIndex, rfl⟩
  | some d =>
    unfold State.unindexOld
    dsimp only
    split
    · exact ⟨s.codeMap, _, rfl⟩
    · exact ⟨_, _, rfl⟩

/-- Putting a definition in place changes the circuit table and the indexes. -/
theorem State.putDefinition_eq (s : State) (id : Nat) (d : Definition) (kind : DefineKind) :
    ∃ cs cm si, s.putDefinition id d kind = { s with circuits := cs, codeMap := cm, spanIndex := si } := by
  obtain ⟨cm, si, e⟩ := s.unindexOld_eq id d.code (s.circuit id).definition
  unfold State.putDefinition
  dsimp only
  rw [e]
  exact ⟨_, _, _, rfl⟩

/-- Emptying a slot changes the circuit table and the indexes. -/
theorem State.emptySlot_eq (s : State) (id : Nat) :
    ∃ cs cm si, s.emptySlot id = { s with circuits := cs, codeMap := cm, spanIndex := si } := by
  unfold State.emptySlot
  cases (s.circuit id).definition with
  | none => exact ⟨_, s.codeMap, s.spanIndex, rfl⟩
  | some d => exact ⟨_, _, _, rfl⟩

theorem Move.phase_eq {p q : Bool} {s t : State} (m : Move p q s t) : t.phase = s.phase := by
  cases m with
  | other h => exact congrArg Tracked.phase h
  | queueUnreserved n => exact s.queueUnreserved_phase n
  | queueReserved k n => exact s.queueReserved_phase k n
  | slot x => exact s.putSlot_phase x
  | definition id d kind _ _ => obtain ⟨_, _, _, e⟩ := s.putDefinition_eq id d kind; rw [e]
  | emptySlot id _ => obtain ⟨_, _, _, e⟩ := s.emptySlot_eq id; rw [e]
  | _ => rfl

theorem Move.processor_eq {p : Bool} {s t : State} (m : Move p false s t) : t.processor = s.processor := by
  cases m with
  | other h => exact congrArg Tracked.processor h
  | queueUnreserved n => exact s.queueUnreserved_processor n
  | queueReserved k n => exact s.queueReserved_processor k n
  | slot x => exact s.putSlot_processor x
  | definition id d kind _ _ => obtain ⟨_, _, _, e⟩ := s.putDefinition_eq id d kind; rw [e]
  | emptySlot id _ => obtain ⟨_, _, _, e⟩ := s.emptySlot_eq id; rw [e]
  | processor _ hk _ => cases hk
  | _ => rfl

/-- A move with fewer rights is one with more. -/
theorem Move.talking {p q : Bool} {s t : State} (m : Move p q s t) : Move p true s t := by
  cases m with
  | other h => exact .other h
  | circuit c r hd hb => exact .circuit c r hd hb
  | lane l r h => exact .lane l r h
  | line l r h => exact .line l r h
  | reserve k h => exact .reserve k h
  | unreserve k => exact .unreserve k
  | queueUnreserved n => exact .queueUnreserved n
  | queueReserved k n => exact .queueReserved k n
  | beginNotice n rest mark hi hn => exact .beginNotice n rest mark hi hn
  | transmitter x hb h => exact .transmitter x hb h
  | requests qs _ h => exact .requests qs rfl h
  | replies rs _ h => exact .replies rs rfl h
  | processor x _ h => exact .processor x rfl h
  | stack ws _ h => exact .stack ws rfl h
  | closures cs hl hb => exact .closures cs hl hb
  | slot x => exact .slot x
  | definition id d kind hk h => exact .definition id d kind hk h
  | emptySlot id hk => exact .emptySlot id hk
  | baseline c b hk => exact .baseline c b hk
  | protection r level session hk => exact .protection r level session hk

namespace Moves

variable {p q : Bool} {s t : State}

theorem phase_eq (h : Moves p q s t) : t.phase = s.phase :=
  h.keeps (P := fun u => u.phase = s.phase) (fun m hu => m.phase_eq.trans hu) rfl

theorem processor_eq (h : Moves p false s t) : t.processor = s.processor :=
  h.keeps (P := fun u => u.processor = s.processor) (fun m hu => m.processor_eq.trans hu) rfl

theorem talking (h : Moves p q s t) : Moves p true s t := by
  induction h with
  | refl => exact nil
  | tail _ m ih => exact ih.move m.talking

end Moves

/-! ## Replies and the request processor as moves -/

/-- The parts of `State.jobChecked`. -/
theorem State.jobChecked_iff (s : State) :
    s.jobChecked = true ↔
      (∀ tag id d kind clamped second, s.processor = .committing tag (.define id d kind clamped second) →
        s.codeOwner d.code = none ∨ s.codeOwner d.code = some id) ∧
      (s.phase = .running ∨ s.processor = .free) := by
  unfold State.jobChecked
  rw [Bool.and_eq_true, Bool.or_eq_true, beq_iff_eq, beq_iff_eq]
  refine and_congr_left fun _ => ?_
  split
  · next tag id d kind clamped second e =>
    rw [Bool.or_eq_true, beq_iff_eq, beq_iff_eq]
    refine ⟨?_, fun h => h _ _ _ _ _ _ e⟩
    intro h tag' id' d' kind' clamped' second' e'
    rw [e] at e'
    cases e'
    exact h
  · next hne => exact ⟨fun _ tag id d kind clamped second e => (hne _ _ _ _ _ _ e).elim, fun _ => rfl⟩

/-- A part that may set its processor to anything but a definition that waits for its commits. -/
theorem State.jobChecked_setProcessor {s : State} {x : Processor}
    (hx : ∀ tag id d kind clamped second, x ≠ .committing tag (.define id d kind clamped second))
    (hw : x = .free ∨ s.phase = .running ∨ s.processor ≠ .free) (h : s.jobChecked = true) :
    State.jobChecked { s with processor := x } = true := by
  rw [State.jobChecked_iff] at h ⊢
  refine ⟨fun _ _ _ _ _ _ e => absurd e (hx _ _ _ _ _ _), ?_⟩
  rcases hw with hw | hw | hw
  · exact .inr hw
  · exact .inl hw
  · exact .inl (h.2.resolve_right hw)

namespace Moves

variable {p q : Bool} {s t : State}

theorem freeProcessor (h : Moves p true s t) : Moves p true s { t with processor := .free } :=
  h.move (.processor _ rfl (State.jobChecked_setProcessor nofun (.inl rfl)))

theorem addReply (h : Moves p true s t) (r : Reply) (hroom : t.replies.length < Config.replyEntries) :
    Moves p true s { t with replies := t.replies ++ [r] } :=
  h.move (.replies _ rfl fun _ => by rw [List.length_append]; exact hroom)

theorem placeReply (h : Moves p true s t) (hw : t.phase = .running ∨ t.processor ≠ .free) (r : Reply) :
    Moves p true s (t.placeReply r) := by
  unfold State.placeReply
  split
  · next hroom => exact (h.addReply r hroom).freeProcessor
  · exact h.move (.processor _ rfl (State.jobChecked_setProcessor nofun (.inr hw)))

theorem answer (h : Moves p true s t) (hw : t.phase = .running ∨ t.processor ≠ .free) (tag code : U8)
    (status : Status) (body : ReplyBody) : Moves p true s (t.answer tag code status body) := by
  unfold State.answer
  refine placeReply ?_ ?_ _
  · exact h.other rfl
  · exact hw

/-- The answer of a request that is being handled. -/
theorem answerRunning (hs : s.phase = .running) (h : Moves p q s t) (tag code : U8) (status : Status)
    (body : ReplyBody) : Moves p true s (t.answer tag code status body) :=
  h.talking.answer (.inl (h.phase_eq.trans hs)) ..

/-- The answer of a request that has waited for its commits. -/
theorem answerWaiting (hs : s.processor ≠ .free) (h : Moves p false s t) (tag code : U8) (status : Status)
    (body : ReplyBody) : Moves p true s (t.answer tag code status body) :=
  h.talking.answer (.inr (by rwa [h.processor_eq])) ..

/-! ### The protection unit -/

theorem usePermit (h : Moves p q s t) : Moves p q s t.usePermit := h.other rfl

theorem spendIf (h : Moves p q s t) (uses : Bool) : Moves p q s (t.spendIf uses) := by
  unfold State.spendIf
  split
  · exact h.usePermit
  · exact h

theorem handleSetProtection (hs : s.phase = .running) (tag : U8) (f : ProtectFields) :
    Moves p true s (s.handleSetProtection tag f) := by
  unfold State.handleSetProtection
  split
  · exact (usePermit (q := true) nil).answerRunning hs ..
  · split
    · exact (nil (q := true)).answerRunning hs ..
    · split
      · exact (nil (q := true)).answerRunning hs ..
      · next region level _ _ _ =>
        have hr : Moves p true s { s with regionBeingWritten := some region } := other nil rfl
        exact (hr.move (.processor _ rfl (State.jobChecked_setProcessor
            (fun _ _ _ _ _ _ => by simp) (.inr (.inl hs))))).handCommit ..

/-! ### The capture controller's requests -/

theorem startCampaign (hfree : s.hasFree = true) (ids : List Nat) : Moves p q s (s.startCampaign ids).1 := by
  have hc : Moves p q s { s with campaign := freshCampaign ids } := other nil rfl
  have hr := hc.move (.reserve .captureDone hfree)
  unfold State.startCampaign
  dsimp only
  split
  · dsimp only
    exact hr.endCampaign
  · split
    · dsimp only
      exact hr.startRunning
    · dsimp only
      exact hr.setCampaign _

theorem handleStartCapture (hs : s.phase = .running) (tag : U8) (f : StartFields) :
    Moves p true s (s.handleStartCapture tag f) := by
  unfold State.handleStartCapture
  split
  · exact (usePermit (q := true) nil).answerRunning hs ..
  · split
    · split
      · exact (nil (q := true)).answerRunning hs ..
      · exact (usePermit (q := true) nil).answerRunning hs ..
    · next choice _ hrefuse =>
      have hfree : s.hasFree = true := by
        by_contra hn
        rw [Bool.not_eq_true] at hn
        simp only [State.startRefusal, hn] at hrefuse
        split at hrefuse
        · exact absurd hrefuse nofun
        · split at hrefuse <;> exact absurd hrefuse nofun
      dsimp only
      exact (usePermit (startCampaign (q := true) hfree _)).answerRunning hs ..

theorem suspend (h : Moves p q s t) : Moves p q s t.suspend := by
  unfold State.suspend
  dsimp only
  split
  · exact h
  · split
    · exact h.other rfl
    · exact h.other rfl

theorem resume (h : Moves p q s t) : Moves p q s t.resume := by
  unfold State.resume
  dsimp only
  split
  · have hc : Moves p q s { t with campaign := { t.campaign with
        host := false, progressOwed := true, deferredSuspend := false } } := h.other rfl
    exact hc.resumeIfFree
  · exact h

theorem cancel (h : Moves p q s t) : Moves p q s t.cancel.1 := by
  have hc : Moves p q s { t with campaign := { t.campaign with cancelled := true } } := h.other rfl
  have hm : ∀ (u : State) (c : Nat), Moves p q u (u.cancelMeasuring c) := fun _ c =>
    ((nil.stopCapture c).finishEntry c .cancelled).makeIdle c
  have hw : ∀ (u : State) (c : Nat), Moves p q u (u.finishEntry c .cancelled) := fun _ c => nil.finishEntry ..
  have hall := foldl hw (t.campaign.withStatus (· == .unprocessed))
    (foldl hm (t.campaign.withStatus EntryStatus.isMeasuring) hc)
  exact hall

/-! ### The circuit table's requests -/

theorem beginJob (hs : s.phase = .running) (id : Nat) (tag : U8) (job : Job) (op : StoreOp)
    (hjob : ∀ id' d kind clamped second, job = .define id' d kind clamped second →
      s.codeOwner d.code = none ∨ s.codeOwner d.code = some id') :
    Moves p true s (s.beginJob id tag job op) := by
  have hc : Moves p true s (s.modifyCircuit id fun r => { r with changing := true }) := modifyCircuit nil id _ rfl rfl
  refine (hc.move (.processor (.committing tag job) rfl fun _ => ?_)).handCommit ..
  refine (State.jobChecked_iff _).2 ⟨fun _ id' d kind clamped second e => ?_, .inl hs⟩
  exact hjob id' d kind clamped second (Processor.committing.inj e).2

theorem endChange (h : Moves p q s t) (id : Nat) : Moves p q s (t.endChange id) := by
  have hc := (h.modifyCircuit id (fun r => { r with changing := false }) rfl rfl).reachUndefined id
  unfold State.endChange
  dsimp only
  split
  · exact hc.lookAtCircuit id
  · exact hc

end Moves

/-- The code of a definition that passes check 2 of R14 has no owner, or the circuit itself. -/
theorem State.otherOwner_eq_none {s : State} {id code : Nat} (h : s.otherOwner id code = none) :
    s.codeOwner code = none ∨ s.codeOwner code = some id := by
  unfold State.otherOwner at h
  cases ho : s.codeOwner code with
  | none => exact .inl rfl
  | some o =>
    rw [ho] at h
    by_cases he : o = id
    · exact .inr (he ▸ rfl)
    · simp [he] at h

namespace Moves

variable {p q : Bool} {s t : State}

theorem handleDefine (hs : s.phase = .running) (tag : U8) (f : DefineFields) :
    Moves p true s (s.handleDefine tag f) := by
  unfold State.handleDefine
  split
  · exact (nil (q := true)).answerRunning hs ..
  · dsimp only
    split
    · exact (spendIf (q := true) nil _).answerRunning hs ..
    · next hown =>
      split
      · exact (spendIf (q := true) nil _).answerRunning hs ..
      · refine beginJob hs _ _ _ _ fun id' d kind clamped second e => ?_
        cases e
        exact State.otherOwner_eq_none hown

theorem handleDelete (hs : s.phase = .running) (tag : U8) (id : U16) : Moves p true s (s.handleDelete tag id) := by
  unfold State.handleDelete
  dsimp only
  split
  · exact (spendIf (q := true) nil _).answerRunning hs ..
  · exact beginJob hs _ _ _ _ nofun

theorem handleClearBaseline (hs : s.phase = .running) (tag : U8) (id : U16) :
    Moves p true s (s.handleClearBaseline tag id) := by
  unfold State.handleClearBaseline
  dsimp only
  split
  · exact (spendIf (q := true) nil _).answerRunning hs ..
  · split
    · exact (usePermit (q := true) nil).answerRunning hs ..
    · exact beginJob hs _ _ _ _ nofun

theorem handleGetCircuit (hs : s.phase = .running) (tag : U8) (id : U16) :
    Moves p true s (s.handleGetCircuit tag id) := by
  unfold State.handleGetCircuit
  split <;> exact (nil (q := true)).answerRunning hs ..

theorem handleProbeNow (hs : s.phase = .running) (tag : U8) (id : U16) :
    Moves p true s (s.handleProbeNow tag id) := by
  have hentry := (appendEntry (p := p) (q := true) (s := s) nil (plainEntry id.toNat .request)).answerRunning hs tag 0x24
    .ok .none
  unfold State.handleProbeNow
  dsimp only
  split
  · exact (nil (q := true)).answerRunning hs ..
  · split <;> first | exact hentry | exact (nil (q := true)).answerRunning hs ..

/-! ### The requests of the lanes -/

theorem applyNow (h : Moves p q s t) (x : Profile) : Moves p q s (t.applyNow x) := by
  have hp : Moves p q s { t with profile := x } := h.other rfl
  exact (hp.startRuns allLanes).lookAtAll

theorem handleSetProfile (hs : s.phase = .running) (tag : U8) (f : SetProfileFields) :
    Moves p true s (s.handleSetProfile tag f) := by
  unfold State.handleSetProfile
  split
  · exact (nil (q := true)).answerRunning hs ..
  · dsimp only
    split
    · have hp : Moves p true s { s with pendingProfile := some f.profile } := other nil rfl
      exact hp.answerRunning hs ..
    · split
      · exact (applyNow (q := true) nil _).answerRunning hs ..
      · split
        · exact (nil (q := true)).answerRunning hs ..
        · next hfree =>
          have hr : Moves p true s (s.reserve .profileApplied) := nil.move (.reserve _ (by simpa using hfree))
          have hp : Moves p true s { s.reserve .profileApplied with pendingProfile := some f.profile } := hr.other rfl
          exact hp.answerRunning hs ..

end Moves

/-- A lane keeps its soundness when a calibration is requested, and when its errors are cleared for a run. -/
theorem Lane.requested_sound {r : Lane} (h : r.sound = true) : Lane.sound { r with calRequested := true } = true := h

theorem Lane.restarted_sound {r : Lane} (h : r.sound = true) : Lane.sound (Lane.startRun { r with errorCount := 0 }) = true := by
  rw [Lane.sound_iff] at h ⊢
  obtain ⟨hf, -, ha, -, -⟩ := h
  exact ⟨hf, Nat.zero_le _, ha, nofun, nofun⟩

namespace Moves

variable {p q : Bool} {s t : State}

theorem recalibrate (h : Moves p q s t) (l : LaneId) : Moves p q s (t.recalibrate l) := by
  have hr := h.modifyLane l (fun r => { r with calRequested := true }) Lane.requested_sound
  unfold State.recalibrate
  split
  · exact h.modifyLane l _ Lane.restarted_sound
  · exact hr.startRunIfDue l
  all_goals exact hr

theorem handleRecalibrate (hs : s.phase = .running) (tag : U8) (lane : U8) :
    Moves p true s (s.handleRecalibrate tag lane) := by
  unfold State.handleRecalibrate
  split
  · exact (nil (q := true)).answerRunning hs ..
  · exact (recalibrate (q := true) nil _).answerRunning hs ..

/-! ### The sense lines -/

theorem disturb (h : Moves p q s t) (c : Nat) : Moves p q s (t.disturb c) := by
  unfold State.disturb
  split
  · exact ((h.stopCapture c).finishEntry c .disturbed).appendEntry _
  · exact h.modifyCircuit c _ rfl rfl

theorem verifySpan (h : Moves p q s t) (span : Nat) : Moves p q s (t.verifySpan span).1 := by
  have happend : ∀ (u : State) (c : Nat), Moves p q u (u.appendEntry (plainEntry c .sense)) := fun _ c => nil.appendEntry _
  have hdisturb : ∀ (u : State) (c : Nat), Moves p q u (u.disturb c) := fun _ c => nil.disturb c
  have hall := foldl hdisturb (t.toDisturb span) (foldl happend (t.toVerify span) h)
  exact hall

end Moves

/-- Logging an event keeps the capacities of the stack and of the event lists (R35). -/
theorem logEvent_fits (e : SenseEvent) (ws : List Window) (h : ∀ w ∈ ws, w.events.length ≤ Config.eventListDepth) :
    (logEvent e ws).1.length = ws.length ∧ ∀ w ∈ (logEvent e ws).1, w.events.length ≤ Config.eventListDepth := by
  induction ws with
  | nil => exact ⟨rfl, h⟩
  | cons w ws ih =>
    obtain ⟨hw, hws⟩ := List.forall_mem_cons.1 h
    unfold logEvent
    split
    · split
      · next hlt =>
        refine ⟨rfl, List.forall_mem_cons.2 ⟨?_, hws⟩⟩
        rw [List.length_append]
        exact hlt
      · exact ⟨rfl, List.forall_mem_cons.2 ⟨hw, hws⟩⟩
    · obtain ⟨hlen, hmem⟩ := ih hws
      exact ⟨congrArg (· + 1) hlen, List.forall_mem_cons.2 ⟨hw, hmem⟩⟩

theorem logEvent_stackFits (e : SenseEvent) {ws : List Window} (h : stackFits ws) : stackFits (logEvent e ws).1 :=
  ⟨(logEvent_fits e ws h.2).1.trans_le h.1, (logEvent_fits e ws h.2).2⟩

namespace Moves

variable {p q : Bool} {s t : State}

theorem routeEvent (h : Moves p true s t) (l : LineId) : Moves p true s (t.routeEvent l).1 := by
  unfold State.routeEvent
  dsimp only
  split
  · exact h
  · split
    · next stack id appended hlog =>
      refine h.move (.stack _ rfl fun hfit => ?_)
      have hres := logEvent_stackFits ⟨l, (t.line l).span, t.clock, (t.line l).mode⟩ hfit
      rwa [hlog] at hres
    · split
      · exact h.verifySpan _
      · exact h

theorem takeEvent (h : Moves p true s t) (l : LineId) : Moves p true s (t.takeEvent l) := (h.routeEvent l).queueUnreserved _

theorem settleLine (h : Moves p true s t) (l : LineId) (r : SenseLine) : Moves p true s (t.settleLine l r) := by
  have hl : Moves p true s (t.setLine l r.masking) := h.move (.line l _ fun _ => rfl)
  unfold State.settleLine
  dsimp only
  split
  · exact hl.takeEvent l
  · exact hl

theorem senseInput (h : Moves p true s t) (l : LineId) (high : Bool) : Moves p true s (t.senseInput l high) := by
  unfold State.senseInput
  dsimp only
  split
  · exact h
  · exact h.settleLine ..

theorem handleSetSense (hs : s.phase = .running) (tag : U8) (f : SetSenseFields) :
    Moves p true s (s.handleSetSense tag f) := by
  unfold State.handleSetSense
  split
  · exact (nil (q := true)).answerRunning hs ..
  · exact (settleLine nil _ _).answerRunning hs ..

theorem handleClearSense (hs : s.phase = .running) (tag : U8) (lines : List U8) :
    Moves p true s (s.handleClearSense tag lines) := by
  have hclear : ∀ (u : State) (l : LineId), Moves p true u (u.clearLine l) := fun u l => nil.move (.line l _ fun _ => rfl)
  have hrelatch : ∀ (u : State) (l : LineId), Moves p true u (u.relatchLine l) := fun _ l => nil.settleLine ..
  unfold State.handleClearSense
  split
  · exact (nil (q := true)).answerRunning hs ..
  · next named _ =>
    have hall := foldl hrelatch named (foldl hclear named (nil (s := s)))
    exact hall.answerRunning hs ..

/-! ### Windows -/

theorem takeBack (h : Moves p q s t) (c : Nat) : Moves p q s (t.takeBack c) := by
  unfold State.takeBack
  split
  · exact h
  · exact ((h.modifyLane _ _ Lane.stop_sound).returnReservation _).countReHold _

theorem addHold (h : Moves p q s t) (c : Nat) : Moves p q s (t.addHold c) := by
  have hheld := h.modifyCircuit c (fun r => { r with holds := r.holds + 1 }) rfl rfl
  unfold State.addHold
  dsimp only
  split
  · exact hheld.setCircuitState ..
  · exact hheld.setCircuitState ..
  · exact ((hheld.dropEntry c).setCircuitState c .held).countReHold _
  · exact (hheld.setCircuitState c .held).takeBack c
  · split
    · exact ((hheld.stopCapture c).setCircuitState c .held).returnEntry c
    · exact hheld.modifyCircuit c _ rfl rfl
  · exact h
  · exact h

theorem removeHold (h : Moves p q s t) (cause : ReleaseCause) (c : Nat) : Moves p q s (t.removeHold cause c).1 := by
  have hc : Moves p q s (t.setCircuit c { t.circuit c with holds := (t.circuit c).holds - 1 }) :=
    h.move (.circuit c _ rfl rfl)
  unfold State.removeHold
  dsimp only
  split
  · exact h
  · split
    · exact hc
    · split
      · exact hc.setCircuitState ..
      · split
        · exact hc.modifyCircuit c (fun r => { r with releaseOwed := some cause }) rfl rfl
        · exact hc

theorem abortHold (h : Moves p q s t) (c : Nat) : Moves p q s (t.abortHold c).1 := by
  have hc : Moves p q s (t.setCircuit c { t.circuit c with holds := (t.circuit c).holds - 1 }) :=
    h.move (.circuit c _ rfl rfl)
  unfold State.abortHold
  dsimp only
  split
  · exact h
  · split
    · exact hc
    · split
      · exact hc.makeIdle c
      · exact hc

theorem releaseAll (cause : ReleaseCause) (cs : List Nat) (h : Moves p q s t) :
    Moves p q s (State.releaseAll cause cs t).1 := by
  induction cs generalizing t with
  | nil => exact h
  | cons c cs ih => exact ih (h.removeHold cause c)

theorem abortAll (cs : List Nat) (h : Moves p q s t) : Moves p q s (State.abortAll cs t).1 := by
  induction cs generalizing t with
  | nil => exact h
  | cons c cs ih => exact ih (h.abortHold c)

end Moves

/-- The removal of a hold changes circuit records alone. -/
theorem State.removeHold_eq (s : State) (cause : ReleaseCause) (c : Nat) :
    ∃ cs, (s.removeHold cause c).1 = { s with circuits := cs } := by
  unfold State.removeHold
  dsimp only
  split
  · exact ⟨s.circuits, rfl⟩
  · split
    · exact ⟨_, rfl⟩
    · split
      · exact ⟨_, rfl⟩
      · split <;> exact ⟨_, rfl⟩

theorem State.releaseAll_eq (cause : ReleaseCause) (cs : List Nat) (s : State) :
    ∃ cir, (State.releaseAll cause cs s).1 = { s with circuits := cir } := by
  induction cs generalizing s with
  | nil => exact ⟨s.circuits, rfl⟩
  | cons c cs ih =>
    obtain ⟨cir, e⟩ := s.removeHold_eq cause c
    obtain ⟨cir', e'⟩ := ih (s.removeHold cause c).1
    exact ⟨cir', e'.trans (by rw [e])⟩

theorem State.queueSummary_setClosures (s : State) (cs : List Closure) (c : Closure) (early : Bool) :
    State.queueSummary { s with closures := cs } c early = { s.queueSummary c early with closures := cs } := by
  unfold State.queueSummary State.queueReserved State.queueUnreserved
  show (if s.reserved.count .summary = 0 then if s.hasFree then _ else _ else _) = _
  split
  · split <;> rfl
  · rfl

theorem State.removeTag_setClosures (s : State) (cs : List Closure) (n : Nat) :
    State.removeTag { s with closures := cs } n = { s.removeTag n with closures := cs } := by
  unfold State.removeTag
  generalize allLanes = ls
  refine foldl_commute (g := fun u => { u with closures := cs }) (fun _ _ => ?_) ls
    { s with queue := s.queue.map fun e => e.untag n }
  rfl

theorem State.queueSummary_closures (s : State) (c : Closure) (early : Bool) :
    (s.queueSummary c early).closures = s.closures := by
  unfold State.queueSummary State.queueReserved State.queueUnreserved
  split
  · split <;> rfl
  · rfl

theorem State.removeTag_closures (s : State) (n : Nat) : (s.removeTag n).closures = s.closures := by
  unfold State.removeTag
  generalize allLanes = ls
  refine foldl_frame (g := State.closures) (fun _ _ => ?_) ls _
  rfl

/-- An early summary takes the oldest record off the closure list, and does nothing else to the list. -/
theorem State.summariseOldest_cons {s : State} {c : Closure} {rest : List Closure} (h : s.closures = c :: rest) :
    s.summariseOldest = { (s.queueSummary c true).removeTag c.windowId with closures := rest } := by
  rw [State.summariseOldest, h]
  dsimp only
  rw [State.queueSummary_setClosures, State.removeTag_setClosures]

theorem State.relieveClosures_close (s : State) : s.relieveClosures .windowClose = s :=
  if_neg fun h => absurd h.1 nofun

theorem State.closureFor_balanced (s : State) (w : Window) (cause : ReleaseCause) {n : Nat} (h : n ≠ 0) :
    (s.closureFor w cause n).balanced = true :=
  (closureBalanced_iff _).2 ⟨(Nat.zero_add n).symm, Nat.one_le_iff_ne_zero.2 h⟩

namespace Moves

variable {p q : Bool} {s t : State}

/-- A closed window's record finds its place where the list has room, and an expired one's always (R30, R39). -/
theorem addClosure (h : Moves p q s t) (cause : ReleaseCause) (x : Closure) (hx : x.balanced = true)
    (hroom : cause = .windowClose → t.closures.length < Config.closureDepth) :
    Moves p q s { t.relieveClosures cause with closures := (t.relieveClosures cause).closures ++ [x] } := by
  by_cases hr : cause = .windowExpiry ∧ Config.closureDepth ≤ t.closures.length
  · obtain ⟨c, rest, hc⟩ : ∃ c rest, t.closures = c :: rest :=
      List.exists_cons_of_length_pos (lt_of_lt_of_le (by decide) hr.2)
    rw [State.relieveClosures, if_pos hr, State.summariseOldest_cons hc]
    have hq := (h.queueSummary c true).removeTag c.windowId
    have hcl : ((t.queueSummary c true).removeTag c.windowId).closures = c :: rest := by
      rw [State.removeTag_closures, State.queueSummary_closures, hc]
    generalize (t.queueSummary c true).removeTag c.windowId = u at hq hcl ⊢
    refine hq.move (.closures _ (fun hl => ?_) fun hb y hy => ?_)
    · rw [hcl] at hl
      simpa using hl
    · rw [closuresBalanced_iff, hcl] at hb
      rcases List.mem_append.1 hy with hy | hy
      · exact hb y (List.mem_cons_of_mem _ hy)
      · rwa [List.mem_singleton.1 hy]
  · rw [State.relieveClosures, if_neg hr]
    refine h.move (.closures _ (fun hl => ?_) fun hb y hy => ?_)
    · rw [List.length_append, List.length_singleton, Nat.add_one_le_iff]
      cases cause with
      | windowClose => exact hroom rfl
      | windowExpiry => exact Nat.lt_of_not_le fun hle => hr ⟨rfl, hle⟩
    · rcases List.mem_append.1 hy with hy | hy
      · exact (closuresBalanced_iff t).1 hb y hy
      · rwa [List.mem_singleton.1 hy]

theorem endWindow (h : Moves p q s t) (w : Window) (cause : ReleaseCause)
    (hroom : cause = .windowClose → t.closures.length < Config.closureDepth) :
    Moves p q s (t.endWindow w cause).1 := by
  have hrel := releaseAll cause (t.crossingAny w.spans) h
  obtain ⟨cir, hcir⟩ := State.releaseAll_eq cause (t.crossingAny w.spans) t
  unfold State.endWindow
  dsimp only
  split
  · exact hrel.queueSummary ..
  · next hne =>
    exact foldl (fun u c => nil.appendEntry _) _ (hrel.addClosure cause _
      (State.closureFor_balanced _ _ _ (by simpa [List.length_eq_zero_iff] using hne))
      (by rw [hcir]; exact hroom))

end Moves

end Sys2Proof.Machine

/-! ## The requests on windows, and the end of every command, as moves -/

namespace Sys2Proof.Machine

/-- A named top window stands on the stack. -/
theorem State.namedTop_ok {s : State} {id : Nat} {w : Window} {rest : List Window} (h : s.namedTop id = .ok (w, rest)) :
    s.stack = w :: rest ∧ w.id = id := by
  unfold State.namedTop at h
  split at h
  · cases h
  · split at h
    · cases h
    · next w' rest' hs =>
      split at h
      · next hid => cases h; exact ⟨hs, hid⟩
      · cases h

theorem stackFits_tail {w : Window} {ws : List Window} (h : stackFits (w :: ws)) : stackFits ws :=
  ⟨(Nat.le_succ _).trans h.1, fun x hx => h.2 x (List.mem_cons_of_mem _ hx)⟩

theorem stackFits_map {f : Window → Window} (hf : ∀ w, (f w).events = w.events) {ws : List Window} (h : stackFits ws) :
    stackFits (ws.map f) := by
  refine ⟨by rw [List.length_map]; exact h.1, fun x hx => ?_⟩
  obtain ⟨w, hw, rfl⟩ := List.mem_map.1 hx
  rw [hf w]
  exact h.2 w hw

/-- A taken OPEN_WINDOW finds room on the stack and a FREE notice entry (R25). -/
theorem State.openRefusal_eq_none {s : State} {id : Nat} (h : s.openRefusal id = none) :
    s.stack.length < Config.stackDepth ∧ (∀ w ∈ s.stack, w.id ≠ id) ∧ (∀ c ∈ s.closures, c.windowId ≠ id) ∧
      s.hasFree = true := by
  unfold State.openRefusal at h
  split at h
  · cases h
  · next hroom =>
    split at h
    · cases h
    · next hstack =>
      split at h
      · cases h
      · next hclosures =>
        split at h
        · cases h
        · next hfree =>
          refine ⟨Nat.lt_of_not_le hroom, fun w hw e => hstack ?_, fun c hc e => hclosures ?_, by simpa using hfree⟩
          · exact List.any_eq_true.2 ⟨w, hw, beq_iff_eq.2 e⟩
          · exact List.any_eq_true.2 ⟨c, hc, beq_iff_eq.2 e⟩

namespace Moves

variable {p q : Bool} {s t : State}

theorem popWindow (h : Moves p true s t) {w : Window} {rest : List Window} (hs : t.stack = w :: rest) :
    Moves p true s { t with stack := rest } :=
  h.move (.stack _ rfl fun hfit => stackFits_tail (by rwa [hs] at hfit))

theorem tellIfEmptied (h : Moves p q s t) : Moves p q s t.tellIfEmptied := by
  unfold State.tellIfEmptied
  split
  · exact h.stackEmptied
  · exact h

theorem expireTop (n : Nat) (h : Moves p true s t) : Moves p true s (State.expireTop n t) := by
  induction n generalizing t with
  | zero => exact h
  | succ n ih =>
    unfold State.expireTop
    split
    · exact h
    · next w rest hs => exact ih ((h.popWindow hs).endWindow w .windowExpiry nofun)

theorem expireWindows (h : Moves p true s t) : Moves p true s t.expireWindows := by
  unfold State.expireWindows
  split
  · exact (h.expireTop _).tellIfEmptied
  · exact h

theorem openWindow {id : Nat} (hopen : s.openRefusal id = none) (duration : Nat) (spans : List Nat) :
    Moves p true s (s.openWindow id duration spans) := by
  obtain ⟨hroom, -, -, hfree⟩ := State.openRefusal_eq_none hopen
  have hr : Moves p true s (s.reserve .summary) := nil.move (.reserve .summary hfree)
  have hpush : Moves p true s
      { s.reserve .summary with stack := ⟨id, spans, duration, s.clock, [], false⟩ :: (s.reserve .summary).stack } :=
    hr.move (.stack _ rfl fun hfit =>
      ⟨hroom, List.forall_mem_cons.2 ⟨Nat.zero_le _, hfit.2⟩⟩)
  have hhold : ∀ (u : State) (c : Nat), Moves p true u (u.addHold c) := fun _ c => nil.addHold c
  have hall := (foldl hhold (State.crossingAny { s.reserve .summary with
    stack := ⟨id, spans, duration, s.clock, [], false⟩ :: (s.reserve .summary).stack } spans) hpush).windowOpened
  exact hall

theorem handleOpenWindow (hs : s.phase = .running) (tag : U8) (f : OpenFields) :
    Moves p true s (s.handleOpenWindow tag f) := by
  unfold State.handleOpenWindow
  split
  · exact (nil (q := true)).answerRunning hs ..
  · split
    · exact (nil (q := true)).answerRunning hs ..
    · next hopen => exact (openWindow hopen _ _).answerRunning hs ..

theorem handleExtendWindow (hs : s.phase = .running) (tag : U8) (f : ExtendFields) :
    Moves p true s (s.handleExtendWindow tag f) := by
  unfold State.handleExtendWindow
  dsimp only
  split
  · exact (nil (q := true)).answerRunning hs ..
  · split
    · exact (nil (q := true)).answerRunning hs ..
    · refine answerRunning (q := true) hs (nil.move (.stack _ rfl fun hfit => ?_)) ..
      exact stackFits_map (fun w => by split <;> rfl) hfit

theorem handleCloseWindow (hs : s.phase = .running) (tag : U8) (id : U16) :
    Moves p true s (s.handleCloseWindow tag id) := by
  unfold State.handleCloseWindow
  split
  · exact (nil (q := true)).answerRunning hs ..
  · next w rest hnamed =>
    split
    · exact (nil (q := true)).answerRunning hs ..
    · next hroom =>
      have hpop : Moves p true s { s with stack := rest } := popWindow nil (State.namedTop_ok hnamed).1
      exact (hpop.endWindow w .windowClose fun _ => Nat.lt_of_not_le hroom).tellIfEmptied.answerRunning hs ..

theorem handleAbortWindow (hs : s.phase = .running) (tag : U8) (id : U16) :
    Moves p true s (s.handleAbortWindow tag id) := by
  unfold State.handleAbortWindow
  split
  · exact (nil (q := true)).answerRunning hs ..
  · next w rest hnamed =>
    have hpop : Moves p true s { s with stack := rest } := popWindow nil (State.namedTop_ok hnamed).1
    exact ((abortAll (s.crossingAny w.spans) hpop).returnReservation _).tellIfEmptied.answerRunning hs ..

/-! ### The request processor -/

theorem withPayload {α : Type} (hs : s.phase = .running) (tag code : U8) (x : Payload α) {handle : α → State}
    (h : ∀ f, Moves p true s (handle f)) : Moves p true s (s.withPayload tag code x handle) := by
  cases x with
  | short => exact (nil (q := true)).answerRunning hs ..
  | fields f => exact h f

/-- Every request that is handled is a sequence of moves that leaves the working copies of the store alone. -/
theorem handleRequest (hs : s.phase = .running) (tag : U8) (r : Request) : Moves p true s (s.handleRequest tag r) := by
  have hread : ∀ code status body, Moves p true s (s.answer tag code status body) := fun _ _ _ =>
    (nil (q := true)).answerRunning hs ..
  cases r with
  | identify => exact hread ..
  | setTime x =>
    refine withPayload hs _ _ _ fun v => ?_
    have hc : Moves p true s { s with clock := v.toNat } := other nil rfl
    exact hc.answerRunning hs ..
  | restart =>
    have hr : Moves p true s { s with restartTaken := true } := other nil rfl
    exact hr.answerRunning hs ..
  | setProfile x => exact withPayload hs _ _ _ (handleSetProfile hs tag)
  | getProfile => exact hread ..
  | getLanes => exact hread ..
  | recalibrate x => exact withPayload hs _ _ _ (handleRecalibrate hs tag)
  | defineCircuit x => exact withPayload hs _ _ _ (handleDefine hs tag)
  | deleteCircuit x => exact withPayload hs _ _ _ (handleDelete hs tag)
  | clearBaseline x => exact withPayload hs _ _ _ (handleClearBaseline hs tag)
  | getCircuit x => exact withPayload hs _ _ _ (handleGetCircuit hs tag)
  | probeNow x => exact withPayload hs _ _ _ (handleProbeNow hs tag)
  | getQueue => exact hread ..
  | openWindow x => exact withPayload hs _ _ _ (handleOpenWindow hs tag)
  | extendWindow x => exact withPayload hs _ _ _ (handleExtendWindow hs tag)
  | closeWindow x => exact withPayload hs _ _ _ (handleCloseWindow hs tag)
  | abortWindow x => exact withPayload hs _ _ _ (handleAbortWindow hs tag)
  | getWindows => exact hread ..
  | permit =>
    have hp : Moves p true s { s with permit := true } := other nil rfl
    exact hp.answerRunning hs ..
  | withdrawPermit => exact (usePermit (q := true) nil).answerRunning hs ..
  | startCapture x => exact withPayload hs _ _ _ (handleStartCapture hs tag)
  | suspendCapture =>
    show Moves p true s (s.handleSuspend tag)
    unfold State.handleSuspend
    split
    · exact hread ..
    · exact (suspend (q := true) nil).answerRunning hs ..
  | resumeCapture =>
    show Moves p true s (s.handleResume tag)
    unfold State.handleResume
    split
    · exact hread ..
    · exact (resume (q := true) nil).answerRunning hs ..
  | cancelCapture =>
    show Moves p true s (s.handleCancel tag)
    unfold State.handleCancel
    split
    · exact hread ..
    · exact (cancel (q := true) nil).answerRunning hs ..
  | getCapture => exact hread ..
  | setProtection x => exact withPayload hs _ _ _ (handleSetProtection hs tag)
  | getProtection => exact hread ..
  | setSense x => exact withPayload hs _ _ _ (handleSetSense hs tag)
  | clearSense x => exact withPayload hs _ _ _ (handleClearSense hs tag)
  | getSense => exact hread ..
  | unknown code => exact hread ..

theorem pump (n : Nat) (h : Moves p true s t) : Moves p true s (State.pump n t) := by
  induction n generalizing t with
  | zero => exact h
  | succ n ih =>
    unfold State.pump
    split
    · next htakes =>
      split
      · exact h
      · next x rest hq =>
        have hphase : t.phase = .running := by
          simp only [State.takesRequests, Bool.and_eq_true, beq_iff_eq] at htakes
          exact htakes.1.1
        have hrest : Moves p true s { t with requestQueue := rest } :=
          h.move (.requests _ rfl fun hl => by rw [hq] at hl; exact (Nat.le_succ _).trans hl)
        refine ih (arbitrate (hrest.trans ?_))
        refine handleRequest ?_ ..
        exact hphase
    · exact h

theorem transmit (h : Moves p q s t) : Moves p q s t.transmit := by
  unfold State.transmit
  split
  · next hidle =>
    split
    · exact h.move (.transmitter _ (.inl (by rw [hidle.1]; rfl)) rfl)
    · split
      · exact h
      · next n rest hn => exact h.move (.beginNotice n rest _ hidle.1 hn)
  · exact h

theorem settle (h : Moves p true s t) : Moves p true s t.settle := (pump _ h.arbitrate).transmit

theorem offerRequest (h : Moves p true s t) (x : QueuedRequest) : Moves p true s (t.offerRequest x) := by
  unfold State.offerRequest
  split
  · next hroom => exact h.move (.requests _ rfl fun _ => by rw [List.length_append]; exact hroom)
  · split
    · next hroom => exact h.addReply _ hroom
    · exact h

theorem placeWaiting (h : Moves p true s t) : Moves p true s t.placeWaiting := by
  unfold State.placeWaiting
  split
  · next r hr => exact h.placeReply (.inr (by rw [hr]; nofun)) r
  · exact h
  · exact h

theorem endFrame (h : Moves true true s t) : Moves true true s t.endFrame := by
  have hsend : ∀ (u : State) (x : Transmitter), x.sendingCount = 0 → Move true true u { u with transmitter := x } :=
    fun u x hx => .transmitter x (.inr rfl) hx
  unfold State.endFrame
  split
  · exact h
  · next part _ =>
    unfold State.endReplyPart
    split
    · exact h.move (hsend t _ rfl)
    · next r rest hr =>
      split
      · exact h.move (hsend t _ rfl)
      · have hrest : Moves true true s { t with replies := rest } :=
          h.move (.replies _ rfl fun hl => by rw [hr] at hl; exact (Nat.le_succ _).trans hl)
        have hidle : Moves true true s { t with replies := rest, transmitter := .idle } := hrest.move (hsend _ _ rfl)
        refine placeWaiting ?_
        exact hidle.other rfl
  · exact (h.move (hsend t _ rfl)).lookAtWaiting

/-! ### The due steps -/

theorem judge (h : Moves p true s t) : Moves p true s t.judge := by
  unfold State.judge
  split
  · exact h
  · have hc : Moves p true s { t with completeFrame := none } := h.other rfl
    dsimp only
    split
    · exact (hc.offerRequest _).settle
    · exact hc

theorem expire (h : Moves p true s t) : Moves p true s t.expire := by
  unfold State.expire
  split
  · exact h.expireWindows.settle
  · exact h

theorem calibrate (h : Moves p true s t) (l : LaneId) : Moves p true s (t.calibrate l) := by
  unfold State.calibrate
  split
  · exact (h.startRunIfDue l).settle
  · exact h

/-- The due steps of a part on which no RESTART is due. -/
theorem takeDue (hr : s.restartDue = false) : Moves p true s s.takeDue := by
  have hcal : ∀ (u : State) (l : LaneId), Moves p true u (u.calibrate l) := fun _ l => nil.calibrate l
  unfold State.takeDue
  rw [if_neg (by simp [hr])]
  split
  · exact foldl hcal _ nil.judge.expire
  · exact nil

/-! ### The events -/

theorem tick (h : Moves p true s t) : Moves p true s t.tick := by
  have hage : ∀ (u : State) (l : LaneId), Moves p true u (u.modifyLane l fun r => { r with age := min Config.maxAge (r.age + 1) }) :=
    fun _ l => nil.modifyLane l _ Lane.age_sound
  have hclock : Moves p true s { t with clock := (t.clock + 1) % Config.clockModulus } := h.other rfl
  have hstack : Moves p true s { t with
      clock := (t.clock + 1) % Config.clockModulus
      stack := t.stack.map fun w => { w with remaining := w.remaining - 1 } } :=
    hclock.move (.stack _ rfl (stackFits_map (f := fun w => { w with remaining := w.remaining - 1 }) fun _ => rfl))
  unfold State.tick
  exact foldl hage _ hstack

theorem takeResult (h : Moves p q s t) (l : LaneId) (b : HandedBurst) : Moves p q s (t.takeResult l b) := by
  unfold State.takeResult
  dsimp only
  split
  · split
    · exact h.takeAttempt ..
    · exact h
  · split
    · exact h.takeCaptureBurst ..
    · exact h
  · exact h.modifyLane l _ fun hr => Lane.closeRun_sound hr (judgeReference_fits b)
  · exact h
  · exact h

theorem reduceHanded (h : Moves p q s t) (l : LaneId) : Moves p q s (t.reduceHanded l) := by
  unfold State.reduceHanded
  split
  · exact h
  · exact (h.modifyLane l (fun r => { r with handed := none }) id).takeResult ..

theorem tuneTimeout (h : Moves p q s t) (l : LaneId) : Moves p q s (t.tuneTimeout l) := by
  unfold State.tuneTimeout
  dsimp only
  split
  · exact h.laneError ..
  · split
    · exact h.move (.lane l _ fun hr => Lane.closeRun_sound hr nofun)
    · exact h
  all_goals exact h

theorem burstGapTimeout (h : Moves p q s t) (l : LaneId) : Moves p q s (t.burstGapTimeout l) := by
  unfold State.burstGapTimeout
  dsimp only
  split
  · exact h.laneError ..
  · split
    · exact h.move (.lane l _ fun hr => Lane.closeRun_sound hr nofun)
    · exact h
  all_goals exact h

theorem parkEnd (h : Moves p q s t) (l : LaneId) : Moves p q s (t.parkEnd l) := by
  unfold State.parkEnd
  dsimp only
  split
  · exact ((h.move (.lane l _ Lane.endPark_sound)).reportFault l).laneSettled l
  · split
    · next result _ hres =>
      exact ((h.move (.lane l _ fun hr => Lane.endRun_sound hr hres)).reportFault l).laneSettled l
    · exact h
  all_goals exact h

/-! ### The conclusion of commits -/

/-- What a concluded commit does to the request that waits for it; its success puts its outcome in force. -/
theorem continueDefine {tag : U8} {id : Nat} {d : Definition} {kind : DefineKind} {clamped second success : Bool}
    (hs : s.processor = .committing tag (.define id d kind clamped second)) (hp : success = true → p = true) :
    Moves p true s (s.continueDefine tag id d kind clamped second success) := by
  have hwait : s.processor ≠ .free := by rw [hs]; nofun
  unfold State.continueDefine
  split
  · refine handCommit (Moves.move nil (.processor _ rfl fun hj => ?_)) ..
    rw [State.jobChecked_iff] at hj ⊢
    refine ⟨fun tag' id' d' kind' clamped' second' e => ?_, .inl (hj.2.resolve_right hwait)⟩
    cases (Processor.committing.inj e).2
    exact hj.1 _ _ _ _ _ _ hs
  · have hspend : Moves p false s (s.spendIf (kind == .discarding)) := nil.spendIf _
    dsimp only
    split
    · next hsuccess =>
      have hput : Moves p false s ((s.spendIf (kind == .discarding)).putDefinition id d kind) := by
        exact hspend.move (.definition id d kind (hp hsuccess) ⟨_, _, _, hspend.processor_eq.trans hs⟩)
      split <;> exact (hput.endChange id).answerWaiting hwait ..
    · exact (hspend.endChange id).answerWaiting hwait ..

theorem continueDelete {tag : U8} {id : Nat} {usesPermit second success : Bool} (hwait : s.processor ≠ .free)
    (hp : success = true → p = true) : Moves p true s (s.continueDelete tag id usesPermit second success) := by
  unfold State.continueDelete
  split
  · exact handCommit (Moves.move nil (.processor _ rfl
      (State.jobChecked_setProcessor (fun _ _ _ _ _ _ => by simp) (.inr (.inr hwait))))) ..
  · have hspend : Moves p false s (s.spendIf usesPermit) := nil.spendIf _
    dsimp only
    split
    · next hsuccess => exact ((hspend.move (.emptySlot id (hp hsuccess))).endChange id).answerWaiting hwait ..
    · exact (hspend.endChange id).answerWaiting hwait ..

theorem continueClear {tag : U8} {id : Nat} {success : Bool} (hwait : s.processor ≠ .free)
    (hp : success = true → p = true) : Moves p true s (s.continueClear tag id success) := by
  have hspend : Moves p false s s.usePermit := nil.usePermit
  unfold State.continueClear
  dsimp only
  split
  · next hsuccess => exact ((hspend.move (.baseline id none (hp hsuccess))).endChange id).answerWaiting hwait ..
  · exact (hspend.endChange id).answerWaiting hwait ..

theorem finishProtect {tag : U8} {x : ProtectionRecord} {session success : Bool} (hwait : s.processor ≠ .free)
    (hp : success = true → p = true) : Moves p true s (s.finishProtect tag x session success) := by
  have hspend : Moves p false s (State.usePermit { s with regionBeingWritten := none }) := usePermit (other nil rfl)
  unfold State.finishProtect
  dsimp only
  split
  · next hsuccess => exact (hspend.move (.protection _ _ session (hp hsuccess))).answerWaiting hwait ..
  · exact hspend.answerWaiting hwait ..

theorem continueJob {success : Bool} (hp : success = true → p = true) : Moves p true s (s.continueJob success) := by
  unfold State.continueJob
  split
  · exact nil
  · exact nil
  · next tag job hs =>
    have hwait : s.processor ≠ .free := by rw [hs]; nofun
    cases job with
    | define id d kind clamped second => exact continueDefine hs hp
    | delete id usesPermit second => exact continueDelete hwait hp
    | clearBaseline id => exact continueClear hwait hp
    | protect x session => exact finishProtect hwait hp

theorem concludeCommit (h : Moves p true s t) {success : Bool} (hp : success = true → p = true) :
    Moves p true s (t.concludeCommit success) := by
  unfold State.concludeCommit
  split
  · exact h.other rfl
  · next c rest hc =>
    have hrest : Moves p true s { t with commits := rest, writing := none } := h.other rfl
    refine beginCommit ?_
    unfold State.report
    split
    · exact hrest.trans (continueJob hp)
    · exact hrest.concludeCapture _ _ hp
    · exact hrest

theorem endWrite (h : Moves p true s t) {agrees erased : Bool} (hp : agrees = true → p = true) :
    Moves p true s (t.endWrite agrees erased) := by
  unfold State.endWrite
  split
  · split
    · split
      · next ha => exact (h.move (.slot _)).concludeCommit fun _ => hp ha
      · exact h.other rfl
    · split
      · next ha => exact (h.move (.slot _)).concludeCommit fun _ => hp ha
      · exact h.other rfl
    · split
      · exact (h.move (.slot _)).concludeCommit nofun
      · exact h.other rfl
    · exact (h.move (.slot _)).concludeCommit nofun
  · exact h

end Moves

end Sys2Proof.Machine

/-! ## A step as moves, restarts and the scan -/

namespace Sys2Proof.Machine

/-- A stage of a step: a move, a restart, a change of the phase, or the scan of the store. -/
inductive Stage : State → State → Prop
  | move {s t : State} (m : Move true true s t) : Stage s t
  | restart {s : State} (phase : Phase) (cause : RestartCause) (h : phase ≠ .running) : Stage s (s.restarted phase cause)
  | phase {s : State} (x : Phase) (h : x = .running ∨ s.phase ≠ .running) : Stage s { s with phase := x }
  | scan {s : State} (h : s.phase ≠ .running) : Stage s s.scanStore

/-- A sequence of stages. -/
def Stages : State → State → Prop := Relation.ReflTransGen Stage

namespace Stages

variable {s t u : State}

theorem nil : Stages s s := Relation.ReflTransGen.refl

theorem next (h : Stages s t) (m : Stage t u) : Stages s u := Relation.ReflTransGen.tail h m

theorem trans (h : Stages s t) (h' : Stages t u) : Stages s u := Relation.ReflTransGen.trans h h'

theorem moves (h : Stages s t) (h' : Moves true true t u) : Stages s u := by
  induction h' with
  | refl => exact h
  | tail _ m ih => exact ih.next (.move m)

theorem keeps {P : State → Prop} (hP : ∀ {s t}, Stage s t → P s → P t) (h : Stages s t) (hs : P s) : P t := by
  induction h with
  | refl => exact hs
  | tail _ m ih => exact hP m ih

end Stages

/-! ### Commands that neither restart the part nor end its scan -/

/-- The commands of power, RESET and start-up. -/
def isPartCommand : Instr → Bool
  | .powerOn | .powerFail _ | .resetAsserted _ | .resetReleased | .startUpScanDone | .restartBegins => true
  | _ => false

/-- A request that arrives is offered to the request queue. -/
theorem exec_of_asRequest {cmd : Instr} {x : QueuedRequest} (h : asRequest cmd = some x) (s : State) :
    exec cmd s = .next (s.whenAlive fun u => u.offerRequest x) := by
  cases cmd <;> cases h <;> rfl

section

variable {p : Bool} {s t : State} {cmd : Instr}

theorem Moves.whenAlive_takeDue (s : State) {effect : State → State} (he : ∀ u, Moves p true u (effect u)) :
    Moves p true s.takeDue (s.whenAlive effect) := by
  unfold State.whenAlive
  dsimp only
  split
  · exact (he _).settle
  · exact .nil

/-- A command other than those of power, RESET and start-up is a sequence of moves, taken after the due steps or without
them; only an agreeing STORE_WRITE_DONE puts an outcome of a commit in force, and only FRAME_SENT ends a notice. -/
theorem exec_moves_takeDue (hcmd : isPartCommand cmd = false)
    (hp : ∀ erased, cmd = .storeWriteDone true erased → p = true) (hsent : cmd = .frameSent → p = true) (h : exec cmd s = .next t) :
    Moves p true s.takeDue t ∨ Moves p true s t := by
  have halive : ∀ {effect : State → State}, (∀ u, Moves p true u (effect u)) →
      (.next (s.whenAlive effect) : Host.Outcome State Fault Refusal) = .next t →
      Moves p true s.takeDue t ∨ Moves p true s t :=
    fun he e => .inl (Host.Outcome.next.inj e ▸ Moves.whenAlive_takeDue s he)
  cases hq : asRequest cmd with
  | some x =>
    rw [exec_of_asRequest hq] at h
    exact halive (fun _ => Moves.nil.offerRequest x) h
  | none =>
    cases cmd with
    | frameReceived =>
      refine .inr (Host.Outcome.next.inj h ▸ ?_)
      split
      · exact Moves.nil.judge
      · exact .nil
    | framingError => exact halive (effect := fun u => { u with receiver := .hunting }) (fun _ => .other .nil rfl) h
    | receiveGapTimeout => exact halive (effect := fun u => { u with receiver := .hunting }) (fun _ => .other .nil rfl) h
    | frameSent =>
      obtain rfl := hsent rfl
      exact halive (fun _ => Moves.nil.endFrame) h
    | secondsTick => exact halive (fun _ => Moves.nil.tick) h
    | windowExpiry =>
      refine .inr (Host.Outcome.next.inj h ▸ ?_)
      split
      · exact Moves.nil.expire
      · exact .nil
    | calibrationDue lane => exact .inr (Host.Outcome.next.inj h ▸ Moves.nil.calibrate lane)
    | settled lane =>
      exact halive (effect := fun u => u.modifyLane lane Lane.settle)
        (fun _ => Moves.nil.modifyLane lane _ Lane.settle_sound) h
    | sample lane x =>
      exact halive (effect := fun u => u.modifyLane lane fun r => r.takeSample u.profile.floor x)
        (fun _ => Moves.nil.modifyLane lane _ fun hl => Lane.takeSample_sound hl _ x) h
    | burstResult lane => exact halive (fun _ => Moves.nil.reduceHanded lane) h
    | tuneTimeout lane => exact halive (fun _ => Moves.nil.tuneTimeout lane) h
    | burstGapTimeout lane => exact halive (fun _ => Moves.nil.burstGapTimeout lane) h
    | parkEnd lane => exact halive (fun _ => Moves.nil.parkEnd lane) h
    | senseInputTransition line high =>
      refine .inl (Host.Outcome.next.inj h ▸ ?_)
      generalize s.takeDue = u
      split
      · exact Moves.nil.move (.line line _ id)
      · exact (Moves.nil.senseInput line high).settle
    | refLockChange asserted =>
      refine .inl (Host.Outcome.next.inj h ▸ ?_)
      generalize s.takeDue = u
      exact .other .nil rfl
    | storeWriteDone agrees erased =>
      exact halive (fun _ => Moves.nil.endWrite fun ha => hp erased (by rw [ha])) h
    | byteReceived byte => exact halive (effect := fun u => u.receiveByte byte) (fun _ => .other .nil rfl) h
    | rateStrapChange high =>
      refine .inl (Host.Outcome.next.inj h ▸ ?_)
      generalize s.takeDue = u
      exact .other .nil rfl
    | powerOn => cases hcmd
    | powerFail erased => cases hcmd
    | resetAsserted erased => cases hcmd
    | resetReleased => cases hcmd
    | startUpScanDone => cases hcmd
    | restartBegins => cases hcmd
    | _ => cases hq

theorem exec_moves (hr : s.restartDue = false) (hcmd : isPartCommand cmd = false)
    (hp : ∀ erased, cmd = .storeWriteDone true erased → p = true) (hsent : cmd = .frameSent → p = true)
    (h : exec cmd s = .next t) : Moves p true s t :=
  (exec_moves_takeDue hcmd hp hsent h).elim (Moves.takeDue hr).trans id

/-! ### Every command -/

theorem stages_takeDue (s : State) : Stages s s.takeDue := by
  by_cases hr : s.restartDue = true
  · unfold State.takeDue State.beginRestart
    rw [if_pos hr, if_pos hr]
    exact Stages.nil.next (.restart .scanning .request nofun)
  · exact Stages.nil.moves (Moves.takeDue (Bool.eq_false_iff.2 hr))

theorem Moves.cutWrite {p q : Bool} (h : Moves p q s t) (erased : Bool) : Moves p q s (t.cutWrite erased) := by
  unfold State.cutWrite
  split
  · exact h
  · split
    · exact h.move (.slot _)
    · exact h

theorem stages_endScan (h : s.phase = .scanning) : Stages s s.endScan := by
  have hscan : Stages s s.scanStore := Stages.nil.next (.scan (by rw [h]; nofun))
  have hann : Stages s s.announce := hscan.moves (Moves.nil.queueUnreserved _).transmit
  have hrun : Stages s { s.announce with phase := .running } := hann.next (.phase .running (.inl rfl))
  unfold State.endScan
  exact hrun.moves (Moves.nil.startRuns _).settle

theorem stages_exec (h : exec cmd s = .next t) : Stages s t := by
  by_cases hcmd : isPartCommand cmd = true
  · cases cmd with
    | powerOn =>
      cases h
      exact Stages.nil.next (.restart _ .cold (by split <;> nofun))
    | powerFail erased =>
      cases h
      exact (Stages.nil.moves (Moves.nil.cutWrite erased)).next (.restart .off .cold nofun)
    | resetAsserted erased =>
      cases h
      split
      · exact .nil
      · split
        · exact Stages.nil.moves (Moves.nil.other rfl)
        · have hcut := (Stages.nil.moves (Moves.nil.cutWrite (s := s) erased)).next (.restart .held .line nofun)
          exact hcut.moves (Moves.nil.other rfl)
    | resetReleased =>
      cases h
      split
      · next hheld =>
        have hphase : Stages s { s with phase := .scanning } :=
          Stages.nil.next (.phase .scanning (.inr (by rw [hheld]; nofun)))
        exact hphase.moves (Moves.nil.other rfl)
      · exact Stages.nil.moves (Moves.nil.other rfl)
    | startUpScanDone =>
      cases h
      split
      · next hscan =>
        have hdue := Moves.takeDue (p := true) (s := s) (by simp [State.restartDue, hscan])
        exact (stages_takeDue s).trans (stages_endScan (hdue.phase_eq.trans hscan))
      · exact .nil
    | restartBegins =>
      cases h
      unfold State.beginRestart
      split
      · exact Stages.nil.next (.restart .scanning .request nofun)
      · exact .nil
    | _ => cases hcmd
  · obtain h | h := exec_moves_takeDue (p := true) (Bool.eq_false_iff.2 hcmd) (fun _ _ => rfl) (fun _ => rfl) h
    · exact (stages_takeDue s).moves h
    · exact Stages.nil.moves h

/-- A step takes a command off the queue of pending commands and runs it in stages. -/
theorem stages_step (h : step s = .next t) : Stages s t := by
  unfold step at h
  split at h
  · cases h
    exact .nil
  · next c rest _ =>
    have hpop : Moves true true s { s with pending := rest } := .other .nil rfl
    exact (Stages.nil.moves hpop).trans (stages_exec h)

/-- What every stage keeps, every step keeps. -/
theorem step_keeps {P : State → Prop} (hP : ∀ {s t}, Stage s t → P s → P t) (h : step s = .next t) (hs : P s) : P t :=
  (stages_step h).keeps hP hs

end

end Sys2Proof.Machine

/-! ## The invariants of single parts, kept by every stage -/

namespace Sys2Proof.Machine

section

variable {s t : State}

/-- The scan sets the circuit table, the indexes, the region and the stored level. -/
theorem State.scanSlot_eq (s : State) (ids : List Nat) (c : Nat) :
    ∃ cs cm si, s.scanSlot ids c = { s with circuits := cs, codeMap := cm, spanIndex := si } := by
  unfold State.scanSlot
  dsimp only
  split
  · exact ⟨_, _, _, rfl⟩
  · exact ⟨_, s.codeMap, s.spanIndex, rfl⟩

theorem State.scanProtection_eq (s : State) :
    ∃ r lv, s.scanProtection = { s with region := r, storedLevel := lv } := by
  unfold State.scanProtection
  split <;> exact ⟨_, _, rfl⟩

theorem State.scanStore_eq (s : State) :
    ∃ cs cm si r lv, s.scanStore =
      { s with circuits := cs, codeMap := cm, spanIndex := si, region := r, storedLevel := lv } := by
  have hfold : ∀ (ids cs' : List Nat) (u : State), ∃ cs cm si,
      cs'.foldl (fun s c => s.scanSlot ids c) u = { u with circuits := cs, codeMap := cm, spanIndex := si } := by
    intro ids cs'
    induction cs' with
    | nil => exact fun u => ⟨u.circuits, u.codeMap, u.spanIndex, rfl⟩
    | cons c cs' ih =>
      intro u
      obtain ⟨_, _, _, e⟩ := u.scanSlot_eq ids c
      obtain ⟨cs, cm, si, e'⟩ := ih (u.scanSlot ids c)
      exact ⟨cs, cm, si, by rw [List.foldl_cons, e', e]⟩
  obtain ⟨r, lv, e⟩ := s.scanProtection_eq
  obtain ⟨cs, cm, si, e'⟩ := hfold (s.defSlots.map (·.1)) (s.defSlots.map (·.1))
    { s.scanProtection with circuits := [], codeMap := [], spanIndex := [] }
  exact ⟨cs, cm, si, r, lv, by unfold State.scanStore; dsimp only; rw [e', e]⟩

/-! ### The notice queue (O54) -/

theorem Move.noticesFit {p q : Bool} (m : Move p q s t) (h : s.occupied ≤ Config.noticeEntries) :
    t.occupied ≤ Config.noticeEntries := by
  cases m with
  | other e =>
    have he : t.occupied = s.occupied :=
      congrArg (fun k : Tracked => k.reserved.total + k.notices.length + k.transmitter.sendingCount) e
    rwa [he]
  | reserve k hfree =>
    rw [State.occupied_reserve]
    simpa [State.hasFree] using hfree
  | unreserve k =>
    have := ReservedCounts.total_withCount s.reserved k (s.reserved.count k - 1)
    simp only [State.occupied] at *
    omega
  | queueUnreserved n => exact s.occupied_queueUnreserved n h
  | queueReserved k n => exact s.occupied_queueReserved k n h
  | beginNotice n rest mark hi hn =>
    simp only [State.occupied, hi, hn, List.length_cons, Transmitter.sendingCount] at *
    omega
  | transmitter x hx =>
    simp only [State.occupied, hx] at *
    omega
  | slot x => cases x <;> exact h
  | definition id d kind _ _ => obtain ⟨_, _, _, e⟩ := s.putDefinition_eq id d kind; rw [e]; exact h
  | emptySlot id _ => obtain ⟨_, _, _, e⟩ := s.emptySlot_eq id; rw [e]; exact h
  | _ => exact h

theorem Stage.noticesFit (m : Stage s t) (h : s.occupied ≤ Config.noticeEntries) : t.occupied ≤ Config.noticeEntries := by
  cases m with
  | move m => exact m.noticesFit h
  | restart phase cause _ => exact Nat.zero_le _
  | phase x _ => exact h
  | scan _ => obtain ⟨_, _, _, _, _, e⟩ := s.scanStore_eq; rw [e]; exact h

/-! ### The closure records (O55) -/

theorem State.queueUnreserved_closures (s : State) (n : Notice) : (s.queueUnreserved n).closures = s.closures := by
  rcases s.queueUnreserved_cases n with ⟨-, e⟩ | ⟨-, e⟩ <;> rw [e]

theorem State.queueReserved_closures (s : State) (k : ReservedKind) (n : Notice) :
    (s.queueReserved k n).closures = s.closures := by
  unfold State.queueReserved
  split
  · exact s.queueUnreserved_closures n
  · rfl

/-- A move keeps the closure list or sets it to one that keeps the capacity and the balance. -/
theorem Move.closures_cases {p q : Bool} (m : Move p q s t) :
    t.closures = s.closures ∨
      ((s.closures.length ≤ Config.closureDepth → t.closures.length ≤ Config.closureDepth) ∧
        (s.closuresBalanced = true → ∀ c ∈ t.closures, c.balanced = true)) := by
  cases m with
  | other e => exact .inl (congrArg Tracked.closures e)
  | queueUnreserved n => exact .inl (s.queueUnreserved_closures n)
  | queueReserved k n => exact .inl (s.queueReserved_closures k n)
  | closures cs hl hb => exact .inr ⟨hl, hb⟩
  | slot x => cases x <;> exact .inl rfl
  | definition id d kind _ _ => obtain ⟨_, _, _, e⟩ := s.putDefinition_eq id d kind; rw [e]; exact .inl rfl
  | emptySlot id _ => obtain ⟨_, _, _, e⟩ := s.emptySlot_eq id; rw [e]; exact .inl rfl
  | _ => exact .inl rfl

theorem Stage.closuresBalanced (m : Stage s t) (h : s.closuresBalanced = true) : t.closuresBalanced = true := by
  cases m with
  | move m =>
    rw [closuresBalanced_iff] at *
    obtain e | ⟨-, hb⟩ := m.closures_cases
    · rwa [e]
    · exact hb ((closuresBalanced_iff s).2 h)
  | restart phase cause _ => rfl
  | phase x _ => exact h
  | scan _ => obtain ⟨_, _, _, _, _, e⟩ := s.scanStore_eq; rw [e]; exact h

/-! ### The lanes (O56) -/

theorem lanesSound_iff (s : State) : s.lanesSound = true ↔ ∀ l, (s.lane l).sound = true := by
  simp [State.lanesSound, allLanes]

theorem State.queueUnreserved_lanes (s : State) (n : Notice) : (s.queueUnreserved n).lanes = s.lanes := by
  rcases s.queueUnreserved_cases n with ⟨-, e⟩ | ⟨-, e⟩ <;> rw [e]

theorem State.queueReserved_lanes (s : State) (k : ReservedKind) (n : Notice) :
    (s.queueReserved k n).lanes = s.lanes := by
  unfold State.queueReserved
  split
  · exact s.queueUnreserved_lanes n
  · rfl

theorem State.lane_congr (h : t.lanes = s.lanes) (l : LaneId) : t.lane l = s.lane l := by
  rw [State.lane, h]
  rfl

theorem Move.lanesSound {p q : Bool} (m : Move p q s t) (h : ∀ l, (s.lane l).sound = true) (l : LaneId) :
    (t.lane l).sound = true := by
  cases m with
  | other e => rw [State.lane_congr (congrArg Tracked.lanes e)]; exact h l
  | lane l' r hr =>
    by_cases hl : l = l'
    · subst hl
      rw [State.lane_setLane_self]
      exact hr (h l)
    · rw [State.lane_setLane_other s hl]
      exact h l
  | queueUnreserved n => rw [State.lane_congr (s.queueUnreserved_lanes n)]; exact h l
  | queueReserved k n => rw [State.lane_congr (s.queueReserved_lanes k n)]; exact h l
  | slot x => cases x <;> exact h l
  | definition id d kind _ _ => obtain ⟨_, _, _, e⟩ := s.putDefinition_eq id d kind; rw [e]; exact h l
  | emptySlot id _ => obtain ⟨_, _, _, e⟩ := s.emptySlot_eq id; rw [e]; exact h l
  | _ => exact h l

/-- Every lane is anew after a restart (R92). -/
theorem State.restarted_lane (s : State) (phase : Phase) (cause : RestartCause) (l : LaneId) :
    (s.restarted phase cause).lane l = {} := by
  simp [State.restarted, State.lane, State.reset]

theorem Stage.lanesSound (m : Stage s t) (h : ∀ l, (s.lane l).sound = true) (l : LaneId) :
    (t.lane l).sound = true := by
  cases m with
  | move m => exact m.lanesSound h l
  | restart phase cause _ => rw [State.restarted_lane]; rfl
  | phase x _ => exact h l
  | scan _ => obtain ⟨_, _, _, _, _, e⟩ := s.scanStore_eq; rw [e]; exact h l

end

end Sys2Proof.Machine

namespace Sys2Proof.Proofs

open Sys2Proof.Machine

/-- Settles O55: every stage of a step keeps the balance. -/
theorem closuresBalancedKept : Obligations.ClosuresBalancedKept :=
  fun _ _ hs h => step_keeps (P := fun u => u.closuresBalanced = true) Stage.closuresBalanced h hs

/-- Settles O56: every stage of a step keeps each lane sound. -/
theorem lanesSoundKept : Obligations.LanesSoundKept := fun s t hs h =>
  (lanesSound_iff t).2 (step_keeps (P := fun u => ∀ l, (u.lane l).sound = true) Stage.lanesSound h ((lanesSound_iff s).1 hs))

end Sys2Proof.Proofs

/-! ## The lists, the lines and the tables (O57) -/

namespace Sys2Proof.Machine

section

variable {s t : State}

/-! ### Lists -/

/-- The parts of `State.listsFit`. -/
theorem listsFit_iff (s : State) :
    s.listsFit = true ↔ stackFits s.stack ∧ s.closures.length ≤ Config.closureDepth ∧
      s.requestQueue.length ≤ Config.requestEntries ∧ s.replies.length ≤ Config.replyEntries := by
  simp only [State.listsFit, stackFits, Bool.and_eq_true, decide_eq_true_eq, List.all_eq_true]
  tauto

theorem State.queueUnreserved_lists (s : State) (n : Notice) :
    (s.queueUnreserved n).stack = s.stack ∧ (s.queueUnreserved n).requestQueue = s.requestQueue ∧
      (s.queueUnreserved n).replies = s.replies ∧ (s.queueUnreserved n).senseLines = s.senseLines := by
  rcases s.queueUnreserved_cases n with ⟨-, e⟩ | ⟨-, e⟩ <;> rw [e] <;> exact ⟨rfl, rfl, rfl, rfl⟩

theorem State.queueReserved_lists (s : State) (k : ReservedKind) (n : Notice) :
    (s.queueReserved k n).stack = s.stack ∧ (s.queueReserved k n).requestQueue = s.requestQueue ∧
      (s.queueReserved k n).replies = s.replies ∧ (s.queueReserved k n).senseLines = s.senseLines := by
  unfold State.queueReserved
  split
  · exact s.queueUnreserved_lists n
  · exact ⟨rfl, rfl, rfl, rfl⟩

/-- A move without `talk` keeps the stack and the request queue. -/
theorem Move.lists_eq {p : Bool} {s t : State} (m : Move p false s t) :
    t.stack = s.stack ∧ t.requestQueue = s.requestQueue := by
  cases m with
  | other h => exact ⟨congrArg Tracked.stack h, congrArg Tracked.requestQueue h⟩
  | queueUnreserved n => exact ⟨(s.queueUnreserved_lists n).1, (s.queueUnreserved_lists n).2.1⟩
  | queueReserved k n => exact ⟨(s.queueReserved_lists k n).1, (s.queueReserved_lists k n).2.1⟩
  | slot x => cases x <;> exact ⟨rfl, rfl⟩
  | definition id d kind _ _ => obtain ⟨_, _, _, e⟩ := s.putDefinition_eq id d kind; rw [e]; exact ⟨rfl, rfl⟩
  | emptySlot id _ => obtain ⟨_, _, _, e⟩ := s.emptySlot_eq id; rw [e]; exact ⟨rfl, rfl⟩
  | stack _ hk _ => cases hk
  | requests _ hk _ => cases hk
  | _ => exact ⟨rfl, rfl⟩

theorem Moves.lists_eq {p : Bool} {s t : State} (h : Moves p false s t) :
    t.stack = s.stack ∧ t.requestQueue = s.requestQueue :=
  h.keeps (P := fun u => u.stack = s.stack ∧ u.requestQueue = s.requestQueue)
    (fun m hu => ⟨m.lists_eq.1.trans hu.1, m.lists_eq.2.trans hu.2⟩) ⟨rfl, rfl⟩

/-- The stack, the request queue and the reply list keep their capacities. -/
def State.queuesFit (s : State) : Prop :=
  stackFits s.stack ∧ s.requestQueue.length ≤ Config.requestEntries ∧ s.replies.length ≤ Config.replyEntries

theorem State.queuesFit_congr (h : s.queuesFit) (hs : t.stack = s.stack) (hq : t.requestQueue = s.requestQueue)
    (hr : t.replies = s.replies) : t.queuesFit := by
  rw [State.queuesFit, hs, hq, hr]
  exact h

theorem Move.queuesFit {p q : Bool} (m : Move p q s t) (h : s.queuesFit) : t.queuesFit := by
  obtain ⟨hs, hq, hr⟩ := id h
  cases m with
  | other e =>
    exact State.queuesFit_congr h (congrArg Tracked.stack e) (congrArg Tracked.requestQueue e) (congrArg Tracked.replies e)
  | queueUnreserved n =>
    obtain ⟨es, eq, er, -⟩ := s.queueUnreserved_lists n
    exact State.queuesFit_congr h es eq er
  | queueReserved k n =>
    obtain ⟨es, eq, er, -⟩ := s.queueReserved_lists k n
    exact State.queuesFit_congr h es eq er
  | requests qs _ hqs => exact ⟨hs, hqs hq, hr⟩
  | replies rs _ hrs => exact ⟨hs, hq, hrs hr⟩
  | stack ws _ hws => exact ⟨hws hs, hq, hr⟩
  | slot x => cases x <;> exact h
  | definition id d kind _ _ => obtain ⟨_, _, _, e⟩ := s.putDefinition_eq id d kind; rw [e]; exact h
  | emptySlot id _ => obtain ⟨_, _, _, e⟩ := s.emptySlot_eq id; rw [e]; exact h
  | _ => exact h

theorem Stage.listsFit (m : Stage s t) (h : s.listsFit = true) : t.listsFit = true := by
  rw [listsFit_iff] at *
  obtain ⟨hs, hc, hq, hr⟩ := h
  cases m with
  | move m =>
    obtain ⟨hs', hq', hr'⟩ := m.queuesFit ⟨hs, hq, hr⟩
    refine ⟨hs', ?_, hq', hr'⟩
    obtain e | ⟨hl, -⟩ := m.closures_cases
    · rwa [e]
    · exact hl hc
  | restart phase cause _ => exact ⟨⟨Nat.zero_le _, nofun⟩, Nat.zero_le _, Nat.zero_le _, Nat.zero_le _⟩
  | phase x _ => exact ⟨hs, hc, hq, hr⟩
  | scan _ => obtain ⟨_, _, _, _, _, e⟩ := s.scanStore_eq; rw [e]; exact ⟨hs, hc, hq, hr⟩

/-! ### Lines -/

theorem linesMasked_iff (s : State) : s.linesMasked = true ↔ ∀ l, (s.line l).formed := by
  simp [State.linesMasked, allLines, SenseLine.formed]

theorem State.line_congr (h : t.senseLines = s.senseLines) (l : LineId) : t.line l = s.line l := by
  rw [State.line, h]
  rfl

theorem Move.linesFormed {p q : Bool} (m : Move p q s t) (h : ∀ l, (s.line l).formed) (l : LineId) : (t.line l).formed := by
  cases m with
  | other e => rw [State.line_congr (congrArg Tracked.senseLines e)]; exact h l
  | line l' r hr =>
    by_cases hl : l = l'
    · subst hl
      rw [State.line_setLine_self]
      exact hr (h l)
    · rw [State.line_setLine_other s hl]
      exact h l
  | queueUnreserved n => rw [State.line_congr (s.queueUnreserved_lists n).2.2.2]; exact h l
  | queueReserved k n => rw [State.line_congr (s.queueReserved_lists k n).2.2.2]; exact h l
  | slot x => cases x <;> exact h l
  | definition id d kind _ _ => obtain ⟨_, _, _, e⟩ := s.putDefinition_eq id d kind; rw [e]; exact h l
  | emptySlot id _ => obtain ⟨_, _, _, e⟩ := s.emptySlot_eq id; rw [e]; exact h l
  | _ => exact h l

/-- Every line is anew after a restart, but for the level of its input (R163). -/
theorem State.restarted_line (s : State) (phase : Phase) (cause : RestartCause) (l : LineId) :
    (s.restarted phase cause).line l = { input := (s.line l).input } := by
  have hset : ∀ (ls : List LineId) (v : Vector SenseLine 16), l ∈ ls ∨ v[l] = { input := (s.line l).input } →
      (ls.foldl (fun v (l : LineId) => v.set l { input := (s.line l).input }) v)[l] = { input := (s.line l).input } := by
    intro ls
    induction ls with
    | nil => exact fun v h => h.resolve_left List.not_mem_nil
    | cons l' ls ih =>
      intro v h
      refine ih _ ?_
      by_cases hl : l = l'
      · right; subst hl; simp
      · have hne : l'.val ≠ l.val := fun e => hl (Fin.ext e.symm)
        rcases h with h | h
        · exact .inl ((List.mem_cons.1 h).resolve_left hl)
        · right; simpa [hne] using h
  exact hset allLines State.reset.senseLines (.inl (List.mem_finRange l))

theorem Stage.linesFormed (m : Stage s t) (h : ∀ l, (s.line l).formed) (l : LineId) : (t.line l).formed := by
  cases m with
  | move m => exact m.linesFormed h l
  | restart phase cause _ => rw [State.restarted_line]; rfl
  | phase x _ => exact h l
  | scan _ => obtain ⟨_, _, _, _, _, e⟩ := s.scanStore_eq; rw [e]; exact h l

/-! ### Tables -/

section Keys

variable {α : Type}

/-- The keys of a table rise. -/
def keysRise (t : Table α) : Prop := (t.map (·.1)).Pairwise (· < ·)

theorem keysRise_cons {e : Nat × α} {t : Table α} : keysRise (e :: t) ↔ keysAbove e.1 t ∧ keysRise t := by
  simp [keysRise, keysAbove, List.pairwise_cons]

theorem tablePut_rise {t : Table α} (k : Nat) (v : α) (h : keysRise t) : keysRise (tablePut t k v) := by
  induction t with
  | nil => simp [tablePut, keysRise]
  | cons e t ih =>
    obtain ⟨k', v'⟩ := e
    obtain ⟨ha, ht⟩ := keysRise_cons.1 h
    unfold tablePut
    split
    · next hk =>
      exact keysRise_cons.2 ⟨List.forall_mem_cons.2 ⟨hk, fun x hx => Nat.lt_trans hk (ha x hx)⟩, h⟩
    · split
      · next hk => exact keysRise_cons.2 ⟨hk ▸ ha, ht⟩
      · exact keysRise_cons.2 ⟨keysAbove_tablePut (by omega) v ha, ih ht⟩

theorem tableErase_rise {t : Table α} (k : Nat) (h : keysRise t) : keysRise (tableErase t k) :=
  List.Pairwise.sublist (List.filter_sublist.map _) h

end Keys

/-- The parts of `State.tablesCanonical`. -/
structure State.Canonical (s : State) : Prop where
  circuits : tableWf {} s.circuits = true
  spanIndex : tableWf [] s.spanIndex = true
  defSlots : tableWf .erased s.defSlots = true
  baseSlots : tableWf .erased s.baseSlots = true
  codeMap : keysRise s.codeMap

theorem tablesCanonical_iff (s : State) : s.tablesCanonical = true ↔ s.Canonical := by
  simp only [State.tablesCanonical, Bool.and_eq_true, decide_eq_true_eq]
  exact ⟨fun ⟨⟨⟨⟨hc, hs⟩, hd⟩, hb⟩, hm⟩ => ⟨hc, hs, hd, hb, hm⟩, fun ⟨hc, hs, hd, hb, hm⟩ => ⟨⟨⟨⟨hc, hs⟩, hd⟩, hb⟩, hm⟩⟩

namespace State.Canonical

theorem congr (h : s.Canonical) (hc : t.circuits = s.circuits) (hs : t.spanIndex = s.spanIndex)
    (hd : t.defSlots = s.defSlots) (hb : t.baseSlots = s.baseSlots) (hm : t.codeMap = s.codeMap) : t.Canonical :=
  ⟨hc ▸ h.circuits, hs ▸ h.spanIndex, hd ▸ h.defSlots, hb ▸ h.baseSlots, hm ▸ h.codeMap⟩

theorem setCircuit (h : s.Canonical) (c : Nat) (r : Circuit) : (s.setCircuit c r).Canonical :=
  { h with circuits := tableWrite_wf _ _ _ h.circuits }

/-- A fold of writes keeps the canonical form of the span index. -/
theorem spans (h : s.Canonical) (f : Table (List Nat) → Nat → List Nat) (ps : List Nat) :
    State.Canonical { s with spanIndex := ps.foldl (fun t p => tableWrite [] t p (f t p)) s.spanIndex } := by
  refine { h with spanIndex := ?_ }
  have hfold : ∀ t : Table (List Nat), tableWf [] t = true →
      tableWf [] (ps.foldl (fun t p => tableWrite [] t p (f t p)) t) = true := by
    induction ps with
    | nil => exact fun _ ht => ht
    | cons p ps ih => exact fun t ht => ih _ (tableWrite_wf _ _ _ ht)
  exact hfold _ h.spanIndex

theorem indexSpans (h : s.Canonical) (c : Nat) (ps : List Nat) : (s.indexSpans c ps).Canonical := h.spans _ ps

theorem unindexSpans (h : s.Canonical) (c : Nat) (ps : List Nat) : (s.unindexSpans c ps).Canonical := h.spans _ ps

theorem ownCode (h : s.Canonical) (code c : Nat) : (s.ownCode code c).Canonical :=
  { h with codeMap := tablePut_rise _ _ h.codeMap }

theorem disownCode (h : s.Canonical) (code : Nat) : (s.disownCode code).Canonical :=
  { h with codeMap := tableErase_rise _ h.codeMap }

theorem putDefinition (h : s.Canonical) (id : Nat) (d : Definition) (kind : DefineKind) :
    (s.putDefinition id d kind).Canonical := by
  have hold : (s.unindexOld id d.code (s.circuit id).definition).Canonical := by
    cases (s.circuit id).definition with
    | none => exact h
    | some old =>
      show State.Canonical (if old.code = d.code then _ else _)
      split
      · exact h.unindexSpans id old.spans
      · exact (h.unindexSpans id old.spans).disownCode _
  exact ((hold.setCircuit id _).indexSpans id d.spans).ownCode d.code id

theorem emptySlot (h : s.Canonical) (id : Nat) : (s.emptySlot id).Canonical := by
  unfold State.emptySlot
  cases (s.circuit id).definition with
  | none => exact h.setCircuit id {}
  | some d => exact ((h.unindexSpans id d.spans).disownCode d.code).setCircuit id {}

theorem putSlot (h : s.Canonical) (x : SavedSlot) : (s.putSlot x).Canonical := by
  cases x with
  | definition c x => exact { h with defSlots := tableWrite_wf _ _ _ h.defSlots }
  | baseline c x => exact { h with baseSlots := tableWrite_wf _ _ _ h.baseSlots }
  | protection x => exact { h with }

theorem queueUnreserved (h : s.Canonical) (n : Notice) : (s.queueUnreserved n).Canonical := by
  rcases s.queueUnreserved_cases n with ⟨-, e⟩ | ⟨-, e⟩ <;> rw [e] <;> exact { h with }

theorem queueReserved (h : s.Canonical) (k : ReservedKind) (n : Notice) : (s.queueReserved k n).Canonical := by
  unfold State.queueReserved
  split
  · exact h.queueUnreserved n
  · exact { h with }

theorem scanSlot (h : s.Canonical) (ids : List Nat) (c : Nat) : (s.scanSlot ids c).Canonical := by
  unfold State.scanSlot
  dsimp only
  split
  · exact ((h.setCircuit c _).indexSpans c _).ownCode _ c
  · exact h.setCircuit c _

theorem scanStore (h : s.Canonical) : s.scanStore.Canonical := by
  obtain ⟨r, lv, e⟩ := s.scanProtection_eq
  have hempty : State.Canonical { s.scanProtection with circuits := [], codeMap := [], spanIndex := [] } := by
    rw [e]
    exact ⟨rfl, rfl, h.defSlots, h.baseSlots, .nil⟩
  have hfold : ∀ (ids cs : List Nat) (u : State), u.Canonical →
      (cs.foldl (fun s c => s.scanSlot ids c) u).Canonical := by
    intro ids cs
    induction cs with
    | nil => exact fun _ hu => hu
    | cons c cs ih => exact fun u hu => ih _ (hu.scanSlot ids c)
  unfold State.scanStore
  exact hfold _ _ _ hempty

end State.Canonical

theorem Move.canonical {p q : Bool} (m : Move p q s t) (h : s.Canonical) : t.Canonical := by
  cases m with
  | other e =>
    exact h.congr (congrArg Tracked.circuits e) (congrArg Tracked.spanIndex e) (congrArg Tracked.defSlots e)
      (congrArg Tracked.baseSlots e) (congrArg Tracked.codeMap e)
  | circuit c r _ _ => exact h.setCircuit c r
  | queueUnreserved n => exact h.queueUnreserved n
  | queueReserved k n => exact h.queueReserved k n
  | slot x => exact h.putSlot x
  | definition id d kind _ _ => exact h.putDefinition id d kind
  | emptySlot id _ => exact h.emptySlot id
  | baseline c b _ => exact h.setCircuit c _
  | _ => exact { h with }

theorem Stage.canonical (m : Stage s t) (h : s.Canonical) : t.Canonical := by
  cases m with
  | move m => exact m.canonical h
  | restart phase cause _ => exact ⟨rfl, rfl, h.defSlots, h.baseSlots, .nil⟩
  | phase x _ => exact { h with }
  | scan _ => exact h.scanStore

end

end Sys2Proof.Machine

namespace Sys2Proof.Proofs

open Sys2Proof.Machine

/-- Settles O57: every stage of a step keeps the lists, the lines and the tables. -/
theorem structuresKept : Obligations.StructuresKept := by
  intro s t hlists hlines htables h
  refine ⟨?lists, ?lines, ?tables⟩
  case lists => exact step_keeps (P := fun u => u.listsFit = true) Stage.listsFit h hlists
  case lines =>
    exact (linesMasked_iff t).2
      (step_keeps (P := fun u => ∀ l, (u.line l).formed) Stage.linesFormed h ((linesMasked_iff s).1 hlines))
  case tables =>
    exact (tablesCanonical_iff t).2 (step_keeps (P := State.Canonical) Stage.canonical h ((tablesCanonical_iff s).1 htables))

end Sys2Proof.Proofs

/-! ## What the working copies of the store follow (O59) -/

namespace Sys2Proof.Machine

section

variable {s t : State}

/-- The working copies of the store stand as before: each definition and baseline, the region and the stored level; and so
does the session overlay. -/
structure State.SameCopies (s t : State) : Prop where
  definition : ∀ c, (t.circuit c).definition = (s.circuit c).definition
  baseline : ∀ c, (t.circuit c).baseline = (s.circuit c).baseline
  region : t.region = s.region
  storedLevel : t.storedLevel = s.storedLevel
  overlay : t.overlay = s.overlay

namespace State.SameCopies

theorem refl (s : State) : s.SameCopies s := ⟨fun _ => rfl, fun _ => rfl, rfl, rfl, rfl⟩

theorem trans {u : State} (h : s.SameCopies t) (h' : t.SameCopies u) : s.SameCopies u :=
  ⟨fun c => (h'.definition c).trans (h.definition c), fun c => (h'.baseline c).trans (h.baseline c),
    h'.region.trans h.region, h'.storedLevel.trans h.storedLevel, h'.overlay.trans h.overlay⟩

theorem of_eq (hc : t.circuits = s.circuits) (hr : t.region = s.region) (hl : t.storedLevel = s.storedLevel)
    (ho : t.overlay = s.overlay) : s.SameCopies t := by
  have he : ∀ c, t.circuit c = s.circuit c := fun c => by rw [State.circuit, hc]; rfl
  exact ⟨fun c => by rw [he], fun c => by rw [he], hr, hl, ho⟩

theorem queueUnreserved (s : State) (n : Notice) : s.SameCopies (s.queueUnreserved n) := by
  rcases s.queueUnreserved_cases n with ⟨-, e⟩ | ⟨-, e⟩ <;> rw [e] <;> exact of_eq rfl rfl rfl rfl

theorem queueReserved (s : State) (k : ReservedKind) (n : Notice) : s.SameCopies (s.queueReserved k n) := by
  unfold State.queueReserved
  split
  · exact queueUnreserved s n
  · exact of_eq rfl rfl rfl rfl

end State.SameCopies

/-- A move without the right to put a commit's outcome in force leaves the working copies alone. -/
theorem Move.sameCopies {q : Bool} (m : Move false q s t) : s.SameCopies t := by
  cases m with
  | other e =>
    exact .of_eq (congrArg Tracked.circuits e) (congrArg Tracked.region e) (congrArg Tracked.storedLevel e)
      (congrArg Tracked.overlay e)
  | circuit c r hd hb =>
    refine ⟨fun c' => ?_, fun c' => ?_, rfl, rfl, rfl⟩ <;> by_cases hc : c' = c
    · subst hc; rw [State.circuit_setCircuit_self, hd]
    · rw [State.circuit_setCircuit_other s hc]
    · subst hc; rw [State.circuit_setCircuit_self, hb]
    · rw [State.circuit_setCircuit_other s hc]
  | queueUnreserved n => exact .queueUnreserved s n
  | queueReserved k n => exact .queueReserved s k n
  | slot x => cases x <;> exact .of_eq rfl rfl rfl rfl
  | definition id d kind hk _ => cases hk
  | emptySlot id hk => cases hk
  | baseline c b hk => cases hk
  | protection r level session hk => cases hk
  | _ => exact .of_eq rfl rfl rfl rfl

theorem Moves.sameCopies {q : Bool} (h : Moves false q s t) : s.SameCopies t :=
  h.keeps (P := fun u => s.SameCopies u) (fun m hu => hu.trans m.sameCopies) (.refl s)

theorem Move.overlay_kept {p q : Bool} (m : Move p q s t) (h : s.overlay = true) : t.overlay = true := by
  cases m with
  | other e => exact (congrArg Tracked.overlay e).trans h
  | queueUnreserved n => exact (State.SameCopies.queueUnreserved s n).overlay.trans h
  | queueReserved k n => exact (State.SameCopies.queueReserved s k n).overlay.trans h
  | slot x => cases x <;> exact h
  | definition id d kind _ _ => obtain ⟨_, _, _, e⟩ := s.putDefinition_eq id d kind; rw [e]; exact h
  | emptySlot id _ => obtain ⟨_, _, _, e⟩ := s.emptySlot_eq id; rw [e]; exact h
  | protection r level session _ => rw [show s.overlay = true from h]; rfl
  | _ => exact h

/-- A warm restart keeps a set session overlay (R150). -/
theorem State.restarted_overlay (s : State) (phase : Phase) {cause : RestartCause} (hc : cause ≠ .cold)
    (h : s.overlay = true) : (s.restarted phase cause).overlay = true := by
  show (s.overlay && cause != .cold) = true
  rw [h]
  simpa using hc

theorem Moves.overlay_kept {p q : Bool} (h : Moves p q s t) (hs : s.overlay = true) : t.overlay = true :=
  h.keeps (P := fun u => u.overlay = true) (fun m hu => m.overlay_kept hu) hs

theorem State.takeDue_overlay (h : s.overlay = true) : s.takeDue.overlay = true := by
  by_cases hr : s.restartDue = true
  · unfold State.takeDue State.beginRestart
    rw [if_pos hr, if_pos hr]
    exact s.restarted_overlay _ nofun h
  · exact (Moves.takeDue (p := true) (Bool.eq_false_iff.2 hr)).overlay_kept h

theorem State.endScan_overlay (h : s.overlay = true) : s.endScan.overlay = true := by
  have hscan : s.scanStore.overlay = true := by obtain ⟨_, _, _, _, _, e⟩ := s.scanStore_eq; rw [e]; exact h
  have hann : Moves true true s.scanStore s.announce := (Moves.nil.queueUnreserved _).transmit
  have hrun : State.overlay { s.announce with phase := .running } = true := hann.overlay_kept hscan
  have hend : Moves true true { s.announce with phase := .running } s.endScan := (Moves.nil.startRuns _).settle
  exact hend.overlay_kept hrun

/-- Only a cold restart ends SESSION. -/
theorem exec_overlay {cmd : Instr} (hs : s.overlay = true) (hon : cmd ≠ .powerOn) (hfail : ∀ erased, cmd ≠ .powerFail erased)
    (h : exec cmd s = .next t) : t.overlay = true := by
  by_cases hcmd : isPartCommand cmd = true
  · cases cmd with
    | powerOn => exact absurd rfl hon
    | powerFail erased => exact absurd rfl (hfail erased)
    | resetAsserted erased =>
      cases h
      split
      · exact hs
      · split
        · exact hs
        · exact State.restarted_overlay (s.cutWrite erased) .held nofun
            ((Moves.nil (p := true) (q := true)).cutWrite erased |>.overlay_kept hs)
    | resetReleased => cases h; split <;> exact hs
    | startUpScanDone =>
      cases h
      split
      · exact State.endScan_overlay (State.takeDue_overlay hs)
      · exact hs
    | restartBegins =>
      cases h
      unfold State.beginRestart
      split
      · exact s.restarted_overlay _ nofun hs
      · exact hs
    | _ => cases hcmd
  · obtain h | h := exec_moves_takeDue (p := true) (Bool.eq_false_iff.2 hcmd) (fun _ _ => rfl) (fun _ => rfl) h
    · exact h.overlay_kept (State.takeDue_overlay hs)
    · exact h.overlay_kept hs

/-- The end of a frame leaves the working copies alone. -/
theorem State.endFrame_sameCopies (s : State) : s.SameCopies s.endFrame := by
  unfold State.endFrame
  split
  · exact .refl s
  · next part _ =>
    unfold State.endReplyPart
    split
    · exact .of_eq rfl rfl rfl rfl
    · split
      · exact .of_eq rfl rfl rfl rfl
      · unfold State.placeWaiting
        split
        · unfold State.placeReply
          split <;> exact .of_eq rfl rfl rfl rfl
        · exact .of_eq rfl rfl rfl rfl
        · exact .of_eq rfl rfl rfl rfl
  · obtain ⟨ls, e⟩ := State.lookAtWaiting_eq { s with transmitter := .idle }
    rw [e]
    exact .of_eq rfl rfl rfl rfl

/-- What changes the working copies of the store: an agreeing STORE_WRITE_DONE, the scan, and restarts. -/
theorem exec_sameCopies {cmd : Instr} (hr : s.restartDue = false) (hwrite : ∀ erased, cmd ≠ .storeWriteDone true erased)
    (hscan : cmd ≠ .startUpScanDone) (hon : cmd ≠ .powerOn) (hfail : ∀ erased, cmd ≠ .powerFail erased)
    (hreset : ∀ erased, cmd ≠ .resetAsserted erased) (h : exec cmd s = .next t) : s.SameCopies t := by
  by_cases hcmd : isPartCommand cmd = true
  · cases cmd with
    | powerOn => exact absurd rfl hon
    | powerFail erased => exact absurd rfl (hfail erased)
    | resetAsserted erased => exact absurd rfl (hreset erased)
    | startUpScanDone => exact absurd rfl hscan
    | resetReleased => cases h; split <;> exact .of_eq rfl rfl rfl rfl
    | restartBegins =>
      cases h
      rw [State.beginRestart, if_neg (by simp [hr])]
      exact .refl s
    | _ => cases hcmd
  · by_cases hsent : cmd = .frameSent
    · subst hsent
      cases h
      have hdue : s.SameCopies s.takeDue := (Moves.takeDue hr).sameCopies
      unfold State.whenAlive
      dsimp only
      split
      · exact (hdue.trans s.takeDue.endFrame_sameCopies).trans (Moves.settle .nil).sameCopies
      · exact hdue
    · exact (exec_moves hr (Bool.eq_false_iff.2 hcmd) (fun erased e => absurd e (hwrite erased)) (absurd · hsent) h).sameCopies

end

end Sys2Proof.Machine

namespace Sys2Proof.Proofs

open Sys2Proof.Machine

/-- Settles O59: a command that puts no commit's outcome in force is a sequence of moves that leave the working copies
alone, and only a cold restart clears the overlay. -/
theorem tableFollowsTheStore : Obligations.TableFollowsTheStore := by
  refine ⟨?copies, ?overlay⟩
  case copies =>
    intro s t cmd hr hwrite hscan hon hfail hreset h
    have hsame := exec_sameCopies hr hwrite hscan hon hfail hreset h
    exact ⟨fun c => ⟨hsame.definition c, hsame.baseline c⟩, hsame.region, hsame.storedLevel, hsame.overlay⟩
  case overlay => exact fun s t cmd hs hon hfail h => exec_overlay hs hon hfail h

end Sys2Proof.Proofs

/-! ## The marker-code map and the span index (O58) -/

namespace Sys2Proof.Machine

/-! ### Ascending lists and the tables that hold them -/

theorem mem_insertAsc {a b : Nat} {l : List Nat} : b ∈ insertAsc a l ↔ b = a ∨ b ∈ l := by
  induction l with
  | nil => simp [insertAsc]
  | cons x l ih =>
    unfold insertAsc
    split
    · exact List.mem_cons
    · split
      · next h => subst h; simp
      · rw [List.mem_cons, ih, List.mem_cons]
        tauto

theorem insertAsc_ascending {a : Nat} {l : List Nat} (h : l.Pairwise (· < ·)) : (insertAsc a l).Pairwise (· < ·) := by
  induction l with
  | nil => exact List.pairwise_singleton ..
  | cons x l ih =>
    obtain ⟨hx, hl⟩ := List.pairwise_cons.1 h
    unfold insertAsc
    split
    · next hlt =>
      exact List.pairwise_cons.2 ⟨List.forall_mem_cons.2 ⟨hlt, fun y hy => Nat.lt_trans hlt (hx y hy)⟩, h⟩
    · split
      · exact h
      · refine List.pairwise_cons.2 ⟨fun y hy => ?_, ih hl⟩
        rcases mem_insertAsc.1 hy with rfl | hy
        · omega
        · exact hx y hy

section Tables

variable {α : Type}

theorem mem_of_tableGet {t : Table α} {k : Nat} {v : α} (h : tableGet t k = some v) : (k, v) ∈ t := by
  induction t with
  | nil => cases h
  | cons e t ih =>
    obtain ⟨k', v'⟩ := e
    unfold tableGet at h
    split at h
    · next hk => cases h; exact hk ▸ List.mem_cons_self
    · exact List.mem_cons_of_mem _ (ih h)

theorem mem_tablePut {t : Table α} {k : Nat} {v : α} {e : Nat × α} (h : e ∈ tablePut t k v) : e = (k, v) ∨ e ∈ t := by
  induction t with
  | nil => exact .inl (List.mem_singleton.1 h)
  | cons x t ih =>
    obtain ⟨k', v'⟩ := x
    unfold tablePut at h
    split at h
    · exact List.mem_cons.1 h
    · split at h
      · exact (List.mem_cons.1 h).imp_right (List.mem_cons_of_mem _)
      · rcases List.mem_cons.1 h with rfl | h
        · exact .inr List.mem_cons_self
        · exact (ih h).imp_right (List.mem_cons_of_mem _)

/-- What holds of the value written and of every value listed holds of every value listed after the write. -/
theorem forall_tableWrite [DecidableEq α] {P : α → Prop} {d : α} {t : Table α} {k : Nat} {v : α} (hv : P v)
    (h : ∀ e ∈ t, P e.2) : ∀ e ∈ tableWrite d t k v, P e.2 := by
  intro e he
  unfold tableWrite at he
  split at he
  · exact h e (List.mem_of_mem_filter he)
  · rcases mem_tablePut he with rfl | he
    · exact hv
    · exact h e he

theorem tableRead_of_forall {P : α → Prop} {d : α} (hd : P d) {t : Table α} (h : ∀ e ∈ t, P e.2) (k : Nat) :
    P (tableRead d t k) := by
  unfold tableRead
  cases hg : tableGet t k with
  | none => exact hd
  | some v => exact h _ (mem_of_tableGet hg)

end Tables

theorem spansAscending_iff (s : State) : s.spansAscending = true ↔ ∀ e ∈ s.spanIndex, e.2.Pairwise (· < ·) := by
  simp [State.spansAscending]

/-- The circuits that cross a span stand in ascending order. -/
theorem crossing_ascending {s : State} (h : s.spansAscending = true) (p : Nat) : (s.crossing p).Pairwise (· < ·) :=
  tableRead_of_forall .nil ((spansAscending_iff s).1 h) p

/-- A fold that rewrites the lists of some spans keeps every list ascending where the rewriting does. -/
theorem foldl_spans_ascending {g : List Nat → List Nat} (hg : ∀ l, l.Pairwise (· < ·) → (g l).Pairwise (· < ·))
    (ps : List Nat) {t : Table (List Nat)} (h : ∀ e ∈ t, e.2.Pairwise (· < ·)) :
    ∀ e ∈ ps.foldl (fun t p => tableWrite [] t p (g (tableRead [] t p))) t, e.2.Pairwise (· < ·) := by
  induction ps generalizing t with
  | nil => exact h
  | cons p ps ih =>
    exact ih (forall_tableWrite (P := fun l => List.Pairwise (· < ·) l)
      (hg _ (tableRead_of_forall (P := fun l => List.Pairwise (· < ·) l) .nil h p)) h)

section

variable {s t : State}

/-! ### What the indexes say after each operation -/

theorem mem_crossing_indexSpans {c c' p : Nat} (spans : List Nat) :
    c' ∈ (s.indexSpans c spans).crossing p ↔ c' ∈ s.crossing p ∨ (c' = c ∧ p ∈ spans) := by
  have hfold : ∀ (ps : List Nat) (t : Table (List Nat)),
      c' ∈ tableRead [] (ps.foldl (fun t p => tableWrite [] t p (insertAsc c (tableRead [] t p))) t) p ↔
        c' ∈ tableRead [] t p ∨ (c' = c ∧ p ∈ ps) := by
    intro ps
    induction ps with
    | nil => simp
    | cons x ps ih =>
      intro t
      rw [List.foldl_cons, ih]
      by_cases hx : p = x
      · subst hx
        rw [tableRead_tableWrite_self, mem_insertAsc, List.mem_cons]
        tauto
      · rw [tableRead_tableWrite_other _ _ hx, List.mem_cons]
        tauto
  exact hfold spans s.spanIndex

theorem mem_crossing_unindexSpans {c c' p : Nat} (spans : List Nat) :
    c' ∈ (s.unindexSpans c spans).crossing p ↔ c' ∈ s.crossing p ∧ ¬(c' = c ∧ p ∈ spans) := by
  have hfold : ∀ (ps : List Nat) (t : Table (List Nat)),
      c' ∈ tableRead [] (ps.foldl (fun t p => tableWrite [] t p ((tableRead [] t p).filter (· != c))) t) p ↔
        c' ∈ tableRead [] t p ∧ ¬(c' = c ∧ p ∈ ps) := by
    intro ps
    induction ps with
    | nil => simp
    | cons x ps ih =>
      intro t
      rw [List.foldl_cons, ih]
      by_cases hx : p = x
      · subst hx
        rw [tableRead_tableWrite_self, List.mem_filter, bne_iff_ne, List.mem_cons]
        tauto
      · rw [tableRead_tableWrite_other _ _ hx, List.mem_cons]
        tauto
  exact hfold spans s.spanIndex

theorem spansAscending_indexSpans (h : s.spansAscending = true) (c : Nat) (spans : List Nat) :
    (s.indexSpans c spans).spansAscending = true :=
  (spansAscending_iff _).2
    (foldl_spans_ascending (g := insertAsc c) (fun _ hl => insertAsc_ascending hl) spans ((spansAscending_iff s).1 h))

theorem spansAscending_unindexSpans (h : s.spansAscending = true) (c : Nat) (spans : List Nat) :
    (s.unindexSpans c spans).spansAscending = true :=
  (spansAscending_iff _).2
    (foldl_spans_ascending (g := fun l => l.filter (· != c)) (fun _ hl => hl.filter _) spans ((spansAscending_iff s).1 h))

theorem codeOwner_ownCode_self (code c : Nat) : (s.ownCode code c).codeOwner code = some c := tableGet_tablePut_self ..

theorem codeOwner_ownCode_other {code code' : Nat} (h : code' ≠ code) (c : Nat) :
    (s.ownCode code c).codeOwner code' = s.codeOwner code' := tableGet_tablePut_other _ h _

theorem codeOwner_disownCode_self (code : Nat) : (s.disownCode code).codeOwner code = none := tableGet_tableErase_self ..

theorem codeOwner_disownCode_other {code code' : Nat} (h : code' ≠ code) :
    (s.disownCode code).codeOwner code' = s.codeOwner code' := tableGet_tableErase_other _ h

/-! ### The indexes are exact -/

/-- The marker-code map and the span index hold exactly what a table of definitions says. -/
structure IndexesFor (s : State) (def_ : Nat → Option Definition) : Prop where
  codes : ∀ code c, s.codeOwner code = some c ↔ (def_ c).map (·.code) = some code
  spans : ∀ p c, c ∈ s.crossing p ↔ ∃ d, def_ c = some d ∧ p ∈ d.spans
  ascending : s.spansAscending = true

/-- The definitions of the circuit table. -/
def State.definitions (s : State) (c : Nat) : Option Definition := (s.circuit c).definition

theorem indexesFor_definitions :
    IndexesFor s s.definitions ↔ s.codesExact ∧ s.spansExact ∧ s.spansAscending = true :=
  ⟨fun h => ⟨h.codes, h.spans, h.ascending⟩, fun ⟨hc, hs, ha⟩ => ⟨hc, hs, ha⟩⟩

namespace IndexesFor

variable {f : Nat → Option Definition}

theorem congr (h : IndexesFor s f) (hc : t.codeMap = s.codeMap) (hi : t.spanIndex = s.spanIndex) : IndexesFor t f := by
  have hcross : ∀ p, t.crossing p = s.crossing p := fun p => by rw [State.crossing, hi]; rfl
  have hown : ∀ code, t.codeOwner code = s.codeOwner code := fun code => by rw [State.codeOwner, hc]; rfl
  refine ⟨fun code c => by rw [hown]; exact h.codes code c, fun p c => by rw [hcross]; exact h.spans p c, ?_⟩
  rw [spansAscending_iff, hi, ← spansAscending_iff]
  exact h.ascending

/-- A circuit leaves both indexes (R16, step 1; R17). -/
theorem remove (h : IndexesFor s f) {id : Nat} {d : Definition} (hd : f id = some d) :
    IndexesFor ((s.unindexSpans id d.spans).disownCode d.code) (Function.update f id none) := by
  refine ⟨fun code c => ?_, fun p c => ?_, spansAscending_unindexSpans h.ascending id d.spans⟩
  · by_cases hcode : code = d.code
    · subst hcode
      rw [codeOwner_disownCode_self]
      by_cases hc : c = id
      · subst hc; simp
      · rw [Function.update_of_ne hc, ← h.codes]
        have howner : s.codeOwner d.code = some id := (h.codes d.code id).2 (by rw [hd]; rfl)
        simp [howner, Ne.symm hc]
    · rw [codeOwner_disownCode_other hcode]
      show s.codeOwner code = some c ↔ _
      rw [h.codes]
      by_cases hc : c = id
      · subst hc; simp [hd, Ne.symm hcode]
      · rw [Function.update_of_ne hc]
  · show c ∈ (s.unindexSpans id d.spans).crossing p ↔ _
    rw [mem_crossing_unindexSpans, h.spans]
    by_cases hc : c = id
    · subst hc; simp [hd]
    · simp [hc]

/-- A circuit without a definition enters both indexes under a code that no circuit owns (R16, step 4). -/
theorem insert (h : IndexesFor s f) {id : Nat} {d : Definition} (hnone : f id = none) (hcode : s.codeOwner d.code = none) :
    IndexesFor ((s.indexSpans id d.spans).ownCode d.code id) (Function.update f id (some d)) := by
  refine ⟨fun code c => ?_, fun p c => ?_, spansAscending_indexSpans h.ascending id d.spans⟩
  · by_cases he : code = d.code
    · subst he
      rw [codeOwner_ownCode_self]
      by_cases hc : c = id
      · subst hc; simp
      · rw [Function.update_of_ne hc, ← h.codes, hcode]
        simp [Ne.symm hc]
    · rw [codeOwner_ownCode_other he]
      show s.codeOwner code = some c ↔ _
      rw [h.codes]
      by_cases hc : c = id
      · subst hc; simp [hnone, Ne.symm he]
      · rw [Function.update_of_ne hc]
  · show c ∈ (s.indexSpans id d.spans).crossing p ↔ _
    rw [mem_crossing_indexSpans, h.spans]
    by_cases hc : c = id
    · subst hc; simp [hnone]
    · simp [hc]

end IndexesFor

theorem tableErase_tablePut {α : Type} (t : Table α) (k : Nat) (v : α) (j : Nat) :
    tableGet (tablePut (tableErase t k) k v) j = tableGet (tablePut t k v) j := by
  by_cases h : j = k
  · subst h; simp
  · rw [tableGet_tablePut_other _ h, tableGet_tablePut_other _ h, tableGet_tableErase_other _ h]

theorem definitions_setCircuit (c : Nat) (r : Circuit) :
    (s.setCircuit c r).definitions = Function.update s.definitions c r.definition := by
  funext c'
  by_cases h : c' = c
  · subst h; simp [State.definitions]
  · simp [State.definitions, State.circuit_setCircuit_other _ h, Function.update_of_ne h]

/-- Putting a definition in place keeps the indexes exact, where no other circuit owns its code (R14, check 2). -/
theorem indexesFor_putDefinition (h : IndexesFor s s.definitions) {id : Nat} {d : Definition}
    (hcode : s.codeOwner d.code = none ∨ s.codeOwner d.code = some id) (kind : DefineKind) :
    IndexesFor (s.putDefinition id d kind) (s.putDefinition id d kind).definitions := by
  have hdefs : (s.putDefinition id d kind).definitions = Function.update s.definitions id (some d) := by
    obtain ⟨cm, si, e⟩ := s.unindexOld_eq id d.code (s.circuit id).definition
    unfold State.putDefinition
    dsimp only
    rw [e]
    exact definitions_setCircuit (s := s) id _
  rw [hdefs]
  cases hold : (s.circuit id).definition with
  | none =>
    have hfree : s.codeOwner d.code = none := hcode.resolve_right fun e => by
      have hown := (h.codes d.code id).1 e
      rw [State.definitions, hold] at hown
      cases hown
    refine IndexesFor.congr (h.insert (d := d) hold hfree) ?_ ?_ <;>
    · unfold State.putDefinition
      dsimp only
      rw [hold]
      rfl
  | some old =>
    have hremoved := h.remove (id := id) (d := old) hold
    have hfree : ((s.unindexSpans id old.spans).disownCode old.code).codeOwner d.code = none := by
      by_cases he : d.code = old.code
      · rw [he, codeOwner_disownCode_self]
      · rw [codeOwner_disownCode_other he]
        refine hcode.resolve_right fun e => ?_
        have hown := (h.codes d.code id).1 e
        rw [State.definitions, hold] at hown
        exact he (Option.some.inj hown).symm
    have hins := hremoved.insert (id := id) (d := d) (Function.update_self ..) hfree
    rw [Function.update_idem] at hins
    by_cases he : old.code = d.code
    · refine ⟨fun code c => ?_, ?_, ?_⟩
      · rw [← hins.codes]
        have hget := tableErase_tablePut s.codeMap d.code id code
        unfold State.putDefinition State.unindexOld
        dsimp only
        rw [hold]
        dsimp only
        rw [if_pos he, he]
        exact (congrArg (· = some c) hget.symm).to_iff
      · intro p c
        rw [← hins.spans]
        unfold State.putDefinition State.unindexOld
        dsimp only
        rw [hold]
        dsimp only
        rw [if_pos he]
        rfl
      · rw [← hins.ascending]
        unfold State.putDefinition State.unindexOld
        dsimp only
        rw [hold]
        dsimp only
        rw [if_pos he]
        rfl
    · refine IndexesFor.congr hins ?_ ?_ <;>
      · unfold State.putDefinition State.unindexOld
        dsimp only
        rw [hold]
        dsimp only
        rw [if_neg he]
        rfl

/-- Emptying a slot keeps the indexes exact. -/
theorem indexesFor_emptySlot (h : IndexesFor s s.definitions) (id : Nat) :
    IndexesFor (s.emptySlot id) (s.emptySlot id).definitions := by
  cases hold : (s.circuit id).definition with
  | none =>
    have he : s.emptySlot id = s.setCircuit id {} := by unfold State.emptySlot; rw [hold]
    have hsame : Function.update s.definitions id none = s.definitions := Function.update_eq_self_iff.2 hold.symm
    rw [he, definitions_setCircuit, hsame]
    exact h.congr rfl rfl
  | some d =>
    have he : s.emptySlot id = ((s.unindexSpans id d.spans).disownCode d.code).setCircuit id {} := by
      unfold State.emptySlot; rw [hold]
    rw [he, definitions_setCircuit]
    exact (h.remove hold).congr rfl rfl

/-! ### The scan -/

theorem scannedDefinition_congr (hd : t.defSlots = s.defSlots) (c : Nat) :
    t.scannedDefinition c = s.scannedDefinition c := by
  rw [State.scannedDefinition, hd]
  rfl

theorem scannedCircuit_congr (hd : t.defSlots = s.defSlots) (hb : t.baseSlots = s.baseSlots) (ids : List Nat) (c : Nat) :
    t.scannedCircuit ids c = s.scannedCircuit ids c := by
  have htaken : ∀ code, t.codeTakenBelow c code ids = s.codeTakenBelow c code ids := by
    intro code
    simp only [State.codeTakenBelow, scannedDefinition_congr hd]
  simp only [State.scannedCircuit, State.scannedBaseline, scannedDefinition_congr hd, htaken, hd, hb]

/-- A definition that the scan puts in place is the slot's, and no lower-numbered slot holds its code (R171). -/
theorem scannedCircuit_definition {ids : List Nat} {c : Nat} {d : Definition}
    (h : (s.scannedCircuit ids c).definition = some d) :
    s.scannedDefinition c = some d ∧ s.codeTakenBelow c d.code ids = false := by
  unfold State.scannedCircuit at h
  split at h
  · split at h <;> cases h
  · next d' hd' =>
    split at h
    · cases h
    · next htaken => cases h; exact ⟨hd', Bool.eq_false_iff.2 htaken⟩

/-- No two slots that the scan defines share a code. -/
theorem scannedCircuit_code_inj {ids : List Nat} {c c' : Nat} {d d' : Definition} (hc : c ∈ ids) (hc' : c' ∈ ids)
    (h : (s.scannedCircuit ids c).definition = some d) (h' : (s.scannedCircuit ids c').definition = some d')
    (hcode : d.code = d'.code) : c = c' := by
  have hbelow : ∀ {a b : Nat} {x y : Definition}, a ∈ ids → (s.scannedCircuit ids a).definition = some x →
      (s.scannedCircuit ids b).definition = some y → x.code = y.code → ¬a < b := by
    intro a b x y ha hx hy hxy hlt
    have hfree := (scannedCircuit_definition hy).2
    have htaken : s.codeTakenBelow b y.code ids = true := by
      refine List.any_eq_true.2 ⟨a, ha, ?_⟩
      rw [(scannedCircuit_definition hx).1]
      simp [hlt, hxy]
    rw [htaken] at hfree
    cases hfree
  exact Nat.le_antisymm (Nat.le_of_not_lt (hbelow hc' h' h hcode.symm)) (Nat.le_of_not_lt (hbelow hc h h' hcode))

/-- What the scan of the slots `ids` has made of the state, when the slots of `done` are scanned. -/
structure Scanned (s : State) (ids done : List Nat) (t : State) : Prop where
  defSlots : t.defSlots = s.defSlots
  baseSlots : t.baseSlots = s.baseSlots
  circuit : ∀ c, t.circuit c = if c ∈ done then s.scannedCircuit ids c else {}
  codes : ∀ code c, t.codeOwner code = some c ↔
    c ∈ done ∧ (s.scannedCircuit ids c).definition.map (·.code) = some code
  spans : ∀ p c, c ∈ t.crossing p ↔ c ∈ done ∧ ∃ d, (s.scannedCircuit ids c).definition = some d ∧ p ∈ d.spans
  ascending : t.spansAscending = true

namespace Scanned

variable {u : State} {ids done : List Nat}

theorem scanSlot (h : Scanned s ids done t) {c : Nat} (hc : c ∈ ids) (hdone : ∀ x ∈ done, x ∈ ids) :
    Scanned s ids (done ++ [c]) (t.scanSlot ids c) := by
  have hr : t.scannedCircuit ids c = s.scannedCircuit ids c := scannedCircuit_congr h.defSlots h.baseSlots ids c
  have hcircuit : ∀ c', (t.setCircuit c (s.scannedCircuit ids c)).circuit c' =
      if c' ∈ done ++ [c] then s.scannedCircuit ids c' else {} := by
    intro c'
    by_cases he : c' = c
    · subst he; simp
    · rw [State.circuit_setCircuit_other _ he, h.circuit]
      simp [he]
  have hmem : ∀ c', c' ∈ done ++ [c] ↔ c' ∈ done ∨ c' = c := fun c' => by simp
  unfold State.scanSlot
  rw [hr]
  dsimp only
  cases hd : (s.scannedCircuit ids c).definition with
  | none =>
    refine ⟨h.defSlots, h.baseSlots, hcircuit, fun code c' => ?_, fun p c' => ?_, h.ascending⟩
    · show t.codeOwner code = some c' ↔ _
      rw [h.codes, hmem]
      constructor
      · exact fun ⟨hin, he⟩ => ⟨.inl hin, he⟩
      · rintro ⟨hin | rfl, he⟩
        · exact ⟨hin, he⟩
        · rw [hd] at he; cases he
    · show c' ∈ t.crossing p ↔ _
      rw [h.spans, hmem]
      constructor
      · exact fun ⟨hin, he⟩ => ⟨.inl hin, he⟩
      · rintro ⟨hin | rfl, d, he, hp⟩
        · exact ⟨hin, d, he, hp⟩
        · rw [hd] at he; cases he
  | some d =>
    refine ⟨h.defSlots, h.baseSlots, hcircuit, fun code c' => ?_, fun p c' => ?_,
      spansAscending_indexSpans h.ascending c d.spans⟩
    · by_cases hcode : code = d.code
      · subst hcode
        rw [codeOwner_ownCode_self, hmem]
        constructor
        · intro he
          cases he
          exact ⟨.inr rfl, by rw [hd]; rfl⟩
        · rintro ⟨hin, he⟩
          obtain ⟨d', hd', hcode'⟩ := Option.map_eq_some_iff.1 he
          have hin' : c' ∈ ids := hin.elim (hdone c') (fun e => e ▸ hc)
          rw [scannedCircuit_code_inj hin' hc hd' hd hcode']
      · rw [codeOwner_ownCode_other hcode]
        show t.codeOwner code = some c' ↔ _
        rw [h.codes, hmem]
        constructor
        · exact fun ⟨hin, he⟩ => ⟨.inl hin, he⟩
        · rintro ⟨hin | rfl, he⟩
          · exact ⟨hin, he⟩
          · rw [hd] at he
            exact absurd (Option.some.inj he).symm hcode
    · show c' ∈ (State.indexSpans (t.setCircuit c _) c d.spans).crossing p ↔ _
      rw [mem_crossing_indexSpans]
      show c' ∈ t.crossing p ∨ _ ↔ _
      rw [h.spans, hmem]
      constructor
      · rintro (⟨hin, he⟩ | ⟨rfl, hp⟩)
        · exact ⟨.inl hin, he⟩
        · exact ⟨.inr rfl, d, hd, hp⟩
      · rintro ⟨hin | rfl, d', hd', hp⟩
        · exact .inl ⟨hin, d', hd', hp⟩
        · rw [hd] at hd'
          cases hd'
          exact .inr ⟨rfl, hp⟩

theorem foldl (cs : List Nat) (hcs : ∀ x ∈ cs, x ∈ ids) (h : Scanned s ids done t) (hdone : ∀ x ∈ done, x ∈ ids) :
    Scanned s ids (done ++ cs) (cs.foldl (fun s c => s.scanSlot ids c) t) := by
  induction cs generalizing done t with
  | nil => rwa [List.append_nil]
  | cons c cs ih =>
    obtain ⟨hc, hcs⟩ := List.forall_mem_cons.1 hcs
    have hdone' : ∀ x ∈ done ++ [c], x ∈ ids := by
      intro x hx
      rcases List.mem_append.1 hx with hx | hx
      · exact hdone x hx
      · exact List.mem_singleton.1 hx ▸ hc
    have hall := ih hcs (h.scanSlot hc hdone) hdone'
    rwa [List.append_assoc] at hall

end Scanned

/-- The scan makes every slot's record and both indexes from the store (R171, R172). -/
theorem scanned_scanStore (s : State) : Scanned s (s.defSlots.map (·.1)) (s.defSlots.map (·.1)) s.scanStore := by
  have hempty : Scanned s (s.defSlots.map (·.1)) [] { s.scanProtection with circuits := [], codeMap := [], spanIndex := [] } := by
    obtain ⟨r, lv, e⟩ := s.scanProtection_eq
    rw [e]
    refine ⟨rfl, rfl, fun c => rfl, fun code c => ?_, fun p c => ?_, rfl⟩
    · exact ⟨fun he => absurd he nofun, fun he => absurd he.1 List.not_mem_nil⟩
    · exact ⟨fun he => absurd he List.not_mem_nil, fun he => absurd he.1 List.not_mem_nil⟩
  have hall := hempty.foldl (s.defSlots.map (·.1)) (fun _ hx => hx) nofun
  rw [List.nil_append] at hall
  unfold State.scanStore
  exact hall

theorem indexesFor_scanStore (s : State) : IndexesFor s.scanStore s.scanStore.definitions := by
  have h := scanned_scanStore s
  have hdef : ∀ c, s.scanStore.definitions c =
      if c ∈ s.defSlots.map (·.1) then (s.scannedCircuit (s.defSlots.map (·.1)) c).definition else none := by
    intro c
    rw [State.definitions, h.circuit]
    split <;> rfl
  refine ⟨fun code c => ?_, fun p c => ?_, h.ascending⟩
  · rw [h.codes, hdef]
    split <;> simp_all
  · rw [h.spans, hdef]
    split <;> simp_all

/-! ### The invariant -/

/-- The indexes are exact, and a definition that waits for its commits was checked for its code. -/
def State.indexed (s : State) : Prop := IndexesFor s s.definitions ∧ s.jobChecked = true

theorem jobChecked_congr (h : s.jobChecked = true) (hp : t.processor = s.processor) (hf : t.phase = s.phase)
    (hc : t.codeMap = s.codeMap) : t.jobChecked = true := by
  have hown : ∀ code, t.codeOwner code = s.codeOwner code := fun code => by rw [State.codeOwner, hc]; rfl
  rw [State.jobChecked_iff] at h ⊢
  simp only [hp, hf, hown]
  exact h

theorem State.indexed_congr (h : s.indexed) (hd : t.definitions = s.definitions) (hp : t.processor = s.processor)
    (hf : t.phase = s.phase) (hc : t.codeMap = s.codeMap) (hi : t.spanIndex = s.spanIndex) : t.indexed :=
  ⟨hd ▸ h.1.congr hc hi, jobChecked_congr h.2 hp hf hc⟩

theorem State.definitions_congr (h : t.circuits = s.circuits) : t.definitions = s.definitions := by
  funext c
  rw [State.definitions, State.circuit, h]
  rfl

theorem indexed_queueUnreserved (h : s.indexed) (n : Notice) : (s.queueUnreserved n).indexed := by
  rcases s.queueUnreserved_cases n with ⟨-, e⟩ | ⟨-, e⟩ <;> rw [e] <;> exact State.indexed_congr h rfl rfl rfl rfl rfl

/-- A definition put in place owns its code. -/
theorem codeOwner_putDefinition (id : Nat) (d : Definition) (kind : DefineKind) :
    (s.putDefinition id d kind).codeOwner d.code = some id := by
  unfold State.putDefinition
  exact codeOwner_ownCode_self _ _

/-- Emptying a slot gives no code an owner. -/
theorem codeOwner_emptySlot (id code : Nat) :
    (s.emptySlot id).codeOwner code = none ∨ (s.emptySlot id).codeOwner code = s.codeOwner code := by
  unfold State.emptySlot
  cases (s.circuit id).definition with
  | none => exact .inr rfl
  | some d =>
    by_cases h : code = d.code
    · subst h; exact .inl (codeOwner_disownCode_self _)
    · exact .inr (codeOwner_disownCode_other h)

theorem Move.indexed {p q : Bool} (m : Move p q s t) (h : s.indexed) : t.indexed := by
  cases m with
  | other e =>
    exact State.indexed_congr h (State.definitions_congr (congrArg Tracked.circuits e)) (congrArg Tracked.processor e)
      (congrArg Tracked.phase e) (congrArg Tracked.codeMap e) (congrArg Tracked.spanIndex e)
  | circuit c r hd _ =>
    refine State.indexed_congr h ?_ rfl rfl rfl rfl
    rw [definitions_setCircuit, hd]
    exact Function.update_eq_self ..
  | queueUnreserved n => exact indexed_queueUnreserved h n
  | queueReserved k n =>
    unfold State.queueReserved
    split
    · exact indexed_queueUnreserved h n
    · exact State.indexed_congr h rfl rfl rfl rfl rfl
  | processor x _ hj => exact ⟨h.1.congr rfl rfl, hj h.2⟩
  | slot x => cases x <;> exact State.indexed_congr h rfl rfl rfl rfl rfl
  | definition id d kind _ hjob =>
    obtain ⟨tag, clamped, second, hs⟩ := hjob
    obtain ⟨hcode, hphase⟩ := (State.jobChecked_iff s).1 h.2
    obtain ⟨_, _, _, e⟩ := s.putDefinition_eq id d kind
    have hproc : (s.putDefinition id d kind).processor = s.processor := by rw [e]
    have hph : (s.putDefinition id d kind).phase = s.phase := by rw [e]
    refine ⟨indexesFor_putDefinition h.1 (hcode _ _ _ _ _ _ hs) kind, ?_⟩
    rw [State.jobChecked_iff, hproc, hph]
    refine ⟨fun tag' id' d' kind' clamped' second' e' => ?_, hphase⟩
    rw [hs] at e'
    cases e'
    exact .inr (codeOwner_putDefinition id d kind)
  | emptySlot id _ =>
    obtain ⟨hcode, hphase⟩ := (State.jobChecked_iff s).1 h.2
    obtain ⟨_, _, _, e⟩ := s.emptySlot_eq id
    have hproc : (s.emptySlot id).processor = s.processor := by rw [e]
    have hph : (s.emptySlot id).phase = s.phase := by rw [e]
    refine ⟨indexesFor_emptySlot h.1 id, ?_⟩
    rw [State.jobChecked_iff, hproc, hph]
    refine ⟨fun tag' id' d' kind' clamped' second' e' => ?_, hphase⟩
    rcases codeOwner_emptySlot (s := s) id d'.code with he | he
    · exact .inl he
    · rw [he]
      exact hcode _ _ _ _ _ _ e'
  | baseline c b _ =>
    refine State.indexed_congr h ?_ rfl rfl rfl rfl
    rw [State.modifyCircuit, definitions_setCircuit]
    exact Function.update_eq_self ..
  | _ => exact State.indexed_congr h rfl rfl rfl rfl rfl

theorem Stage.indexed (m : Stage s t) (h : s.indexed) : t.indexed := by
  cases m with
  | move m => exact m.indexed h
  | restart phase cause _ =>
    refine ⟨⟨fun code c => ?_, fun p c => ?_, rfl⟩, ?_⟩
    · exact ⟨fun e => absurd e nofun, fun e => absurd e nofun⟩
    · exact ⟨fun e => absurd e List.not_mem_nil, fun ⟨_, e, _⟩ => absurd e nofun⟩
    · exact (State.jobChecked_iff _).2 ⟨nofun, .inr rfl⟩
  | phase x hx =>
    obtain ⟨hcode, hphase⟩ := (State.jobChecked_iff s).1 h.2
    refine ⟨h.1.congr rfl rfl, (State.jobChecked_iff _).2 ⟨hcode, ?_⟩⟩
    rcases hx with hx | hx
    · exact .inl hx
    · exact .inr (hphase.resolve_left hx)
  | scan hx =>
    have hfree : s.processor = .free := ((State.jobChecked_iff s).1 h.2).2.resolve_left hx
    obtain ⟨_, _, _, _, _, e⟩ := s.scanStore_eq
    have hproc : s.scanStore.processor = .free := by rw [e]; exact hfree
    refine ⟨indexesFor_scanStore s, ?_⟩
    rw [State.jobChecked_iff, hproc]
    exact ⟨nofun, .inr rfl⟩

end

end Sys2Proof.Machine

namespace Sys2Proof.Proofs

open Sys2Proof.Machine

/-- Settles O58: every stage of a step keeps the indexes exact and the waiting definition checked. -/
theorem indexesExactKept : Obligations.IndexesExactKept := by
  intro s t hcodes hspans hasc hjob h
  obtain ⟨hindex, hjob'⟩ :=
    step_keeps (P := State.indexed) Stage.indexed h ⟨indexesFor_definitions.2 ⟨hcodes, hspans, hasc⟩, hjob⟩
  obtain ⟨hcodes', hspans', hasc'⟩ := indexesFor_definitions.1 hindex
  exact ⟨hcodes', hspans', hasc', hjob'⟩

end Sys2Proof.Proofs


/-! # Requests on a ready part: how a handling that only answers ends -/

namespace Sys2Proof.Machine

/-- What the link keeps of a reply and its sending, and the phase: what an answer reads. -/
def State.link (s : State) : Phase × Bool × Processor × List Reply × Transmitter :=
  (s.phase, s.restartReplySent, s.processor, s.replies, s.transmitter)

/-- On a ready part an idle transmitter has no reply to send. -/
theorem State.replies_of_calm {s : State} (h : s.calm = true) : s.transmitter ≠ .idle ∨ s.replies = [] :=
  have ⟨_, _, _, _, _, _, _, _, ht⟩ := s.calm_iff.mp h
  ht.imp_right And.left

theorem State.atRest_of_ready {s : State} (h : s.ready = true) : s.atRest = true :=
  have ⟨_, _, _, _, _, _, _, hr, _⟩ := s.calm_iff.mp (s.ready_iff.mp h).1
  hr

theorem State.calm_of_ready {s : State} (h : s.ready = true) : s.calm = true := (s.ready_iff.mp h).1

/-- Rest is a matter of the looks and the lanes. -/
theorem State.atRest_congr {s t : State} (hlooks : t.looks = s.looks) (hlanes : t.lanes = s.lanes) :
    t.atRest = s.atRest := by
  unfold State.atRest State.lane
  rw [hlooks, hlanes]

section
variable {s t : State} {tag code : U8} {status : Status} {body : ReplyBody}

/-- The transmitter after a short answer on a state with the link of a ready part. -/
theorem State.transmit_answer (h : s.ready = true) (hlink : t.link = s.link) (hshort : body.isLong = false) :
    (t.answer tag code status body).transmit = t.replied tag code status body := by
  obtain ⟨hcalm, hfree, hroom⟩ := s.ready_iff.mp h
  obtain ⟨hphase, -, hsent, -⟩ := s.calm_iff.mp hcalm
  simp only [State.link, Prod.mk.injEq] at hlink
  obtain ⟨hp, hs, hproc, hreplies, htrans⟩ := hlink
  rw [t.answer_room tag code status body (hreplies ▸ hroom)]
  unfold State.transmit State.replied State.withReply
  by_cases hi : t.transmitter = .idle
  · have hnil : t.replies = [] := hreplies.trans ((State.replies_of_calm hcalm).resolve_left fun hn => hn (htrans ▸ hi))
    simp [State.alive, hp, hphase, hs, hsent, hi, hnil, hshort, body.partsAt_short _ hshort, hproc, hfree]
  · simp [hi, hshort, body.partsAt_short _ hshort, hproc, hfree]

/-- The transmitter after a long answer: a free value is taken for its division into parts. -/
theorem State.transmit_answer_long (h : s.ready = true) (hlink : t.link = s.link) (hlong : body.isLong = true) :
    (t.answer tag code .ok body).transmit = t.repliedLong tag code body := by
  obtain ⟨hcalm, hfree, hroom⟩ := s.ready_iff.mp h
  obtain ⟨hphase, -, hsent, -⟩ := s.calm_iff.mp hcalm
  simp only [State.link, Prod.mk.injEq] at hlink
  obtain ⟨hp, hs, hproc, hreplies, htrans⟩ := hlink
  rw [t.answer_room tag code .ok body (hreplies ▸ hroom)]
  unfold State.transmit State.repliedLong State.withReply
  by_cases hi : t.transmitter = .idle
  · have hnil : t.replies = [] := hreplies.trans ((State.replies_of_calm hcalm).resolve_left fun hn => hn (htrans ▸ hi))
    simp [State.alive, hp, hphase, hs, hsent, hi, hnil, hlong, hproc, hfree]
  · simp [hi, hlong, hproc, hfree]

/-- An answer changes neither the looks nor the lanes. -/
theorem State.answer_atRest (hrest : t.atRest = true) : (t.answer tag code status body).atRest = true := by
  rw [← hrest]
  unfold State.answer State.placeReply
  dsimp only
  split <;> exact State.atRest_congr rfl rfl

/-- A short answer on a state at rest with the link of a ready part. -/
theorem State.answer_link (h : s.ready = true) (hlink : t.link = s.link) (hrest : t.atRest = true)
    (hshort : body.isLong = false) :
    (t.answer tag code status body).arbitrate.transmit = t.replied tag code status body := by
  rw [State.arbitrate_atRest _ (State.answer_atRest hrest), State.transmit_answer h hlink hshort]

/-- A short answer on a state with the link of a ready part, where the arbiter finds no work. -/
theorem State.answer_forget (h : s.ready = true) (hlink : t.link = s.link) (hshort : body.isLong = false)
    (harb : (t.answer tag code status body).arbitrate = { t.answer tag code status body with looks := [] }) :
    (t.answer tag code status body).arbitrate.transmit = State.replied { t with looks := [] } tag code status body := by
  have hlink' : State.link { t with looks := [] } = s.link := hlink
  have hanswer : { t.answer tag code status body with looks := [] } =
      State.answer { t with looks := [] } tag code status body := by
    unfold State.answer State.placeReply
    dsimp only
    split <;> rfl
  rw [harb, hanswer, State.transmit_answer h hlink' hshort]

variable {request : Request} {ans : U8}

/-- A request that is answered after a change that leaves the link and the arbiter's rest alone. -/
theorem State.arrive_answer (h : s.ready = true)
    (hh : s.handleRequest tag request = t.answer ans code status body) (hlink : t.link = s.link)
    (hrest : t.atRest = true) (hshort : body.isLong = false) :
    s.arrive tag request = .next (t.replied ans code status body) := by
  rw [s.arrive_ready h, hh, State.answer_link h hlink hrest hshort]

/-- A request whose handling is its answer alone. -/
theorem State.arrive_refused (h : s.ready = true) (hh : s.handleRequest tag request = s.answer ans code status body)
    (hshort : body.isLong = false) : s.arrive tag request = .next (s.replied ans code status body) :=
  State.arrive_answer h hh rfl (State.atRest_of_ready h) hshort

/-- A request that is answered after a change outside the link, the looks and the lanes. -/
theorem State.arrive_changed (h : s.ready = true)
    (hh : s.handleRequest tag request = t.answer ans code status body) (hlink : t.link = s.link)
    (hlooks : t.looks = s.looks) (hlanes : t.lanes = s.lanes) (hshort : body.isLong = false) :
    s.arrive tag request = .next (t.replied ans code status body) :=
  State.arrive_answer h hh hlink ((State.atRest_congr hlooks hlanes).trans (State.atRest_of_ready h)) hshort

/-- A long answer to a request that changes nothing else. -/
theorem State.arrive_long (h : s.ready = true) (hh : s.handleRequest tag request = s.answer tag code .ok body)
    (hlong : body.isLong = true) : s.arrive tag request = .next (s.repliedLong tag code body) := by
  rw [s.arrive_ready h, hh, State.arbitrate_atRest _ (State.answer_atRest (State.atRest_of_ready h)),
    State.transmit_answer_long h rfl hlong]

end

end Sys2Proof.Machine

namespace Sys2Proof.Proofs

open Sys2Proof.Machine

/-- Settles O1. -/
theorem stepTakesFront : Obligations.StepTakesFront :=
  ⟨fun _ _ _ => rfl, fun s h => by rw [step, h]⟩

/-- Settles O3: each handling is its one change and its answer. -/
theorem shortAnswers : Obligations.ShortAnswers :=
  ⟨fun _ _ h => State.arrive_refused h rfl rfl, fun _ _ _ h => State.arrive_changed h rfl rfl rfl rfl rfl,
    fun _ _ h => State.arrive_changed h rfl rfl rfl rfl rfl, fun _ _ h => State.arrive_changed h rfl rfl rfl rfl rfl⟩

/-- Settles O5: the processor refuses before it hands the request to its block. -/
theorem refusedBeforeHandling : Obligations.RefusedBeforeHandling := by
  refine ⟨?_, ?_, ?_, ?_, ?_, ?_, ?_, ?_, ?_, ?_, ?_, ?_, ?_, ?_, ?_, ?_, ?_⟩
  case refine_1 => exact fun _ _ _ h => State.arrive_refused h rfl rfl
  all_goals exact fun _ _ h => State.arrive_refused h rfl rfl

/-- Settles O10: the operations by the lane's state. -/
theorem laneOperations : Obligations.LaneOperations := by
  refine ⟨fun _ => rfl, fun _ => rfl, fun _ => rfl, fun _ => rfl, fun _ _ => rfl, fun r channel n => ?_, fun r => ?_⟩
  · rfl
  · unfold Lane.stop
    cases hr : r.state <;> simp

end Sys2Proof.Proofs


/-! # The arbiter and the lanes: looks that find nothing to give, and one change to every lane -/

namespace Sys2Proof.Machine

/-! ## Looks that find nothing to give -/

section
variable {s : State}

/-- A queue whose lanes are not served gives no work. -/
theorem State.offerQueue_unserved
    (h : ∀ e ∈ s.queue, ∀ l ∈ s.looks, s.laneOf e.circuit = some l → s.served l = false) : s.offerQueue = s := by
  have offers : ∀ (q : List QueueEntry) (done : List LaneId), (∀ e ∈ q, e ∈ s.queue) →
      (q.foldl (State.offerEntry s.looks) (s, done)).1 = s := by
    intro q
    induction q with
    | nil => exact fun _ _ => rfl
    | cons e q ih =>
      intro done hq
      have he : State.offerEntry s.looks (s, done) e = (s, done) := by
        unfold State.offerEntry
        dsimp only
        split
        · next l channel hl hch =>
          by_cases hlook : l ∈ s.looks
          · simp [h e (hq e (by simp)) l hlook hl]
          · simp [hlook]
        · rfl
      rw [List.foldl_cons, he]
      exact ih done fun x hx => hq x (by simp [hx])
  exact offers s.queue [] fun _ he => he

/-- A campaign that is not RUNNING offers no capture. -/
theorem State.askCapture_idle (l : LaneId) (cs : List Nat) (h : s.campaign.state ≠ .running) :
    State.askCapture l cs s = (s, none) := by
  cases cs with
  | nil => rfl
  | cons c cs => rw [State.askCapture, if_pos h]

theorem State.offerCapture_idle (l : LaneId) (h : s.campaign.state ≠ .running) : s.offerCapture l = s := by
  unfold State.offerCapture
  rw [State.askCapture_idle l _ h]
  simp

theorem State.offerCapture_unserved {l : LaneId} (h : s.served l = false) : s.offerCapture l = s := by
  unfold State.offerCapture
  simp [h]

theorem State.offerCapture_queued {l : LaneId} (h : s.hasEntry l = true) : s.offerCapture l = s := by
  unfold State.offerCapture
  simp [h]

/-- Looks change nothing where each lane looked at is offered no capture. -/
theorem State.offerCaptures_none (h : ∀ l ∈ s.looks, s.offerCapture l = s) : s.offerCaptures = s := by
  unfold State.offerCaptures
  have hl : ∀ l ∈ s.lookedAt, s.offerCapture l = s := fun l hl => h l (by simpa [State.lookedAt, allLanes] using hl)
  generalize s.lookedAt = ls at hl
  induction ls with
  | nil => rfl
  | cons l ls ih =>
    rw [List.foldl_cons, hl l (by simp)]
    exact ih fun x hx => hl x (by simp [hx])

/-- The lanes looked at are not served, or find neither an entry nor a campaign that offers work. -/
structure State.NoWork (s : State) : Prop where
  queue : ∀ e ∈ s.queue, ∀ l ∈ s.looks, s.laneOf e.circuit = some l → s.served l = false
  campaign : ∀ l ∈ s.looks, s.served l = false ∨ s.hasEntry l = true ∨ s.campaign.state ≠ .running
  lanes : ∀ l, (s.lane l).tunedAtEnd = false

/-- With no work to give, the arbiter only forgets its looks. -/
theorem State.NoWork.arbitrate (h : s.NoWork) : s.arbitrate = { s with looks := [] } := by
  have hc : ∀ l ∈ s.looks, s.offerCapture l = s := fun l hl =>
    (h.campaign l hl).elim State.offerCapture_unserved fun h =>
      h.elim State.offerCapture_queued (State.offerCapture_idle l)
  rw [State.arbitrate, State.offerQueue_unserved h.queue, State.offerCaptures_none hc]
  exact congrArg (fun t : State => { t with looks := [] }) (State.parkIfIdle_none _ s h.lanes)

/-- No queue entry and no RUNNING campaign. -/
theorem State.noWork_of_idle (hq : s.queue = []) (hc : s.campaign.state ≠ .running)
    (ht : ∀ l, (s.lane l).tunedAtEnd = false) : s.NoWork :=
  ⟨by simp [hq], fun _ _ => .inr (.inr hc), ht⟩

theorem State.served_of_not_ready {l : LaneId} (h : (s.lane l).ready = false) : s.served l = false := by
  simp [State.served, h]

theorem State.not_ready_of_busy (h : s.lanesBusy = true) (l : LaneId) : (s.lane l).ready = false := by
  simpa [State.lanesBusy, allLanes] using List.all_eq_true.mp h l (List.mem_finRange l)

theorem Lane.tunedAtEnd_of_not_ready {r : Lane} (h : r.ready = false) : r.tunedAtEnd = false := by
  simp only [Lane.ready, Bool.or_eq_false_iff] at h
  exact h.2

/-- With no lane ready for work there is none to give. -/
theorem State.noWork_of_busy (h : s.lanesBusy = true) : s.NoWork :=
  have hready := State.not_ready_of_busy h
  ⟨fun _ _ l _ _ => State.served_of_not_ready (hready l), fun l _ => .inl (State.served_of_not_ready (hready l)),
    fun l => Lane.tunedAtEnd_of_not_ready (hready l)⟩

/-- Without looks there is no work to give, where no lane waits at the end of its work. -/
theorem State.noWork_of_atRest (h : s.atRest = true) : s.NoWork :=
  have ⟨hlooks, ht⟩ := s.atRest_iff.mp h
  ⟨by simp [hlooks], by simp [hlooks], ht⟩

/-- The arbiter's work is a matter of these parts. -/
theorem State.NoWork.congr {t : State} (h : s.NoWork) (hq : t.queue = s.queue) (hlooks : t.looks = s.looks)
    (hlanes : t.lanes = s.lanes) (hcircuits : t.circuits = s.circuits) (hcampaign : t.campaign = s.campaign)
    (hprofile : t.profile = s.profile) (hpending : t.pendingProfile = s.pendingProfile) : t.NoWork := by
  have hlane : ∀ l, t.lane l = s.lane l := fun l => by unfold State.lane; rw [hlanes]
  have hlaneOf : ∀ c, t.laneOf c = s.laneOf c := fun c => by unfold State.laneOf State.circuit; rw [hcircuits]
  have hserved : ∀ l, t.served l = s.served l := fun l => by
    unfold State.served State.withheldByLane
    rw [hlane, hprofile, hpending]
  have hentry : ∀ l, t.hasEntry l = s.hasEntry l := fun l => by
    unfold State.hasEntry State.entryOnLane
    simp only [hq, hlaneOf]
  refine ⟨?_, ?_, ?_⟩
  · rw [hq, hlooks]
    simpa only [hlaneOf, hserved] using h.queue
  · rw [hlooks]
    simpa only [hserved, hentry, hcampaign] using h.campaign
  · simpa only [hlane] using h.lanes

/-- An answer is no work. -/
theorem State.NoWork.answer {tag code : U8} {status : Status} {body : ReplyBody} (h : s.NoWork) :
    (s.answer tag code status body).NoWork := by
  unfold State.answer State.placeReply
  dsimp only
  split <;> exact h.congr rfl rfl rfl rfl rfl rfl rfl

/-- A request that is answered after a change of the link of a ready part, which leaves the arbiter no work. -/
theorem State.arrive_forget {t : State} {tag ans code : U8} {request : Request} {status : Status} {body : ReplyBody}
    (h : s.ready = true) (hh : s.handleRequest tag request = t.answer ans code status body) (hlink : t.link = s.link)
    (hshort : body.isLong = false) (hwork : t.NoWork) :
    s.arrive tag request = .next (State.replied { t with looks := [] } ans code status body) := by
  rw [s.arrive_ready h, hh, State.answer_forget h hlink hshort hwork.answer.arbitrate]

/-- The looks made before it make no difference to what is left. -/
theorem State.tunedAtEnd_of_atRest (h : s.atRest = true) (l : LaneId) : (s.lane l).tunedAtEnd = false :=
  (s.atRest_iff.mp h).2 l

theorem State.looks_of_atRest (h : s.atRest = true) : s.looks = [] := (s.atRest_iff.mp h).1

/-- The looks are forgotten already. -/
theorem State.forget_looks (h : s.looks = []) : { s with looks := [] } = s := by rw [← h]

end

/-! ## Free notice entries -/

theorem State.hasFree_iff (s : State) : s.hasFree = true ↔ s.occupied < 32 := decide_eq_true_iff

theorem State.hasFree_eq_false_iff (s : State) : s.hasFree = false ↔ 32 ≤ s.occupied :=
  decide_eq_false_iff_not.trans Nat.not_lt

/-! ## One change to every lane -/

/-- An operation that changes one lane by `g`, whatever the other lanes are, changes every lane by `g`. -/
theorem State.foldl_lanes {s : State} {f : State → LaneId → State} {g : Lane → Lane}
    (hf : ∀ (v : Vector Lane 8) (l : LaneId), f { s with lanes := v } l = { s with lanes := v.set l (g v[l]) }) :
    allLanes.foldl f s = { s with lanes := s.lanes.map g } := by
  have folds : ∀ (ls : List LaneId) (v : Vector Lane 8), ls.Nodup →
      ∃ w : Vector Lane 8, ls.foldl f { s with lanes := v } = { s with lanes := w } ∧
        ∀ l : LaneId, w[l] = if l ∈ ls then g v[l] else v[l] := by
    intro ls
    induction ls with
    | nil => exact fun v _ => ⟨v, rfl, by simp⟩
    | cons a ls ih =>
      intro v hnd
      obtain ⟨ha, hnd⟩ := List.nodup_cons.mp hnd
      obtain ⟨w, hw, hval⟩ := ih (v.set a (g v[a])) hnd
      refine ⟨w, by rw [List.foldl_cons, hf, hw], fun l => ?_⟩
      rw [hval l]
      by_cases hla : l = a
      · subst hla
        simp [ha]
      · have hne : a.val ≠ l.val := fun e => hla (Fin.ext e.symm)
        simp [hla, hne]
  obtain ⟨w, hw, hval⟩ := folds allLanes s.lanes (List.nodup_finRange 8)
  have hmap : w = s.lanes.map g := by
    apply Vector.ext
    intro i hi
    simpa [allLanes] using hval ⟨i, hi⟩
  rw [← hmap]
  exact hw

/-- The run of a lane starts where it is PARKED and due under the profile in force, and no profile is pending. -/
def Lane.startedIfDue (p : Profile) (r : Lane) : Lane :=
  if r.state = .parked ∧ (p.interval ≤ r.age ∨ r.calRequested = true) then r.startRun else r

theorem State.startsRun_iff (s : State) (l : LaneId) :
    s.startsRun l = true ↔ (s.lane l).state = .parked ∧
      (s.profile.interval ≤ (s.lane l).age ∨ (s.lane l).calRequested = true) ∧ s.pendingProfile = none := by
  simp [State.startsRun, Lane.due, and_assoc]

/-- Every due lane starts its run, where no profile is pending. -/
theorem State.startRuns_eq {s : State} (h : s.pendingProfile = none) :
    allLanes.foldl State.startRunIfDue s = { s with lanes := s.lanes.map (Lane.startedIfDue s.profile) } := by
  apply State.foldl_lanes
  intro v l
  unfold State.startRunIfDue
  by_cases hs : State.startsRun { s with lanes := v } l = true
  · have hd := (State.startsRun_iff _ _).mp hs
    rw [if_pos hs]
    have he : Lane.startedIfDue s.profile v[l] = Lane.startRun v[l] := if_pos ⟨hd.1, hd.2.1⟩
    rw [he]
    rfl
  · rw [if_neg hs]
    have he : Lane.startedIfDue s.profile v[l] = v[l] :=
      if_neg fun ⟨hp, hd⟩ => hs ((State.startsRun_iff _ _).mpr ⟨hp, hd, h⟩)
    rw [he]
    exact congrArg (fun w => { s with lanes := w }) (Vector.set_getElem_self l.isLt).symm

end Sys2Proof.Machine


/-! # The requests of the profile and the lanes, and the requests that read -/

namespace Sys2Proof.Machine

/-! ## SET_PROFILE -/

theorem setProfile_takes_iff (f : SetProfileFields) :
    f.takes = true ↔ f.burstLength.toNat ∈ [8, 16, 32, 64] ∧ (f.quietPass = 0 ∨ f.quietPass = 1) := by
  have hflag : (flagOf f.quietPass).isSome = true ↔ f.quietPass = 0 ∨ f.quietPass = 1 := by
    unfold flagOf
    by_cases h0 : f.quietPass = 0
    · simp [h0]
    · by_cases h1 : f.quietPass = 1
      · simp [h1]
      · simp only [h0, h1, if_false, Option.isSome_none, or_self, Bool.false_eq_true]
  rw [← hflag]
  unfold SetProfileFields.takes
  simp only [Bool.and_eq_true, List.contains_iff_mem]

theorem clamp_eq {lo hi : Nat} (v : Nat) (h : lo ≤ hi) : clamp lo hi v = min hi (max lo v) := by
  unfold clamp
  split
  · omega
  · split <;> omega

theorem Lane.settled_iff (r : Lane) : r.settled = true ↔ r.state = .parked ∨ r.state = .faulted := by
  simp [Lane.settled]

theorem State.lanesSettled_iff (s : State) :
    s.lanesSettled = true ↔ ∀ l, (s.lane l).state = .parked ∨ (s.lane l).state = .faulted := by
  simp [State.lanesSettled, allLanes, Lane.settled_iff]

/-- A profile applied at once replaces the one in force and starts the runs that are due under it. -/
theorem State.applyNow_eq {s : State} (p : Profile) (h : s.pendingProfile = none) :
    ∃ ls, s.applyNow p = { s with profile := p, lanes := s.lanes.map (Lane.startedIfDue p), looks := ls } := by
  have hruns : allLanes.foldl State.startRunIfDue { s with profile := p } =
      { s with profile := p, lanes := s.lanes.map (Lane.startedIfDue p) } := State.startRuns_eq h
  unfold State.applyNow
  rw [hruns]
  obtain ⟨ls, hls⟩ := State.lookAtAll_eq { s with profile := p, lanes := s.lanes.map (Lane.startedIfDue p) }
  exact ⟨ls, hls⟩

theorem Lane.startedIfDue_tunedAtEnd {p : Profile} {r : Lane} (h : r.tunedAtEnd = false) :
    (r.startedIfDue p).tunedAtEnd = false := by
  unfold Lane.startedIfDue
  split
  · simp [Lane.tunedAtEnd, Lane.startRun]
  · exact h

/-! ## RECALIBRATE -/

theorem State.lane_setLane_atRest {s : State} {l : LaneId} {r : Lane} (h : s.atRest = true) (hr : r.tunedAtEnd = false) :
    (s.setLane l r).atRest = true := by
  obtain ⟨hlooks, hlanes⟩ := s.atRest_iff.mp h
  refine (State.atRest_iff _).mpr ⟨hlooks, fun j => ?_⟩
  by_cases hj : j = l
  · subst hj
    rwa [State.lane_setLane_self]
  · rw [State.lane_setLane_other s hj]
    exact hlanes j

theorem Lane.startRun_tunedAtEnd (r : Lane) : r.startRun.tunedAtEnd = false := by simp [Lane.tunedAtEnd, Lane.startRun]

theorem State.setLane_setLane (s : State) (l : LaneId) (r r' : Lane) : (s.setLane l r).setLane l r' = s.setLane l r' := by
  simp [State.setLane, Vector.set_set]

theorem State.recalibrate_faulted {s : State} {l : LaneId} (h : (s.lane l).state = .faulted) :
    s.recalibrate l = s.setLane l (Lane.startRun { s.lane l with errorCount := 0 }) := by
  simp [State.recalibrate, h, State.modifyLane]

/-- A PARKED lane starts its run unless a profile is pending. -/
theorem State.recalibrate_parked {s : State} {l : LaneId} (h : (s.lane l).state = .parked) :
    s.recalibrate l =
      s.setLane l (if s.pendingProfile = none then Lane.startRun { s.lane l with calRequested := true }
        else { s.lane l with calRequested := true }) := by
  have hstarts : State.startsRun (s.modifyLane l fun r => { r with calRequested := true }) l = true ↔
      s.pendingProfile = none := by
    rw [State.startsRun_iff]
    simp [h, State.modifyLane]
  unfold State.recalibrate
  rw [h]
  dsimp only
  unfold State.startRunIfDue
  by_cases hp : s.pendingProfile = none
  · rw [if_pos (hstarts.mpr hp), if_pos hp]
    simp [State.modifyLane, State.setLane_setLane]
  · rw [if_neg fun h => hp (hstarts.mp h), if_neg hp]
    rfl

theorem State.recalibrate_other {s : State} {l : LaneId} (hf : (s.lane l).state ≠ .faulted)
    (hp : (s.lane l).state ≠ .parked) : s.recalibrate l = s.setLane l { s.lane l with calRequested := true } := by
  unfold State.recalibrate
  split
  · contradiction
  · contradiction
  all_goals rfl

/-- A RECALIBRATE of a lane answers with the state after it. -/
theorem State.recalibrate_answered {s : State} {tag n : U8} {l : LaneId} {r : Lane} (h : s.ready = true)
    (hn : n.toNat = l.val) (hr : s.recalibrate l = s.setLane l r) (hrest : r.tunedAtEnd = false) :
    exec (.recalibrate tag (.fields n)) s = .next ((s.setLane l r).replied tag 0x13 .ok (.laneState r.state)) := by
  have hl : laneOfNat n.toNat = some l := by simp [laneOfNat, hn]
  have hh : s.handleRequest tag (.recalibrate (.fields n)) =
      (s.setLane l r).answer tag 0x13 .ok (.laneState r.state) := by
    show s.handleRecalibrate tag n = _
    unfold State.handleRecalibrate
    rw [hl]
    dsimp only
    rw [hr, State.lane_setLane_self]
  exact State.arrive_answer h hh rfl (State.lane_setLane_atRest (State.atRest_of_ready h) hrest) rfl

end Sys2Proof.Machine

namespace Sys2Proof.Proofs

open Sys2Proof.Machine

/-- Settles O7: the lanes start their runs, and the arbiter finds neither an entry nor a campaign. -/
theorem profileApplied : Obligations.ProfileApplied := by
  refine ⟨fun s tag f h hlen hquiet hpending hlanes hqueue hcampaign => ?_, fun f => ⟨?_, ?_⟩⟩
  · obtain ⟨ls, happly⟩ := State.applyNow_eq f.profile hpending
    have hh : s.handleRequest tag (.setProfile (.fields f)) =
        (s.applyNow f.profile).answer tag 0x10 (if f.clamped then .adjusted else .ok) (.profileApplied f.profile) := by
      show s.handleSetProfile tag f = _
      simp [State.handleSetProfile, (setProfile_takes_iff f).mpr ⟨hlen, hquiet⟩, hpending, s.lanesSettled_iff.mpr hlanes]
    rw [happly] at hh
    have hrest := State.atRest_of_ready h
    have hwork : State.NoWork { s with
        profile := f.profile, lanes := s.lanes.map (Lane.startedIfDue f.profile), looks := ls } :=
      State.noWork_of_idle hqueue hcampaign fun l => by
        simpa [State.lane] using Lane.startedIfDue_tunedAtEnd (p := f.profile) (State.tunedAtEnd_of_atRest hrest l)
    refine (State.arrive_forget h hh rfl rfl hwork).trans ?_
    rw [← State.looks_of_atRest hrest]
    rfl
  · unfold SetProfileFields.profile
    simp [clamp_eq]
  · simp [SetProfileFields.clamped, SetProfileFields.profile, and_assoc]

/-- Settles O8: the checks of SET_PROFILE in their order. -/
theorem profileMadePending : Obligations.ProfileMadePending := by
  refine ⟨fun s tag f h hbad => ?_, fun s tag f h hlen hquiet hpending => ?_,
    fun s tag f h hlen hquiet hpending ⟨l, hparked, hfaulted⟩ => ?_⟩
  · have htakes : f.takes = false := by
      rw [← Bool.not_eq_true, setProfile_takes_iff f]
      exact hbad
    refine State.arrive_refused h ?_ rfl
    show s.handleSetProfile tag f = _
    simp [State.handleSetProfile, htakes]
  · refine State.arrive_changed (t := { s with pendingProfile := some f.profile }) h ?_ rfl rfl rfl rfl
    show s.handleSetProfile tag f = _
    simp [State.handleSetProfile, (setProfile_takes_iff f).mpr ⟨hlen, hquiet⟩, hpending]
  · have hunsettled : s.lanesSettled = false := by
      rw [← Bool.not_eq_true, s.lanesSettled_iff]
      exact fun hall => (hall l).elim hparked hfaulted
    by_cases hfree : s.occupied < 32
    · rw [if_pos hfree]
      refine State.arrive_changed
        (t := { s with
          pendingProfile := some f.profile
          reserved := { s.reserved with profileApplied := s.reserved.profileApplied + 1 } }) h ?_ rfl rfl rfl rfl
      show s.handleSetProfile tag f = _
      simp [State.handleSetProfile, (setProfile_takes_iff f).mpr ⟨hlen, hquiet⟩, hpending, hunsettled,
        s.hasFree_iff.mpr hfree, State.reserve, ReservedCounts.withCount, ReservedCounts.count]
    · rw [if_neg hfree]
      refine State.arrive_refused h ?_ rfl
      show s.handleSetProfile tag f = _
      simp [State.handleSetProfile, (setProfile_takes_iff f).mpr ⟨hlen, hquiet⟩, hpending, hunsettled,
        s.hasFree_eq_false_iff.mpr (Nat.le_of_not_lt hfree)]

/-- Settles O9, by the lane's state. -/
theorem recalibrateByState : Obligations.RecalibrateByState := by
  refine ⟨fun s tag n h hn => ?_, ?_⟩
  · refine State.arrive_refused h ?_ rfl
    show s.handleRecalibrate tag n = _
    have : laneOfNat n.toNat = none := by simp [laneOfNat, hn]
    simp [State.handleRecalibrate, this]
  · intro s tag n l r h hn
    have hrest := State.tunedAtEnd_of_atRest (State.atRest_of_ready h) l
    by_cases hf : r.state = .faulted
    · rw [if_pos hf]
      exact State.recalibrate_answered h hn (State.recalibrate_faulted hf) (Lane.startRun_tunedAtEnd _)
    · rw [if_neg hf]
      by_cases hp : r.state = .parked
      · have hr := State.recalibrate_parked hp
        by_cases hpending : s.pendingProfile = none
        · rw [if_pos hpending] at hr
          rw [if_pos ⟨hp, hpending⟩]
          exact State.recalibrate_answered h hn hr (Lane.startRun_tunedAtEnd _)
        · rw [if_neg hpending] at hr
          rw [if_neg fun hc => hpending hc.2]
          exact State.recalibrate_answered h hn hr hrest
      · rw [if_neg fun hc => hp hc.1]
        exact State.recalibrate_answered h hn (State.recalibrate_other hf hp) hrest

end Sys2Proof.Proofs


/-! # The requests that read, and the division of a long reply -/

namespace Sys2Proof.Machine

/-! ## The division of a long reply -/

theorem packed_ne_nil (pieces : List (List U8)) (count size : Nat) : packed pieces count size ≠ [] := by
  induction pieces generalizing count size with
  | nil => simp [packed]
  | cons p ps ih =>
    unfold packed
    split
    · exact ih _ _
    · simp

/-- No part of the packed division is longer than its room, with the pieces `held` in the part in hand. -/
theorem packed_fits (pieces held : List (List U8)) (hheld : held.flatten.length ≤ Config.partBytes)
    (hpieces : ∀ p ∈ pieces, p.length ≤ Config.partBytes) :
    ∀ part ∈ dividedBy (packed pieces held.length held.flatten.length) (held ++ pieces),
      part.length ≤ Config.partBytes := by
  induction pieces generalizing held with
  | nil =>
    intro part hpart
    simp only [packed, dividedBy, List.append_nil, List.take_length, List.mem_singleton] at hpart
    rwa [hpart]
  | cons p ps ih =>
    have hps : ∀ x ∈ ps, x.length ≤ Config.partBytes := fun x hx => hpieces x (List.mem_cons_of_mem p hx)
    unfold packed
    split
    · next hfits =>
      have hflat : (held ++ [p]).flatten.length = held.flatten.length + p.length := by simp
      have hnext := ih (held ++ [p]) (by rw [hflat]; exact hfits) hps
      rw [hflat] at hnext
      simpa only [List.length_append, List.length_singleton, List.append_assoc, List.singleton_append] using hnext
    · intro part hpart
      rw [dividedBy, List.take_left, List.drop_left, List.mem_cons] at hpart
      rcases hpart with rfl | hpart
      · exact hheld
      · have hnext := ih [p] (by simpa using hpieces p List.mem_cons_self) hps
        simp only [List.length_singleton, List.flatten_cons, List.flatten_nil, List.append_nil, List.singleton_append]
          at hnext
        exact hnext part hpart

/-- What the parts of a long reply are, whichever division is taken. -/
theorem partsAt_long {b : ReplyBody} {n : Nat} (h : b.isLong = true) (hp : ∀ p ∈ b.pieces, p.length ≤ Config.partBytes) :
    b.partsAt n ≠ [] ∧ (b.partsAt n).sum = b.pieces.length ∧
      ∀ part ∈ dividedBy (b.partsAt n) b.pieces, part.length ≤ Config.partBytes := by
  unfold ReplyBody.partsAt
  rw [if_pos h]
  split
  · next hd =>
    simp only [divides, Bool.and_eq_true, bne_iff_ne, beq_iff_eq, List.all_eq_true, decide_eq_true_eq] at hd
    obtain ⟨⟨⟨hne, -⟩, hsum⟩, hfit⟩ := hd
    exact ⟨hne, hsum, hfit⟩
  · refine ⟨packed_ne_nil _ _ _, by rw [packed_sum]; omega, ?_⟩
    have := packed_fits b.pieces [] (by simp) hp
    simpa using this

theorem Reply.payload_long {r : Reply} {part : Nat} (h : part < r.parts.length) (hp : part < 128) :
    r.payload part =
      [r.code, BitVec.ofNat 8 (if part + 1 = r.parts.length then part + 128 else part)] ++
        (dividedBy r.parts r.body.pieces)[part]?.getD [] := by
  unfold Reply.payload
  split
  · next hnil => simp [hnil] at h
  · have hmod : part % 128 = part := Nat.mod_eq_of_lt hp
    by_cases hlast : part + 1 = r.parts.length <;>
      simp [partByte, hlast, hmod, List.getD_eq_getElem?_getD]

/-! ## What a read reports -/

theorem blockOf_first (b : Nat) : blockOf (16 * b + 1) = b := by
  unfold blockOf
  omega

theorem Region.slotsInside_eq (r : Region) :
    r.slotsInside = 16 * (List.range 32).countP fun b => r.inside (16 * b + 1) := by
  simp only [Region.slotsInside, Region.inside, blockOf_first]

theorem State.levelInForce_eq (s : State) :
    s.levelInForce = if s.overlay then .session else if s.storedLevel = .line then .line else .openLevel := by
  unfold State.levelInForce
  cases s.storedLevel <;> rfl

theorem circuitInRange_iff (c : Nat) : circuitInRange c = true ↔ 1 ≤ c ∧ c ≤ 512 := by
  unfold circuitInRange
  rw [Bool.and_eq_true, decide_eq_true_iff, decide_eq_true_iff]
  rfl

/-- The refusals of a request that reads a circuit, by the id and the slot. -/
theorem State.readRefusal_eq (s : State) (id : Nat) :
    s.readRefusal id =
      if id = 0 ∨ 512 < id then some .badField
      else if (s.circuit id).state = .empty then some .noSuchCircuit
      else if (s.circuit id).state = .unreadable then some .unreadable else none := by
  have hrange : (!circuitInRange id) = true ↔ id = 0 ∨ 512 < id := by
    rw [Bool.not_eq_true', ← Bool.not_eq_true, circuitInRange_iff]
    omega
  unfold State.readRefusal
  simp only [hrange]
  cases (s.circuit id).state <;> rfl

/-- A lane has an entry where one of the queue's circuits is defined on it. -/
theorem State.hasEntry_iff (s : State) (l : LaneId) :
    s.hasEntry l = true ↔ ∃ e ∈ s.queue, (s.circuit e.circuit).definition.map (·.lane) = some l := by
  simp [State.hasEntry, State.entryOnLane, State.laneOf]

/-- Why work is withheld from a lane that does not wait at the end of its work. -/
theorem State.withheld_eq (s : State) (l : LaneId) (h : (s.lane l).tunedAtEnd = false) :
    s.withheld l =
      if s.pendingProfile.isSome = true then .profilePending
      else if (s.lane l).state = .calibrating then .calibrating
      else if (s.lane l).state ≠ .faulted ∧
          (s.profile.interval ≤ (s.lane l).age ∨ (s.lane l).calRequested = true) then .due
      else if ((s.lane l).state = .parked ∨ (s.lane l).state = .faulted) ∧ 32 ≤ s.occupied ∧
          (∃ e ∈ s.queue, (s.circuit e.circuit).definition.map (·.lane) = some l) then .noNoticeEntry
      else .none := by
  have hready : ((s.lane l).ready && s.hasEntry l && !s.hasFree) = true ↔
      ((s.lane l).state = .parked ∨ (s.lane l).state = .faulted) ∧ 32 ≤ s.occupied ∧
        ∃ e ∈ s.queue, (s.circuit e.circuit).definition.map (·.lane) = some l := by
    rw [← s.hasEntry_iff l, ← s.hasFree_eq_false_iff]
    simp only [Lane.ready, h, Bool.or_false, Bool.and_eq_true, Bool.or_eq_true, beq_iff_eq, Bool.not_eq_true', and_assoc]
    tauto
  have hdue : (s.lane l).due s.profile = true ↔
      s.profile.interval ≤ (s.lane l).age ∨ (s.lane l).calRequested = true := by simp [Lane.due]
  unfold State.withheld State.withheldByLane
  simp only [beq_iff_eq]
  by_cases hpending : s.pendingProfile.isSome = true
  · simp [hpending]
  · by_cases hfaulted : (s.lane l).state = .faulted
    · simp [hpending, hfaulted, hready]
    · by_cases hcal : (s.lane l).state = .calibrating
      · simp [hpending, hcal]
      · by_cases hd : s.profile.interval ≤ (s.lane l).age ∨ (s.lane l).calRequested = true
        · simp [hpending, hfaulted, hcal, hdue, hd]
        · simp [hpending, hfaulted, hcal, hdue, hd, hready]

end Sys2Proof.Machine

namespace Sys2Proof.Proofs

open Sys2Proof.Machine

/-- Settles O4: each handling is its answer alone; a report's fields are those of the record. -/
theorem readsReport : Obligations.ReadsReport := by
  refine ⟨fun _ _ h => State.arrive_refused h rfl rfl, fun _ _ h => State.arrive_refused h rfl rfl,
    fun s tag h => ?_, fun _ _ h => State.arrive_refused h rfl rfl, ?_, fun s tag h => ?_,
    fun _ _ h => State.arrive_long h rfl rfl, fun _ _ h => State.arrive_long h rfl rfl, ?_,
    fun _ _ h hp => Reply.payload_long h hp⟩
  · rw [← s.levelInForce_eq, ← s.region.slotsInside_eq]
    exact State.arrive_refused h rfl rfl
  · intro s tag id r h
    have hh : s.handleRequest tag (.getCircuit (.fields id)) = match s.readRefusal id.toNat with
        | some status => s.answer tag 0x23 status .none
        | none => s.answer tag 0x23 .ok (.circuit (s.circuitReport id.toNat)) := by
      show s.handleGetCircuit tag id = _
      unfold State.handleGetCircuit
      cases s.readRefusal id.toNat <;> rfl
    rw [s.readRefusal_eq id.toNat] at hh
    by_cases hrange : id.toNat = 0 ∨ 512 < id.toNat
    · rw [if_pos hrange] at hh ⊢
      exact State.arrive_refused h hh rfl
    · rw [if_neg hrange] at hh ⊢
      by_cases hempty : r.state = .empty
      · rw [if_pos hempty] at hh ⊢
        exact State.arrive_refused h hh rfl
      · rw [if_neg hempty] at hh ⊢
        by_cases hbad : r.state = .unreadable
        · rw [if_pos hbad] at hh ⊢
          exact State.arrive_refused h hh rfl
        · rw [if_neg hbad] at hh ⊢
          exact State.arrive_refused h hh rfl
  · have hreport : ∀ l, s.withheld l = _ := fun l =>
      s.withheld_eq l (State.tunedAtEnd_of_atRest (State.atRest_of_ready h) l)
    simp only [← hreport]
    exact State.arrive_long h rfl rfl
  · intro b n hlong hp ns
    obtain ⟨hne, hsum, hfit⟩ := partsAt_long hlong hp
    exact ⟨hne, hsum, dividedBy_length _ _, dividedBy_flatten _ _ hsum.ge, hfit⟩

end Sys2Proof.Proofs


/-! # Events on a calm part: the line, the clock, the head, and the end of a frame -/

namespace Sys2Proof.Machine

section
variable {s t : State}

/-! ## The end of a command that leaves nothing to do -/

/-- A part at rest with no request and nothing for an idle transmitter to send has nothing to settle. -/
theorem State.settle_quiet (hrest : s.atRest = true) (hq : s.requestQueue = [])
    (ht : s.transmitter ≠ .idle ∨ (s.replies = [] ∧ s.notices = [])) : s.settle = s := by
  rw [State.settle, s.arbitrate_atRest hrest, s.takeRequests_none hq, s.transmit_quiet ht]

/-- What the end of a command reads of a part, but for the lanes. -/
def State.sending (s : State) : List LaneId × List QueuedRequest × Transmitter × List Reply × List Notice :=
  (s.looks, s.requestQueue, s.transmitter, s.replies, s.notices)

/-- A calm part that an event leaves with the same looks, requests and frames to send, and no lane at the end of its work,
has nothing to settle. -/
theorem State.settle_of_sending (h : s.calm = true) (hsend : t.sending = s.sending)
    (hlanes : ∀ l, (t.lane l).tunedAtEnd = false) : t.settle = t := by
  obtain ⟨-, -, -, hq, -, -, -, hrest, ht⟩ := s.calm_iff.mp h
  simp only [State.sending, Prod.mk.injEq] at hsend
  obtain ⟨hlooks, hrequests, htrans, hreplies, hnotices⟩ := hsend
  exact State.settle_quiet ((State.atRest_iff t).mpr ⟨hlooks.trans (State.looks_of_atRest hrest), hlanes⟩)
    (hrequests.trans hq) (by rwa [htrans, hreplies, hnotices])

theorem State.tunedAtEnd_of_calm (h : s.calm = true) (l : LaneId) : (s.lane l).tunedAtEnd = false :=
  have ⟨_, _, _, _, _, _, _, hrest, _⟩ := s.calm_iff.mp h
  State.tunedAtEnd_of_atRest hrest l

/-- An event of a calm part that leaves the lanes, the looks, the requests and the frames to send alone. -/
theorem State.whenAlive_sending {f : State → State} (h : s.calm = true) (hsend : (f s).sending = s.sending)
    (hlanes : (f s).lanes = s.lanes) : s.whenAlive f = f s := by
  rw [s.whenAlive_calm h]
  refine State.settle_of_sending h hsend fun l => ?_
  have := State.tunedAtEnd_of_calm h l
  rwa [State.lane, hlanes]

theorem State.tunedAtEnd_setLane {l : LaneId} {r : Lane} (h : s.calm = true) (hr : r.tunedAtEnd = false) (j : LaneId) :
    ((s.setLane l r).lane j).tunedAtEnd = false := by
  by_cases hj : j = l
  · subst hj
    rwa [State.lane_setLane_self]
  · rw [State.lane_setLane_other s hj]
    exact State.tunedAtEnd_of_calm h j

/-- An event of a calm part that changes one lane, which is not at the end of its work. -/
theorem State.whenAlive_setLane {f : State → State} {l : LaneId} {r : Lane} (h : s.calm = true)
    (hf : f s = s.setLane l r) (hr : r.tunedAtEnd = false) : s.whenAlive f = s.setLane l r := by
  rw [s.whenAlive_calm h, hf]
  exact State.settle_of_sending h rfl (State.tunedAtEnd_setLane h hr)

theorem State.setLane_lane (s : State) (l : LaneId) : s.setLane l (s.lane l) = s :=
  congrArg (fun v => { s with lanes := v }) (Vector.set_getElem_self l.isLt)

/-- An event of a calm part that changes nothing. -/
theorem State.whenAlive_same {f : State → State} (h : s.calm = true) (hf : f s = s) : s.whenAlive f = s := by
  rw [s.whenAlive_calm h, hf, s.settle_calm h]

/-- A live part without a restart, a frame, an expiry or a reference run due has no step due. -/
theorem State.takeDue_same (halive : s.alive = true) (hrestart : s.restartDue = false) (hframe : s.completeFrame = none)
    (hexpiry : s.expiryDue = false) (hcal : ∀ l, s.calibrationIsDue l = false) : s.takeDue = s := by
  have hexpire : s.judge.expire = s := by simp [State.judge, hframe, State.expire, hexpiry]
  unfold State.takeDue
  rw [hrestart, halive, hexpire]
  simp only [Bool.false_eq_true, if_false, if_true]
  generalize allLanes = ls
  induction ls with
  | nil => rfl
  | cons l ls ih => rwa [List.foldl_cons, State.calibrate, hcal l]

/-- A processor that takes no request takes none. -/
theorem State.takeRequests_refused (h : s.takesRequests = false) : s.takeRequests = s := by
  unfold State.takeRequests
  cases s.requestQueue.length with
  | zero => rfl
  | succ n => simp [State.pump, h]

/-! ## The transmit arbiter, once it chooses -/

/-- The choice of the next frame by an idle transmitter (R184, R185). -/
theorem State.transmit_idle (hi : s.transmitter = .idle) (ha : s.alive = true) (hsent : s.restartReplySent = false) :
    s.transmit =
      match s.replies with
      | _ :: _ => { s with transmitter := .reply 0 }
      | [] =>
        match s.notices with
        | [] => s
        | n :: ns => { s with notices := ns, transmitter := .notice n s.discarded, discarded := false } := by
  unfold State.transmit
  exact if_pos ⟨hi, ha, hsent⟩

/-- The transmitter chooses the next frame of a running part at rest without requests. -/
theorem State.settle_rest (hrest : s.atRest = true) (hq : s.requestQueue = []) : s.settle = s.transmit := by
  rw [State.settle, s.arbitrate_atRest hrest, s.takeRequests_none hq]

end

/-! ## The receiver -/

theorem toNat_append_byte (high low : U8) : (high ++ low).toNat = low.toNat + 256 * high.toNat := by
  rw [BitVec.toNat_append, Nat.shiftLeft_eq, mul_comm, ← Nat.two_pow_add_eq_or_of_lt low.isLt]
  omega

theorem u16At_two (b₀ b₁ : U8) : (u16At [b₀, b₁] 0).toNat = b₀.toNat + 256 * b₁.toNat := toNat_append_byte b₁ b₀

theorem lengthInRange_iff (n : Nat) : lengthInRange n = true ↔ 3 ≤ n ∧ n ≤ 1021 := by simp [lengthInRange]

/-! ## The head's messages -/

theorem Lane.settle_tunedAtEnd {r : Lane} (h : r.tunedAtEnd = false) : r.settle.tunedAtEnd = false := by
  unfold Lane.settle
  cases hr : r.state
  case tuning =>
    simp only
    split <;> simp [Lane.tunedAtEnd, Lane.park, Lane.burst, Lane.atPhase]
  case calibrating =>
    simp only
    split
    · simp [Lane.tunedAtEnd, Lane.referenceBurst, hr]
    · exact h
  all_goals exact h

theorem Work.purpose_of_working {w : Work} {purpose : Purpose}
    (h : (∃ c, w = .verification c ∧ purpose = .attempt) ∨ (∃ c, w = .capture c ∧ purpose = .capture)) :
    w.purpose = purpose ∧ w ≠ .none := by
  rcases h with ⟨c, rfl, rfl⟩ | ⟨c, rfl, rfl⟩
  · exact ⟨rfl, by simp⟩
  · exact ⟨rfl, by simp⟩

end Sys2Proof.Machine

namespace Sys2Proof.Proofs

open Sys2Proof.Machine

/-- Settles O30: no event of the line leaves anything to settle. -/
theorem lineEvents : Obligations.LineEvents := by
  refine ⟨fun s b h => congrArg Host.Outcome.next (State.whenAlive_sending h rfl rfl),
    fun s h => congrArg Host.Outcome.next (State.whenAlive_sending h rfl rfl),
    fun s h => congrArg Host.Outcome.next (State.whenAlive_sending h rfl rfl),
    fun s asserted h => ?_, fun s high h => ?_, fun b => rfl, fun b₀ b₁ => ⟨rfl, ?_⟩, fun n bytes b => ?_⟩
  · show Host.Outcome.next { s.takeDue with refLock := asserted } = _
    rw [s.takeDue_calm h]
  · show Host.Outcome.next { s.takeDue with rateStrap := high } = _
    rw [s.takeDue_calm h]
  · show (if lengthInRange (u16At [b₀, b₁] 0).toNat then Receiver.body (u16At [b₀, b₁] 0).toNat [b₀, b₁] else .hunting,
      _) = _
    rw [u16At_two]
    simp only [lengthInRange_iff]
  · have hlen : (bytes ++ [b]).length < n + 4 ↔ bytes.length + 1 < 2 + n + 2 := by simp; omega
    simp only [Receiver.take, hlen]

/-- Settles O33: the tick leaves nothing to settle; what then falls due is a step of its own. -/
theorem tickCounts : Obligations.TickCounts := by
  intro s h hclock
  have hlanes : ∀ t : State, allLanes.foldl
      (fun s l => s.modifyLane l fun r => { r with age := min Config.maxAge (r.age + 1) }) t =
        { t with lanes := t.lanes.map fun r => { r with age := min 65535 (r.age + 1) } } :=
    fun t => State.foldl_lanes fun v l => rfl
  have hmod : (s.clock + 1) % 4294967296 = if s.clock + 1 = 4294967296 then 0 else s.clock + 1 := by
    split
    · next he => rw [he, Nat.mod_self]
    · exact Nat.mod_eq_of_lt (by omega)
  have htick : s.tick = { s with
      clock := if s.clock + 1 = 4294967296 then 0 else s.clock + 1
      stack := s.stack.map fun w => { w with remaining := w.remaining - 1 }
      lanes := s.lanes.map fun r => { r with age := min 65535 (r.age + 1) } } := by
    unfold State.tick
    rw [hlanes, ← hmod]
    rfl
  show Host.Outcome.next (s.whenAlive State.tick) = _
  rw [s.whenAlive_calm h, htick]
  refine congrArg Host.Outcome.next (State.settle_of_sending h ?_ fun l => ?_)
  · rfl
  simpa [State.lane, Lane.tunedAtEnd] using State.tunedAtEnd_of_calm h l

/-- Settles O35. -/
theorem calibrationStarts : Obligations.CalibrationStarts := by
  refine ⟨fun s l hphase hparked hdue hpending hcalm => ?_, fun s l h => ?_⟩
  · have hstarts : s.startsRun l = true := (s.startsRun_iff l).mpr ⟨hparked, hdue, hpending⟩
    show Host.Outcome.next (s.calibrate l) = _
    rw [State.calibrate, if_pos (by simp [State.calibrationIsDue, hphase, hstarts]), State.startRunIfDue, if_pos hstarts]
    exact congrArg Host.Outcome.next (State.settle_calm _ hcalm)
  · obtain ⟨-, -, -, -, -, -, hstarts, -, -⟩ := s.calm_iff.mp h
    show Host.Outcome.next (s.calibrate l) = _
    rw [State.calibrate, if_neg (by simp [State.calibrationIsDue, hstarts l])]

/-- Settles O36, by the lane's state. -/
theorem headMessages : Obligations.HeadMessages := by
  refine ⟨fun s l h => ?_, fun s l x h hstate hlen => ?_, fun s l x purpose h hstate hlen hwork => ?_,
    fun s l x h hstate hlen => ?_, fun s l x h hmeasuring hburst => ?_⟩
  · have hsettled : s.whenAlive (fun s => s.modifyLane l Lane.settle) = s.setLane l (s.lane l).settle :=
      State.whenAlive_setLane h rfl (Lane.settle_tunedAtEnd (State.tunedAtEnd_of_calm h l))
    show Host.Outcome.next (s.whenAlive fun s => s.modifyLane l Lane.settle) = _
    rw [hsettled]
    unfold Lane.settle
    cases hr : (s.lane l).state
    case tuning =>
      simp only
      split <;> rfl
    case calibrating =>
      simp only
      split
      · rfl
      · rw [s.setLane_lane l]
    all_goals exact congrArg Host.Outcome.next (s.setLane_lane l)
  · have hlen' : ((s.lane l).samples ++ [x]).length < (s.lane l).burstLength := by simpa using hlen
    refine congrArg Host.Outcome.next (State.whenAlive_setLane h ?_ ?_)
    · unfold State.modifyLane Lane.takeSample
      rcases hstate with hm | ⟨hc, hb⟩
      · simp [hm, hlen]
      · simp [hc, hb, hlen]
    · rcases hstate with hm | ⟨hc, hb⟩
      · simp [Lane.tunedAtEnd, hm]
      · simp [Lane.tunedAtEnd, hc]
  · obtain ⟨hpurpose, hnone⟩ := Work.purpose_of_working hwork
    refine congrArg Host.Outcome.next (State.whenAlive_setLane h ?_ ?_)
    · unfold State.modifyLane Lane.takeSample
      simp [hstate, Nat.not_lt.mpr hlen, Lane.completeBurst, Lane.atPhase, Lane.handOver, hpurpose]
    · simpa [Lane.tunedAtEnd] using hnone
  · obtain ⟨hcal, hburst⟩ := hstate
    refine congrArg Host.Outcome.next (State.whenAlive_setLane h ?_ ?_)
    · unfold State.modifyLane Lane.takeSample
      simp [hcal, hburst, Nat.not_lt.mpr hlen, Lane.completeReference, Lane.handOver]
    · simp [Lane.tunedAtEnd, hcal]
  · have hsame : (s.lane l).takeSample s.profile.floor x = s.lane l := by
      unfold Lane.takeSample
      cases hr : (s.lane l).state
      case measuring => exact absurd hr hmeasuring
      case calibrating => simp only [if_neg fun hb => hburst ⟨hr, hb⟩]
      all_goals rfl
    refine congrArg Host.Outcome.next (State.whenAlive_same h ?_)
    show s.setLane l ((s.lane l).takeSample s.profile.floor x) = s
    rw [hsame, s.setLane_lane l]

/-- Settles O31: a good frame is its request command, offered to the same queue. -/
theorem frameReceivedJudged : Obligations.FrameReceivedJudged := by
  refine ⟨fun s ha hf => ?_, fun s bytes ha hf hbad => ?_, fun s bytes c hcalm hf hcheck hclass hreq => ?_⟩
  · show Host.Outcome.next (if s.alive then s.judge else s) = _
    rw [if_pos ha, State.judge, hf]
  · have hj : judgeFrame bytes = none := if_neg fun ⟨hc, hk⟩ => hbad.elim (absurd hc) (absurd hk)
    show Host.Outcome.next (if s.alive then s.judge else s) = _
    rw [if_pos ha, State.judge, hf]
    simp only [hj]
  · have ha : s.alive = true := State.alive_calm { s with completeFrame := none } hcalm
    have hj : judgeFrame bytes =
        some ⟨u8At bytes 4, requestOf (u8At bytes 3) ((bytes.take (bytes.length - 2)).drop 5)⟩ :=
      if_pos ⟨hcheck, hclass⟩
    show Host.Outcome.next (if s.alive then s.judge else s) = _
    rw [if_pos ha, State.judge, hf, exec_of_asRequest hreq, State.whenAlive_calm _ hcalm]
    simp only [hj]

/-- Settles O6: nothing is due, no request is taken and no frame is begun. -/
theorem requestWaits : Obligations.RequestWaits := by
  intro s cmd q hreq h
  simp only [State.waits, Bool.and_eq_true, Bool.not_eq_true', Option.isNone_iff_eq_none, List.all_eq_true,
    bne_iff_ne] at h
  obtain ⟨⟨⟨⟨⟨⟨⟨halive, hrestart⟩, htakes⟩, hframe⟩, hexpiry⟩, hcal⟩, hrest⟩, hbusy⟩ := h
  have hdue : s.takeDue = s := State.takeDue_same halive hrestart hframe hexpiry fun l => hcal l (List.mem_finRange l)
  have hsettle : ∀ t : State, t.looks = s.looks → t.lanes = s.lanes → t.takesRequests = s.takesRequests →
      t.transmitter = s.transmitter → t.settle = t := by
    intro t hlooks hlanes ht htrans
    rw [State.settle, t.arbitrate_atRest ((State.atRest_congr hlooks hlanes).trans hrest),
      State.takeRequests_refused (ht.trans htakes), t.transmit_quiet (.inl (by rwa [htrans]))]
  rw [exec_of_asRequest hreq, State.whenAlive, hdue, if_pos halive]
  refine congrArg Host.Outcome.next ?_
  show State.settle (if s.requestQueue.length < 8 then { s with requestQueue := s.requestQueue ++ [q] }
    else if s.replies.length < 8 then { s with replies := s.replies ++ [⟨q.tag, q.request.code, .busy, .none, []⟩] }
    else s) = _
  split
  · exact hsettle _ rfl rfl rfl rfl
  · split <;> exact hsettle _ rfl rfl rfl rfl

end Sys2Proof.Proofs


/-! # The end of a frame -/

namespace Sys2Proof.Machine

section
variable {s t : State}

theorem State.alive_of_running (h : s.phase = .running) : s.alive = true := by simp [State.alive, h]

theorem State.whenAlive_rest {f : State → State} (h : s.calm = true) (hlooks : (f s).looks = s.looks)
    (hlanes : (f s).lanes = s.lanes) (hq : (f s).requestQueue = s.requestQueue) :
    s.whenAlive f = (f s).transmit := by
  obtain ⟨-, -, -, hrequests, -, -, -, hrest, -⟩ := s.calm_iff.mp h
  rw [s.whenAlive_calm h, State.settle_rest ((State.atRest_congr hlooks hlanes).trans hrest) (hq.trans hrequests)]

/-- The part after the last of a reply: the reply leaves the list. -/
theorem State.endReplyPart_last {part : Nat} {r : Reply} {rest : List Reply} (hr : s.replies = r :: rest)
    (hlast : r.parts.length ≤ part + 1) :
    s.endReplyPart part = State.placeWaiting
      { s with
        replies := rest, transmitter := .idle
        restartReplySent := s.restartReplySent || (s.restartTaken && r.isRestart) } := by
  rw [State.endReplyPart, hr]
  exact if_neg (Nat.not_lt.mpr hlast)

theorem State.placeWaiting_none (h : (match s.processor with | .replying _ => false | _ => true) = true) :
    s.placeWaiting = s := by
  unfold State.placeWaiting
  split
  · next hp => simp [hp] at h
  · rfl
  · rfl

/-- The arbiter told that an entry is free finds no work with no lane ready, or with nothing queued. -/
theorem State.arbitrate_told (hrest : s.atRest = true) (h : s.lanesBusy = true ∨ s.queue = []) :
    s.lookAtWaiting.arbitrate = s := by
  have hforget := State.forget_looks (State.looks_of_atRest hrest)
  rcases h with hbusy | hempty
  · obtain ⟨ls, hls⟩ := s.lookAtWaiting_eq
    have hwork : State.NoWork { s with looks := ls } := State.noWork_of_busy hbusy
    rw [hls, hwork.arbitrate]
    exact hforget
  · have hsame : s.lookAtWaiting = s := by
      unfold State.lookAtWaiting
      rw [hempty]
      rfl
    rw [hsame, s.arbitrate_atRest hrest]

end

end Sys2Proof.Machine

namespace Sys2Proof.Proofs

open Sys2Proof.Machine

/-- Settles O32: the frame in hand ends, and the transmitter chooses again. -/
theorem frameSent : Obligations.FrameSent := by
  refine ⟨fun s h hi => ?_, fun s part r rest h ht hr hpart => ?_, fun s part r rest h ht hr hlast hproc => ?_,
    fun s part r r' rest h ht hr hlast hroom hproc => ?_, fun s n mark h ht hwork => ?_,
    fun s part r rest hrestart h ht hr hlast hown hproc => ?_⟩
  · refine congrArg Host.Outcome.next (State.whenAlive_same h ?_)
    rw [State.endFrame, hi]
  · have hend : s.endFrame = { s with transmitter := .reply (part + 1) } := by
      rw [State.endFrame, ht]
      show s.endReplyPart part = _
      rw [State.endReplyPart, hr]
      exact if_pos hpart
    show Host.Outcome.next (s.whenAlive State.endFrame) = _
    rw [State.whenAlive_rest h (by rw [hend]) (by rw [hend]) (by rw [hend]), hend]
    refine congrArg Host.Outcome.next (State.transmit_quiet _ (.inl ?_))
    simp
  · obtain ⟨hphase, htaken, hsent, -⟩ := s.calm_iff.mp h
    have hend : s.endFrame = { s with replies := rest, transmitter := .idle } := by
      rw [State.endFrame, ht]
      show s.endReplyPart part = _
      have hflag : (s.restartReplySent || (s.restartTaken && r.isRestart)) = s.restartReplySent := by simp [htaken]
      rw [State.endReplyPart_last hr hlast, hflag]
      exact State.placeWaiting_none hproc
    show Host.Outcome.next (s.whenAlive State.endFrame) = _
    rw [State.whenAlive_rest h (by rw [hend]) (by rw [hend]) (by rw [hend]), hend]
    refine congrArg Host.Outcome.next ?_
    refine (State.transmit_idle ?_ (State.alive_of_running ?_) ?_).trans ?_
    · rfl
    · exact hphase
    · exact hsent
    · rfl
  · obtain ⟨hphase, htaken, hsent, -⟩ := s.calm_iff.mp h
    have hend : s.endFrame = { s with replies := rest ++ [r'], processor := .free, transmitter := .idle } := by
      rw [State.endFrame, ht]
      show s.endReplyPart part = _
      have hflag : (s.restartReplySent || (s.restartTaken && r.isRestart)) = s.restartReplySent := by simp [htaken]
      rw [State.endReplyPart_last hr hlast, hflag, State.placeWaiting]
      simp only [hproc]
      exact if_pos hroom
    show Host.Outcome.next (s.whenAlive State.endFrame) = _
    rw [State.whenAlive_rest h (by rw [hend]) (by rw [hend]) (by rw [hend]), hend]
    refine congrArg Host.Outcome.next ?_
    refine (State.transmit_idle ?_ (State.alive_of_running ?_) ?_).trans ?_
    · rfl
    · exact hphase
    · exact hsent
    · cases rest <;> rfl
  · obtain ⟨hphase, htaken, hsent, hrequests, -, -, -, hrest, -⟩ := s.calm_iff.mp h
    have hend : s.endFrame = State.lookAtWaiting { s with transmitter := .idle } := by
      rw [State.endFrame, ht]
    show Host.Outcome.next (s.whenAlive State.endFrame) = _
    rw [s.whenAlive_calm h, hend, State.settle,
      State.arbitrate_told (s := { s with transmitter := .idle }) hrest hwork,
      State.takeRequests_none { s with transmitter := .idle } hrequests]
    refine congrArg Host.Outcome.next ?_
    refine (State.transmit_idle ?_ (State.alive_of_running ?_) ?_).trans ?_
    · rfl
    · exact hphase
    · exact hsent
    · rfl
  · obtain ⟨htaken, hsent⟩ := hrestart
    obtain ⟨hphase, -, -, -, hframe, hexpiry, hstarts, hrest, -⟩ := (State.calm_iff _).mp h
    have halive : s.alive = true := State.alive_of_running hphase
    have hdue : s.takeDue = s := State.takeDue_same halive (by simp [State.restartDue, hsent]) hframe
      hexpiry fun l => by
        have : s.startsRun l = false := hstarts l
        simp [State.calibrationIsDue, this]
    have hend : s.endFrame = { s with replies := rest, transmitter := .idle, restartReplySent := true } := by
      rw [State.endFrame, ht]
      show s.endReplyPart part = _
      have hflag : (s.restartReplySent || (s.restartTaken && r.isRestart)) = true := by
        simp [htaken, Reply.isRestart, hown]
      rw [State.endReplyPart_last hr hlast, hflag]
      exact State.placeWaiting_none (by simp [hproc])
    have hsettle : State.settle { s with replies := rest, transmitter := .idle, restartReplySent := true } =
        { s with replies := rest, transmitter := .idle, restartReplySent := true } := by
      have hrest' : State.atRest { s with replies := rest, transmitter := .idle, restartReplySent := true } = true := hrest
      rw [State.settle, State.arbitrate_atRest _ hrest', State.takeRequests_refused (by simp [State.takesRequests, htaken])]
      exact if_neg (by simp)
    show Host.Outcome.next (s.whenAlive State.endFrame) = _
    rw [State.whenAlive, hdue, if_pos halive, hend, hsettle]

end Sys2Proof.Proofs


/-! # The measurement unit: the reduction of a burst, the capture arithmetic, and the class of an attempt -/

namespace Sys2Proof.Machine

/-! ## Choosing from a list by a fold -/

section
variable {α : Type} {f : α → α → α}

/-- A fold that keeps one of two ends with a member of the list. -/
theorem foldl_mem_of_choice (hf : ∀ a b, f a b = a ∨ f a b = b) (a : α) (l : List α) : l.foldl f a ∈ a :: l := by
  induction l generalizing a with
  | nil => simp
  | cons b l ih =>
    rw [List.foldl_cons]
    have h := ih (f a b)
    rw [List.mem_cons] at h ⊢
    rcases hf a b with he | he
    · rw [he] at h ⊢
      exact h.imp_right (List.mem_cons_of_mem b)
    · rw [he] at h ⊢
      exact .inr (List.mem_cons.mpr h)

/-- A fold that keeps the better of two ends with the best. -/
theorem rel_foldl_of_choice {r : α → α → Prop} (hrefl : ∀ a, r a a) (htrans : ∀ {a b c}, r a b → r b c → r a c)
    (hl : ∀ a b, r a (f a b)) (hr : ∀ a b, r b (f a b)) (a : α) (l : List α) : ∀ x ∈ a :: l, r x (l.foldl f a) := by
  induction l generalizing a with
  | nil =>
    intro x hx
    rw [List.mem_singleton.mp hx]
    exact hrefl a
  | cons b l ih =>
    intro x hx
    have h := ih (f a b)
    rw [List.foldl_cons]
    have hbest : r (f a b) (l.foldl f (f a b)) := h _ List.mem_cons_self
    rcases List.mem_cons.mp hx with rfl | hx
    · exact htrans (hl _ b) hbest
    · rcases List.mem_cons.mp hx with rfl | hx
      · exact htrans (hr a _) hbest
      · exact h x (List.mem_cons_of_mem _ hx)

end

/-! ## Means with ties up -/

theorem sum_le_length_mul {l : List Nat} {b : Nat} (h : ∀ x ∈ l, x ≤ b) : l.sum ≤ l.length * b := by
  simpa using List.sum_le_card_nsmul l b h

/-- The mean of an even number of values is the nearest integer. -/
theorem mean_nearest {sum h : Nat} (hpos : 0 < h) :
    2 * (2 * h) * ((sum + 2 * h / 2) / (2 * h)) ≤ 2 * sum + 2 * h ∧
      2 * sum + 2 * h < 2 * (2 * h) * ((sum + 2 * h / 2) / (2 * h) + 1) := by
  have hhalf : 2 * h / 2 = h := by omega
  rw [hhalf]
  have hlow := Nat.mul_div_le (sum + h) (2 * h)
  have hhigh := Nat.lt_mul_div_succ (sum + h) (show 0 < 2 * h by omega)
  constructor <;> nlinarith

/-- A mean with ties up is at most what every value is at most. -/
theorem mean_le {sum n b : Nat} (hn : 0 < n) (h : sum ≤ n * b) : (sum + n / 2) / n ≤ b := by
  have hhalf : n / 2 < n := by omega
  exact Nat.lt_succ_iff.mp ((Nat.div_lt_iff_lt_mul hn).mpr (by rw [Nat.succ_mul, mul_comm b n]; omega))

theorem meanCount_le {samples : List Sample} {b : Nat} (hn : 0 < samples.length)
    (h : ∀ x ∈ samples, x.count.toNat ≤ b) : meanCount samples ≤ b := by
  refine mean_le hn ?_
  have := sum_le_length_mul (l := samples.map fun x => x.count.toNat) (b := b) (by simpa using h)
  rwa [List.length_map] at this

/-! ## The vote -/

theorem votesFor_eq (floor : Nat) (samples : List Sample) (code : Nat) :
    votesFor floor samples code = samples.filter fun x => decide (floor ≤ x.count.toNat) && x.code.toNat == code := by
  unfold votesFor voters
  rw [List.filter_filter]
  simp only [Bool.and_comm]

/-- `b` has more votes than `a`, or as many with a number not above. -/
def beatenBy (floor : Nat) (samples : List Sample) (a b : Nat) : Prop :=
  (votesFor floor samples a).length < (votesFor floor samples b).length ∨
    ((votesFor floor samples a).length = (votesFor floor samples b).length ∧ b ≤ a)

theorem betterCode_choice (floor : Nat) (samples : List Sample) (a b : Nat) :
    betterCode floor samples a b = a ∨ betterCode floor samples a b = b := by
  unfold betterCode
  dsimp only
  split
  · exact .inr rfl
  · exact .inl rfl

theorem beatenBy_betterCode_left (floor : Nat) (samples : List Sample) (a b : Nat) :
    beatenBy floor samples a (betterCode floor samples a b) := by
  unfold betterCode beatenBy
  dsimp only
  split <;> omega

theorem beatenBy_betterCode_right (floor : Nat) (samples : List Sample) (a b : Nat) :
    beatenBy floor samples b (betterCode floor samples a b) := by
  unfold betterCode beatenBy
  dsimp only
  split <;> omega

/-- The winning code has a vote, and beats every code. -/
theorem winningCode_beats {floor : Nat} {samples : List Sample} {code : Nat}
    (h : winningCode floor samples = some code) :
    1 ≤ (votesFor floor samples code).length ∧ ∀ c, beatenBy floor samples c code := by
  unfold winningCode at h
  split at h
  · simp at h
  · next c rest hcodes =>
    have hcode : rest.foldl (betterCode floor samples) c = code := Option.some.inj h
    have hmem : code ∈ (voters floor samples).map fun s => s.code.toNat := by
      rw [hcodes, ← hcode]
      exact foldl_mem_of_choice (betterCode_choice floor samples) c rest
    have hvote : ∀ a ∈ (voters floor samples).map fun s => s.code.toNat, 1 ≤ (votesFor floor samples a).length := by
      intro a ha
      obtain ⟨x, hx, hxa⟩ := List.mem_map.mp ha
      exact List.length_pos_of_mem (List.mem_filter.mpr ⟨hx, by simpa using hxa⟩)
    refine ⟨hvote code hmem, fun a => ?_⟩
    by_cases ha : a ∈ (voters floor samples).map fun s => s.code.toNat
    · rw [hcodes] at ha
      rw [← hcode]
      refine rel_foldl_of_choice (r := beatenBy floor samples) (fun b => .inr ⟨rfl, le_rfl⟩) ?_
        (beatenBy_betterCode_left floor samples) (beatenBy_betterCode_right floor samples) c rest a ha
      intro x y z hxy hyz
      unfold beatenBy at *
      omega
    · have hnone : votesFor floor samples a = [] := by
        refine List.filter_eq_nil_iff.mpr fun x hx hxa => ha (List.mem_map.mpr ⟨x, hx, by simpa using hxa⟩)
      have := hvote code hmem
      exact .inl (by simp [hnone]; omega)

/-- Some sample votes where the mean reaches the floor. -/
theorem winningCode_isSome {floor : Nat} {samples : List Sample} (hn : 0 < samples.length) (hf : 1 ≤ floor)
    (h : floor ≤ meanCount samples) : (winningCode floor samples).isSome = true := by
  have hvoter : voters floor samples ≠ [] := by
    intro hnone
    have hlow : ∀ x ∈ samples, x.count.toNat ≤ floor - 1 := fun x hx => by
      have := List.filter_eq_nil_iff.mp hnone x hx
      simp only [decide_eq_true_eq] at this
      omega
    have := meanCount_le hn hlow
    omega
  unfold winningCode
  split
  · next hnil => exact absurd (List.map_eq_nil_iff.mp hnil) hvoter
  · rfl

theorem reduce_returned (floor : Nat) (samples : List Sample) :
    (reduce floor samples).returned =
      if meanCount samples < floor then none
      else (winningCode floor samples).map fun code =>
        ⟨code, (votesFor floor samples code).length, rawDelay (votesFor floor samples code),
          baseLevel (meanCount samples)⟩ := rfl

/-! ## The capture arithmetic -/

theorem spreadOf_bounds {levels : List Int} (h : levels ≠ []) :
    ∃ high ∈ levels, ∃ low ∈ levels, (∀ p ∈ levels, low ≤ p ∧ p ≤ high) ∧ (spreadOf levels : Int) = high - low := by
  cases levels with
  | nil => exact absurd rfl h
  | cons p ps =>
    have hhigh := rel_foldl_of_choice (r := fun a b : Int => a ≤ b) (f := max) le_refl le_trans le_max_left le_max_right p ps
    have hlow := rel_foldl_of_choice (r := fun a b : Int => b ≤ a) (f := min) le_refl
      (fun h h' => le_trans h' h) min_le_left min_le_right p ps
    refine ⟨ps.foldl max p, foldl_mem_of_choice max_choice p ps, ps.foldl min p, foldl_mem_of_choice min_choice p ps,
      fun x hx => ⟨hlow x hx, hhigh x hx⟩, ?_⟩
    have hp := (hlow p List.mem_cons_self).trans (hhigh p List.mem_cons_self)
    exact Int.toNat_of_nonneg (by omega)

theorem pathDelay_eq (raw offset : Nat) : pathDelay raw offset = raw - offset := by
  unfold pathDelay
  split <;> omega

/-! ## The class of an attempt -/

theorem classOf_eq_misrouted_iff (p : Profile) (d : Definition) (code : Nat) (deltas : Option (Int × Int)) :
    classOf p d code deltas = .misrouted ↔ code ≠ d.code := by
  unfold classOf
  by_cases h : code ≠ d.code
  · simp [h]
  · rw [if_neg h]
    refine iff_of_false ?_ h
    cases deltas with
    | none => simp
    | some x =>
      obtain ⟨dl, dd⟩ := x
      dsimp only
      split
      · simp
      · split <;> simp

end Sys2Proof.Machine

namespace Sys2Proof.Proofs

open Sys2Proof.Machine

/-- Settles O48: the mean by its division, the vote by a fold that keeps the better code. -/
theorem burstReduced : Obligations.BurstReduced := by
  refine ⟨fun samples h hpos hlen => ?_, fun floor samples => ⟨rfl, ?_⟩, fun floor samples h hpos hlen hfloor => ?_,
    fun floor samples r hr => ?_, pathDelay_eq⟩
  · have hn : 0 < samples.length := by omega
    have hnearest := mean_nearest (sum := countSum samples) hpos
    rw [← hlen] at hnearest
    refine ⟨rfl, meanCount_le hn fun x _ => ?_, hnearest⟩
    have := x.count.isLt
    omega
  · simp [reduce, isClipped, Config.clippedCount]
  · rw [reduce_returned]
    by_cases hm : meanCount samples < floor
    · rw [if_pos hm]
      exact iff_of_false (by simp) (Nat.not_le.mpr hm)
    · rw [if_neg hm, Option.isSome_map]
      have hle := Nat.le_of_not_lt hm
      exact iff_of_true (winningCode_isSome (by omega) hfloor hle) hle
  · rw [reduce_returned] at hr
    split at hr
    · simp at hr
    · obtain ⟨code, hcode, rfl⟩ := Option.map_eq_some_iff.mp hr
      obtain ⟨hvote, hbeats⟩ := winningCode_beats hcode
      dsimp only
      simp only [← votesFor_eq]
      have hdelay : rawDelay (votesFor floor samples code) ≤ 16777215 := by
        refine mean_le hvote ?_
        have := sum_le_length_mul (l := (votesFor floor samples code).map fun x => x.delay.toNat) (b := 16777215) (by
          intro d hd
          obtain ⟨x, -, rfl⟩ := List.mem_map.mp hd
          have := x.delay.isLt
          omega)
        rwa [List.length_map] at this
      refine ⟨trivial, hvote, ?_, hbeats, rfl, hdelay, trivial⟩
      rw [votesFor_eq]
      exact List.length_filter_le _ _

/-- Settles O49: the spread by the least and the greatest level, the means by their division. -/
theorem captureArithmetic : Obligations.CaptureArithmetic := by
  refine ⟨fun levels h => ?_, fun levels h => ?_, fun delays h => ?_, fun p => ⟨by simp [spreadOf], ?_⟩, by decide⟩
  · obtain ⟨high, hhigh, low, hlow, hbounds, hspread⟩ := spreadOf_bounds h
    refine ⟨fun p hp q hq => ?_, ⟨high, hhigh, low, hlow, hspread.symm⟩, fun hrange => ?_⟩
    · have := hbounds p hp
      have := hbounds q hq
      omega
    · have := hrange high hhigh
      have := hrange low hlow
      omega
  · have hn : (0 : Int) < 2 * levels.length := by
      have := List.length_pos_iff.mpr h
      omega
    refine ⟨?_, ?_, fun low high hbounds => ?_⟩
    · exact Int.mul_ediv_self_le hn.ne'
    · have := Int.lt_mul_ediv_self_add (x := 2 * levels.sum + levels.length) hn
      rw [mul_add, mul_one]
      exact this
    · have hlow : levels.length * low ≤ levels.sum := by
        simpa using List.card_nsmul_le_sum levels low fun p hp => (hbounds p hp).1
      have hhigh : levels.sum ≤ levels.length * high := by
        simpa using List.sum_le_card_nsmul levels high fun p hp => (hbounds p hp).2
      constructor
      · exact (Int.le_ediv_iff_mul_le hn).mpr (by nlinarith)
      · exact Int.lt_add_one_iff.mp ((Int.ediv_lt_iff_lt_mul hn).mpr (by nlinarith))
  · have hn : 0 < 2 * delays.length := by
      have := List.length_pos_iff.mpr h
      omega
    refine ⟨Nat.mul_div_le _ _, ?_, fun low high hbounds => ?_⟩
    · exact Nat.lt_mul_div_succ _ hn
    · have hlow : delays.length * low ≤ delays.sum := by
        simpa using List.card_nsmul_le_sum delays low fun p hp => (hbounds p hp).1
      have hhigh : delays.sum ≤ delays.length * high := by
        simpa using List.sum_le_card_nsmul delays high fun p hp => (hbounds p hp).2
      constructor
      · exact (Nat.le_div_iff_mul_le hn).mpr (by nlinarith)
      · exact Nat.lt_succ_iff.mp ((Nat.div_lt_iff_lt_mul hn).mpr (by rw [Nat.succ_mul]; nlinarith))
  · simp only [meanLevel, List.sum_cons, List.sum_nil, List.length_singleton]
    omega

/-- Settles O50: the tests in their order. -/
theorem attemptClassified : Obligations.AttemptClassified := by
  refine ⟨fun p d base b h => ?_, fun p d base b r h => ?_⟩
  · unfold classify
    simp only [h]
  · have hmis := classOf_eq_misrouted_iff p d r.code
      (deltasOf base (levelOf r b.trim) (pathDelay r.rawDelay b.offset))
    intro level delay
    have hlevel : levelOf r b.trim = level := rfl
    have hdelay : pathDelay r.rawDelay b.offset = delay := pathDelay_eq _ _
    unfold classify
    simp only [h, hmis]
    rw [hlevel, hdelay]
    cases base with
    | none => rfl
    | some q =>
      simp only [classOf, deltasOf, deltaLevel, deltaDelay, riseTolerance, fallTolerance, delayTolerance, Option.map_some,
        neg_sub, ← Int.natCast_natAbs, Nat.cast_lt]
      rfl

end Sys2Proof.Proofs


/-! # A frame sent byte by byte -/

namespace Sys2Proof.Machine

/-! ## Receiving -/

/-- The receiver after a list of bytes, with the frame that the last one completes. -/
def Receiver.takeAll (a : Receiver × Option (List U8)) (l : List U8) : Receiver × Option (List U8) :=
  l.foldl (fun a b => Receiver.take a.1 b) a

theorem Receiver.takeAll_cons (a : Receiver × Option (List U8)) (b : U8) (l : List U8) :
    Receiver.takeAll a (b :: l) = Receiver.takeAll (Receiver.take a.1 b) l := rfl

/-- A body collects the bytes before its last. -/
theorem Receiver.takeAll_body {n : Nat} {held l : List U8} (h : held.length + l.length < n + 4) :
    Receiver.takeAll (.body n held, none) l = (.body n (held ++ l), none) := by
  induction l generalizing held with
  | nil => simp [Receiver.takeAll]
  | cons b l ih =>
    have hb : (held ++ [b]).length < n + 4 := by
      simp only [List.length_append, List.length_cons, List.length_nil] at h ⊢
      omega
    rw [Receiver.takeAll_cons, Receiver.take, if_pos hb, ih (by simp only [List.length_append, List.length_cons, List.length_nil] at h ⊢; omega)]
    simp

/-- The last byte of a body completes the frame. -/
theorem Receiver.takeAll_body_last {n : Nat} {held l : List U8} {b : U8} (h : held.length + l.length + 1 = n + 4) :
    Receiver.takeAll (.body n held, none) (l ++ [b]) = (.hunting, some (held ++ l ++ [b])) := by
  have hbody := Receiver.takeAll_body (n := n) (held := held) (l := l) (by omega)
  unfold Receiver.takeAll at hbody ⊢
  have hlast : ¬(held ++ l ++ [b]).length < n + 4 := by
    simp only [List.length_append, List.length_cons, List.length_nil]
    omega
  rw [List.foldl_append, hbody, List.foldl_cons, List.foldl_nil, Receiver.take, if_neg hlast]

/-- The start byte and two length bytes lead a hunting receiver into the body. -/
theorem Receiver.takeAll_start {b₀ b₁ : U8} {n : Nat} (hn : b₀.toNat + 256 * b₁.toNat = n) (hlow : 3 ≤ n)
    (hhigh : n ≤ 1021) (l : List U8) :
    Receiver.takeAll (.hunting, none) (0xA5 :: b₀ :: b₁ :: l) = Receiver.takeAll (.body n [b₀, b₁], none) l := by
  have hlen : (u16At [b₀, b₁] 0).toNat = n := (u16At_two b₀ b₁).trans hn
  have hbody : Receiver.take (.header [b₀]) b₁ = (.body n [b₀, b₁], none) := by
    show (if lengthInRange (u16At [b₀, b₁] 0).toNat then Receiver.body (u16At [b₀, b₁] 0).toNat [b₀, b₁] else .hunting,
      none) = _
    rw [hlen, if_pos ((lengthInRange_iff n).mpr ⟨hlow, hhigh⟩)]
  rw [Receiver.takeAll_cons, Receiver.takeAll_cons, Receiver.takeAll_cons]
  exact congrArg (fun a => Receiver.takeAll a l) hbody

/-- A start byte, a length and as many bytes are received whole by a hunting receiver, the frame at the last byte. -/
theorem Receiver.takeAll_frame {b₀ b₁ : U8} {n : Nat} {l : List U8} (hn : b₀.toNat + 256 * b₁.toNat = n)
    (hlow : 3 ≤ n) (hhigh : n ≤ 1021) (hl : l.length = n + 2) :
    Receiver.takeAll (.hunting, none) (0xA5 :: b₀ :: b₁ :: l) = (.hunting, some (b₀ :: b₁ :: l)) := by
  obtain ⟨l, last, rfl⟩ := (List.eq_nil_or_concat l).resolve_left (by rintro rfl; simp at hl)
  rw [Receiver.takeAll_start hn hlow hhigh, List.concat_eq_append,
    Receiver.takeAll_body_last (by simp at hl ⊢; omega)]
  rfl

/-- No byte before the last completes a frame. -/
theorem Receiver.takeAll_short {b₀ b₁ : U8} {n k : Nat} {l : List U8} (hn : b₀.toNat + 256 * b₁.toNat = n)
    (hlow : 3 ≤ n) (hhigh : n ≤ 1021) (hl : l.length = n + 2) (hk : k ≤ l.length + 2) :
    (Receiver.takeAll (.hunting, none) ((0xA5 :: b₀ :: b₁ :: l).take k)).2 = none := by
  match k with
  | 0 => rfl
  | 1 => rfl
  | 2 => rfl
  | k + 3 =>
    rw [List.take_succ_cons, List.take_succ_cons, List.take_succ_cons, Receiver.takeAll_start hn hlow hhigh,
      Receiver.takeAll_body (by simp only [List.length_take, List.length_cons, List.length_nil]; omega)]

/-! ## The judgement -/

theorem u8At_append_left {p q : List U8} {i : Nat} (h : i < p.length) : u8At (p ++ q) i = u8At p i := by
  simp [u8At, List.getD_eq_getElem?_getD, List.getElem?_append_left h]

/-- The check of a frame is its last two bytes, least significant first. -/
theorem u16At_check (covered : List U8) (low high : U8) :
    u16At (covered ++ [low, high]) covered.length = high ++ low := by
  simp [u16At, u8At, List.getD_eq_getElem?_getD]

/-- The judgement of covered bytes and two check bytes. -/
theorem judgeFrame_append {covered : List U8} (low high : U8) (h : 5 ≤ covered.length) :
    judgeFrame (covered ++ [low, high]) =
      if crc16 covered = high ++ low ∧ u8At covered 2 = 0x01 then
        some ⟨u8At covered 4, requestOf (u8At covered 3) (covered.drop 5)⟩
      else none := by
  have hlen : (covered ++ [low, high]).length - 2 = covered.length := by simp
  unfold judgeFrame
  dsimp only
  rw [hlen, List.take_left, u16At_check, u8At_append_left (by omega), u8At_append_left (by omega),
    u8At_append_left (by omega)]
  rfl

theorem byte_append_eq_iff (c : U16) (low high : U8) :
    c = high ++ low ↔ low = c.extractLsb' 0 8 ∧ high = c.extractLsb' 8 8 := by
  rw [← BitVec.toNat_inj, ← BitVec.toNat_inj, ← BitVec.toNat_inj, toNat_append_byte, BitVec.extractLsb'_toNat,
    BitVec.extractLsb'_toNat, Nat.shiftRight_eq_div_pow, Nat.shiftRight_eq_div_pow]
  have := low.isLt
  have := high.isLt
  have := c.isLt
  omega

end Sys2Proof.Machine

namespace Sys2Proof.Proofs

open Sys2Proof.Machine

/-- Settles O53: the receiver collects the body to its last byte, and the judgement reads the covered bytes. -/
theorem frameRoundTrip : Obligations.FrameRoundTrip := by
  refine ⟨fun code tag payload hlen => ?_, fun class_ code tag low high payload hlen => ?_⟩
  · intro n covered bytes receive
    have hn : (BitVec.ofNat 8 n).toNat + 256 * (BitVec.ofNat 8 (n / 256)).toNat = n := by
      simp only [BitVec.toNat_ofNat]
      omega
    refine ⟨?_, fun k hk => ?_, ?_⟩
    · exact Receiver.takeAll_frame (l := 0x01 :: code :: tag :: payload ++ [_, _]) hn (by omega) (by omega) (by simp; omega)
    · exact Receiver.takeAll_short (l := 0x01 :: code :: tag :: payload ++ [_, _]) hn (by omega) (by omega)
        (by simp; omega) (by simp [bytes, covered] at hk ⊢; omega)
    · rw [judgeFrame_append _ _ (by simp [covered]), if_pos ⟨(byte_append_eq_iff _ _ _).mpr ⟨rfl, rfl⟩, rfl⟩]
      rfl
  · intro n covered hbad
    rw [judgeFrame_append _ _ (by simp [covered]), if_neg]
    rintro ⟨hcheck, hclass⟩
    obtain ⟨hlow, hhigh⟩ := (byte_append_eq_iff _ _ _).mp hcheck
    rcases hbad with hbad | hbad | hbad
    · exact hbad hclass
    · exact hbad hlow
    · exact hbad hhigh

end Sys2Proof.Proofs


/-! # DEFINE_CIRCUIT, DELETE_CIRCUIT and CLEAR_BASELINE as far as their first commit -/

namespace Sys2Proof.Machine

/-! ## The fields of a DEFINE_CIRCUIT -/

/-- Every field of a DEFINE_CIRCUIT is in range (R14, check 1). -/
def fieldsFit (f : DefineFields) : Prop :=
  f.lane.toNat < 8 ∧ (1 ≤ f.id.toNat ∧ f.id.toNat ≤ 512) ∧ (1 ≤ f.channel.toNat ∧ f.channel.toNat ≤ 96) ∧
    (1 ≤ f.code.toNat ∧ f.code.toNat ≤ 1023) ∧ f.presence.toNat < 8 ∧
    (1 ≤ f.spans.length ∧ f.spans.length ≤ 12) ∧ (∀ p ∈ f.spans, 1 ≤ p.toNat ∧ p.toNat ≤ 256) ∧ f.spans.Nodup

theorem spanInRange_iff (p : Nat) : spanInRange p = true ↔ 1 ≤ p ∧ p ≤ 256 := by
  unfold spanInRange
  rw [Bool.and_eq_true, decide_eq_true_iff, decide_eq_true_iff]
  rfl

theorem all_spanInRange_iff (spans : List U16) :
    (spans.map BitVec.toNat).all spanInRange = true ↔ ∀ p ∈ spans, 1 ≤ p.toNat ∧ p.toNat ≤ 256 := by
  simp only [List.all_eq_true, List.mem_map, forall_exists_index, and_imp, forall_apply_eq_imp_iff₂, spanInRange_iff]

theorem nodup_toNat_iff (spans : List U16) : (spans.map BitVec.toNat).Nodup ↔ spans.Nodup :=
  List.nodup_map_iff fun _ _ h => BitVec.eq_of_toNat_eq h

theorem laneOfNat_of_lt {n : Nat} (h : n < 8) : laneOfNat n = some ⟨n, h⟩ := by simp [laneOfNat, h]

theorem laneOfNat_of_le {n : Nat} (h : 8 ≤ n) : laneOfNat n = none := by simp [laneOfNat, h]

/-- The definition that fields in range name. -/
theorem definition_of_fieldsFit {f : DefineFields} {l : LaneId} (h : fieldsFit f) (hl : f.lane.toNat = l.val) :
    f.definition = some ⟨l, f.channel.toNat, f.code.toNat, f.spans.map BitVec.toNat, f.override⟩ := by
  obtain ⟨hlane, hid, hchannel, hcode, hpresence, hcount, hspans, hnodup⟩ := h
  have hl' : (⟨f.lane.toNat, hlane⟩ : LaneId) = l := Fin.ext hl
  unfold DefineFields.definition
  rw [laneOfNat_of_lt hlane, hl']
  dsimp only
  rw [if_pos]
  exact ⟨(circuitInRange_iff _).mpr hid, hchannel.1, hchannel.2, hcode.1, hcode.2, hpresence, by simpa using hcount.1,
    by rw [List.length_map]; exact hcount.2, (all_spanInRange_iff _).mpr hspans, (nodup_toNat_iff _).mpr hnodup⟩

theorem definition_of_not_fieldsFit {f : DefineFields} (h : ¬fieldsFit f) : f.definition = none := by
  by_cases hlane : f.lane.toNat < 8
  · unfold DefineFields.definition
    rw [laneOfNat_of_lt hlane]
    dsimp only
    rw [if_neg]
    rintro ⟨hid, hch, hch', hco, hco', hpresence, hlen, hlen', hspans, hnodup⟩
    exact h ⟨hlane, (circuitInRange_iff _).mp hid, ⟨hch, hch'⟩, ⟨hco, hco'⟩, hpresence,
      ⟨by simpa using hlen, by rw [List.length_map] at hlen'; exact hlen'⟩, (all_spanInRange_iff _).mp hspans,
      (nodup_toNat_iff _).mp hnodup⟩
  · unfold DefineFields.definition
    rw [laneOfNat_of_le (Nat.le_of_not_lt hlane)]

theorem toleranceOf_eq (present : Bool) {lo hi : Nat} (v : Nat) (h : lo ≤ hi) :
    toleranceOf present lo hi v = if present then some (min hi (max lo v)) else none := by
  rw [toleranceOf, clamp_eq v h]

theorem Circuit.defineKind_eq (r : Circuit) (d : Definition) :
    r.defineKind d =
      match r.definition with
      | none => .new
      | some old =>
        if old.lane = d.lane ∧ old.channel = d.channel ∧ old.code = d.code ∧ old.spans = d.spans then .overrideOnly
        else if r.baseline = none then .noBaseline
        else .discarding := by
  unfold Circuit.defineKind
  cases r.definition with
  | none => rfl
  | some old => cases r.baseline <;> simp

/-! ## What a refused change does to the permit -/

theorem State.spendIf_eq (s : State) (b : Bool) : s.spendIf b = { s with permit := s.permit && !b } := by
  cases b <;> simp [State.spendIf, State.usePermit]

section
variable {s : State} {tag code : U8} {status : Status} {body : ReplyBody} {request : Request} {uses : Bool}

/-- A request that is refused and spends the permit. -/
theorem State.arrive_spent (h : s.ready = true)
    (hh : s.handleRequest tag request = (s.spendIf uses).answer tag code status body) (hshort : body.isLong = false) :
    s.arrive tag request = .next (State.replied { s with permit := s.permit && !uses } tag code status body) := by
  rw [s.spendIf_eq] at hh
  exact State.arrive_changed h hh rfl rfl rfl hshort

end

/-! ## The checks -/

theorem State.otherOwner_some {s : State} {id code o : Nat} (h : s.codeOwner code = some o) (ho : o ≠ id) :
    s.otherOwner id code = some o := by simp [State.otherOwner, h, ho]

theorem State.otherOwner_free {s : State} {id code : Nat} (h : s.codeOwner code = none ∨ s.codeOwner code = some id) :
    s.otherOwner id code = none := by
  rcases h with h | h <;> simp [State.otherOwner, h]

/-- Checks 3 to 6 of DEFINE_CIRCUIT in their order. -/
theorem State.defineRefusal_eq (s : State) (id : Nat) (kind : DefineKind) :
    s.defineRefusal id kind =
      if (s.circuit id).state = .held then some .circuitHeld
      else if (s.circuit id).state = .pending ∨ (s.circuit id).state = .probing ∨ (s.circuit id).state = .capturing then
        some .circuitBusy
      else if s.insideRegion id = true ∧ (s.circuit id).state ≠ .empty then some .insideRegion
      else if kind = .discarding ∧ s.permit = false then some .noPermit else none := by
  unfold State.defineRefusal
  have hchecks : ∀ st : CircuitState,
      firstRefusal [(st != .empty && s.insideRegion id, .insideRegion), (kind == .discarding && !s.permit, .noPermit)] =
        if s.insideRegion id = true ∧ st ≠ .empty then some .insideRegion
        else if kind = .discarding ∧ s.permit = false then some .noPermit else none := by
    intro st
    simp [firstRefusal, and_comm]
  dsimp only
  rw [hchecks]
  cases (s.circuit id).state <;> simp [CircuitState.changeRefusal]

/-- The checks of DELETE_CIRCUIT in their order. -/
theorem State.deleteRefusal_eq (s : State) (id : Nat) :
    s.deleteRefusal id =
      if id = 0 ∨ 512 < id then some .badField
      else if (s.circuit id).state = .empty then some .noSuchCircuit
      else if (s.circuit id).state = .held then some .circuitHeld
      else if (s.circuit id).state = .pending ∨ (s.circuit id).state = .probing ∨ (s.circuit id).state = .capturing then
        some .circuitBusy
      else if (s.circuit id).state = .idle ∧ s.insideRegion id = true then some .insideRegion
      else if (s.circuit id).guarded = true ∧ s.permit = false then some .noPermit else none := by
  have hrange : (!circuitInRange id) = true ↔ id = 0 ∨ 512 < id := by
    rw [Bool.not_eq_true', ← Bool.not_eq_true, circuitInRange_iff]
    omega
  unfold State.deleteRefusal
  simp only [hrange]
  cases hst : (s.circuit id).state <;> simp [CircuitState.changeRefusal, firstRefusal]

/-- The checks of CLEAR_BASELINE in their order. -/
theorem State.clearRefusal_eq (s : State) (id : Nat) :
    s.clearRefusal id =
      if id = 0 ∨ 512 < id then some .badField
      else if (s.circuit id).state = .empty then some .noSuchCircuit
      else if (s.circuit id).state = .unreadable then some .unreadable
      else if (s.circuit id).state = .held then some .circuitHeld
      else if (s.circuit id).state ≠ .idle then some .circuitBusy
      else if s.insideRegion id = true then some .insideRegion
      else if s.permit = false then some .noPermit else none := by
  have hrange : (!circuitInRange id) = true ↔ id = 0 ∨ 512 < id := by
    rw [Bool.not_eq_true', ← Bool.not_eq_true, circuitInRange_iff]
    omega
  unfold State.clearRefusal
  simp only [hrange]
  cases hst : (s.circuit id).state <;> simp [CircuitState.changeRefusal, firstRefusal]

/-! ## The handlings -/

section
variable {s : State} {tag : U8} {f : DefineFields} {d : Definition} (hd : f.definition = some d)
include hd

theorem State.handleDefine_owned {o : Nat} (ho : s.otherOwner f.id.toNat d.code = some o) :
    s.handleDefine tag f =
      (s.spendIf ((s.circuit f.id.toNat).defineKind d == .discarding)).answer tag 0x20 .codeInUse (.codeOwner o) := by
  unfold State.handleDefine
  rw [hd]
  dsimp only
  rw [ho]

theorem State.handleDefine_refused {status : Status} (ho : s.otherOwner f.id.toNat d.code = none)
    (hr : s.defineRefusal f.id.toNat ((s.circuit f.id.toNat).defineKind d) = some status) :
    s.handleDefine tag f =
      (s.spendIf ((s.circuit f.id.toNat).defineKind d == .discarding && status != .noPermit)).answer tag 0x20 status
        .none := by
  unfold State.handleDefine
  rw [hd]
  dsimp only
  rw [ho]
  dsimp only
  rw [hr]

theorem State.handleDefine_taken (ho : s.otherOwner f.id.toNat d.code = none)
    (hr : s.defineRefusal f.id.toNat ((s.circuit f.id.toNat).defineKind d) = none) :
    s.handleDefine tag f =
      s.beginJob f.id.toNat tag (.define f.id.toNat d ((s.circuit f.id.toNat).defineKind d) f.clamped false)
        (.writeDefinition f.id.toNat d) := by
  unfold State.handleDefine
  rw [hd]
  dsimp only
  rw [ho]
  dsimp only
  rw [hr]

end

/-- A commit handed on with none in hand begins at once, where RESTART has not been taken. -/
theorem State.handCommit_first {s : State} {op : StoreOp} {by_ : Submitter} (hc : s.commits = []) (hw : s.writing = none)
    (hr : s.restartTaken = false) :
    s.handCommit op by_ =
      { State.putSlot { s with commits := [⟨op, by_⟩] } ((s.readSlot op).withCells true) with
        writing := some ⟨.write, s.readSlot op⟩ } := by
  unfold State.handCommit State.beginCommit
  rw [hc, hw, List.nil_append]
  dsimp only
  rw [hr]
  simp only [Bool.false_and, Bool.false_eq_true, if_false]
  cases op <;> rfl

/-- A request that begins its first commit and waits. -/
theorem State.arrive_waits {s t : State} {tag : U8} {request : Request} (h : s.ready = true)
    (hh : s.handleRequest tag request = t) (hsend : t.sending = s.sending) (hlanes : t.lanes = s.lanes) :
    s.arrive tag request = .next t := by
  have hcalm := State.calm_of_ready h
  obtain ⟨-, -, -, -, -, -, -, hrest, ht⟩ := s.calm_iff.mp hcalm
  simp only [State.sending, Prod.mk.injEq] at hsend
  obtain ⟨hlooks, -, htrans, hreplies, hnotices⟩ := hsend
  rw [s.arrive_ready h, hh, t.arbitrate_atRest ((State.atRest_congr hlooks hlanes).trans hrest),
    t.transmit_quiet (by rwa [htrans, hreplies, hnotices])]

end Sys2Proof.Machine


/-! # DEFINE_CIRCUIT, DELETE_CIRCUIT and CLEAR_BASELINE, refused and taken -/

namespace Sys2Proof.Machine

section
variable {s : State} {tag : U8}

/-! ## Refused -/

/-- A DEFINE_CIRCUIT refused by the code's owner. -/
theorem State.define_owned {f : DefineFields} {d : Definition} {o : Nat} (h : s.ready = true)
    (hd : f.definition = some d) (ho : s.otherOwner f.id.toNat d.code = some o) :
    exec (.defineCircuit tag (.fields f)) s =
      .next (State.replied { s with permit := s.permit && (s.circuit f.id.toNat).defineKind d != .discarding } tag 0x20
        .codeInUse (.codeOwner o)) :=
  State.arrive_spent h (State.handleDefine_owned hd ho) rfl

/-- A DEFINE_CIRCUIT refused by the slot's state, the region or the permit. -/
theorem State.define_refused {f : DefineFields} {d : Definition} {status : Status} (h : s.ready = true)
    (hd : f.definition = some d) (ho : s.otherOwner f.id.toNat d.code = none)
    (hr : s.defineRefusal f.id.toNat ((s.circuit f.id.toNat).defineKind d) = some status) :
    exec (.defineCircuit tag (.fields f)) s =
      .next (State.replied
        { s with permit := s.permit && !((s.circuit f.id.toNat).defineKind d == .discarding && status != .noPermit) } tag
        0x20 status .none) :=
  State.arrive_spent h (State.handleDefine_refused hd ho hr) rfl

theorem State.delete_refused {id : U16} {status : Status} (h : s.ready = true)
    (hr : s.deleteRefusal id.toNat = some status) :
    exec (.deleteCircuit tag (.fields id)) s =
      .next (State.replied
        { s with
          permit := s.permit &&
            !((circuitInRange id.toNat && (s.circuit id.toNat).guarded) && status != .noPermit) } tag 0x21 status .none) := by
  refine State.arrive_spent h ?_ rfl
  show s.handleDelete tag id = _
  unfold State.handleDelete
  dsimp only
  rw [hr]

theorem State.clear_refused {id : U16} {status : Status} (h : s.ready = true)
    (hr : s.clearRefusal id.toNat = some status) :
    exec (.clearBaseline tag (.fields id)) s =
      .next (State.replied { s with permit := s.permit && !(status != .noPermit) } tag 0x22 status .none) := by
  refine State.arrive_spent h ?_ rfl
  show s.handleClearBaseline tag id = _
  unfold State.handleClearBaseline
  dsimp only
  rw [hr]

theorem Circuit.guarded_eq_false {r : Circuit} (h : r.state ≠ .idle) : r.guarded = false := by simp [Circuit.guarded, h]

/-- A permit that a refusal does not spend is as it was. -/
theorem State.permit_kept (s : State) : { s with permit := s.permit && !false } = s := by simp

theorem State.permit_spent (s : State) : { s with permit := s.permit && !true } = { s with permit := false } := by simp

/-! ## Taken -/

/-- The record of the slot whose request waits for its commits. -/
def State.marked (s : State) (id : Nat) : State := s.setCircuit id { s.circuit id with changing := true }

theorem State.beginJob_first {id : Nat} {job : Job} {op : StoreOp} (h : s.ready = true) (hc : s.commits = [])
    (hw : s.writing = none) :
    s.beginJob id tag job op =
      { State.putSlot { s.marked id with processor := .committing tag job, commits := [⟨op, .processor⟩] }
          ((s.readSlot op).withCells true) with
        writing := some ⟨.write, s.readSlot op⟩ } := by
  have ⟨_, hr, _⟩ := s.calm_iff.mp (State.calm_of_ready h)
  unfold State.beginJob
  dsimp only
  rw [State.handCommit_first]
  · cases op <;> rfl
  · exact hc
  · exact hw
  · exact hr

theorem State.arrive_job {request : Request} {id : Nat} {job : Job} {op : StoreOp} (h : s.ready = true)
    (hc : s.commits = []) (hw : s.writing = none) (hh : s.handleRequest tag request = s.beginJob id tag job op) :
    s.arrive tag request =
      .next { State.putSlot { s.marked id with processor := .committing tag job, commits := [⟨op, .processor⟩] }
          ((s.readSlot op).withCells true) with
        writing := some ⟨.write, s.readSlot op⟩ } := by
  rw [State.beginJob_first h hc hw] at hh
  refine State.arrive_waits h hh ?_ ?_ <;> cases op <;> rfl

end

end Sys2Proof.Machine

namespace Sys2Proof.Proofs

open Sys2Proof.Machine

/-- Settles O12: the first check that fails gives the status, and the status what becomes of the permit. -/
theorem changeRefusals : Obligations.ChangeRefusals := by
  refine ⟨fun s tag f h hbad => ?_, ?_, ?_, ?_, ?_⟩
  · refine State.arrive_refused h ?_ rfl
    show s.handleDefine tag f = _
    unfold State.handleDefine
    rw [definition_of_not_fieldsFit hbad]
  · intro s tag f l o d id r kind h hl hid hch hco hp hlen hspans hnodup hown hne
    have hfit : fieldsFit f := ⟨by omega, hid, hch, hco, hp, hlen, hspans, hnodup⟩
    exact State.define_owned h (definition_of_fieldsFit hfit hl) (State.otherOwner_some hown hne)
  · intro s tag f l d id r kind h hl hid hch hco hp hlen hspans hnodup hown hfails
    have hfit : fieldsFit f := ⟨by omega, hid, hch, hco, hp, hlen, hspans, hnodup⟩
    have hrefused := fun status => State.define_refused (tag := tag) (status := status) h
      (definition_of_fieldsFit hfit hl) (State.otherOwner_free hown)
    have hspent : ∀ status : Status, status ≠ .noPermit →
        ({ s with permit := s.permit && !(kind == .discarding && status != .noPermit) } : State) =
          { s with permit := s.permit && kind != .discarding } := fun status hs => by
      rw [bne_iff_ne.mpr hs, Bool.and_true]
      rfl
    have hrefusal := s.defineRefusal_eq id kind
    dsimp only
    by_cases hheld : r.state = .held
    · rw [if_pos hheld]
      exact (hrefused _ (hrefusal.trans (if_pos hheld))).trans (by rw [hspent _ (by simp)])
    rw [if_neg hheld] at hrefusal ⊢
    by_cases hbusy : r.state = .pending ∨ r.state = .probing ∨ r.state = .capturing
    · rw [if_pos hbusy]
      exact (hrefused _ (hrefusal.trans (if_pos hbusy))).trans (by rw [hspent _ (by simp)])
    rw [if_neg hbusy] at hrefusal ⊢
    by_cases hinside : s.insideRegion id ∧ r.state ≠ .empty
    · rw [if_pos hinside]
      exact (hrefused _ (hrefusal.trans (if_pos hinside))).trans (by rw [hspent _ (by simp)])
    rw [if_neg hinside] at hrefusal ⊢
    have hpermit : kind = .discarding ∧ s.permit = false := by
      cases hst : r.state <;> simp_all
    have := hrefused .noPermit (hrefusal.trans (if_pos hpermit))
    simpa using this
  · intro s tag id r h hfails
    have hrefused := fun status => State.delete_refused (tag := tag) (id := id) (status := status) h
    have hrefusal := s.deleteRefusal_eq id.toNat
    have hkept : ∀ status : Status, circuitInRange id.toNat = false ∨ r.state ≠ .idle →
        ({ s with permit := s.permit &&
          !((circuitInRange id.toNat && (s.circuit id.toNat).guarded) && status != .noPermit) } : State) = s := by
      intro status hs
      have hfalse : (circuitInRange id.toNat && (s.circuit id.toNat).guarded) = false := by
        rcases hs with hs | hs
        · simp [hs]
        · rw [Circuit.guarded_eq_false hs, Bool.and_false]
      rw [hfalse]
      exact s.permit_kept
    by_cases hrange : id.toNat = 0 ∨ 512 < id.toNat
    · rw [if_pos hrange] at hrefusal ⊢
      have hout : circuitInRange id.toNat = false := by
        rw [← Bool.not_eq_true, circuitInRange_iff]
        omega
      rw [hrefused _ hrefusal, hkept _ (.inl hout)]
    have hin : circuitInRange id.toNat = true := (circuitInRange_iff _).mpr (by omega)
    rw [if_neg hrange] at hrefusal ⊢
    by_cases hempty : r.state = .empty
    · rw [if_pos hempty, hrefused _ (hrefusal.trans (if_pos hempty)), hkept _ (.inr (by simp [hempty]))]
    rw [if_neg hempty] at hrefusal ⊢
    by_cases hheld : r.state = .held
    · rw [if_pos hheld, hrefused _ (hrefusal.trans (if_pos hheld)), hkept _ (.inr (by simp [hheld]))]
    rw [if_neg hheld] at hrefusal ⊢
    by_cases hbusy : r.state = .pending ∨ r.state = .probing ∨ r.state = .capturing
    · rw [if_pos hbusy, hrefused _ (hrefusal.trans (if_pos hbusy)),
        hkept _ (.inr (by rcases hbusy with h | h | h <;> simp [h]))]
    rw [if_neg hbusy] at hrefusal ⊢
    have hread : r.state ≠ .unreadable := fun hu => hfails ⟨by omega, .inl hu⟩
    have hidle : r.state = .idle := by
      cases hst : r.state <;> simp_all
    have hguarded : (s.circuit id.toNat).guarded = r.baseline.isSome := by
      show (r.state == .idle && r.baseline.isSome) = _
      simp [hidle]
    by_cases hinside : s.insideRegion id.toNat = true
    · rw [if_pos hinside, hrefused _ (hrefusal.trans (if_pos ⟨hidle, hinside⟩)), hin, hguarded,
        bne_iff_ne.mpr (by simp : Status.insideRegion ≠ .noPermit)]
      simp
    rw [if_neg hinside]
    rw [if_neg fun h => hinside h.2] at hrefusal
    have hpermit : (s.circuit id.toNat).guarded = true ∧ s.permit = false := by
      rw [hguarded]
      by_contra hno
      refine hfails ⟨by omega, .inr ⟨hidle, by simpa using hinside, ?_⟩⟩
      cases hb : r.baseline <;> simp_all
    have := hrefused .noPermit (hrefusal.trans (if_pos hpermit))
    simpa using this
  · intro s tag id r h hfails
    have hrefused := fun status => State.clear_refused (tag := tag) (id := id) (status := status) h
    have hrefusal := s.clearRefusal_eq id.toNat
    have hspent : ∀ status : Status, status ≠ .noPermit →
        ({ s with permit := s.permit && !(status != .noPermit) } : State) = { s with permit := false } :=
      fun status hs => by
        rw [bne_iff_ne.mpr hs]
        exact s.permit_spent
    dsimp only
    by_cases hrange : id.toNat = 0 ∨ 512 < id.toNat
    · rw [if_pos hrange] at hrefusal ⊢
      rw [hrefused _ hrefusal, hspent _ (by simp)]
    rw [if_neg hrange] at hrefusal ⊢
    by_cases hempty : r.state = .empty
    · rw [if_pos hempty, hrefused _ (hrefusal.trans (if_pos hempty)), hspent _ (by simp)]
    rw [if_neg hempty] at hrefusal ⊢
    by_cases hbad : r.state = .unreadable
    · rw [if_pos hbad, hrefused _ (hrefusal.trans (if_pos hbad)), hspent _ (by simp)]
    rw [if_neg hbad] at hrefusal ⊢
    by_cases hheld : r.state = .held
    · rw [if_pos hheld, hrefused _ (hrefusal.trans (if_pos hheld)), hspent _ (by simp)]
    rw [if_neg hheld] at hrefusal ⊢
    by_cases hidle : r.state ≠ .idle
    · rw [if_pos hidle, hrefused _ (hrefusal.trans (if_pos hidle)), hspent _ (by simp)]
    rw [if_neg hidle] at hrefusal ⊢
    by_cases hinside : s.insideRegion id.toNat = true
    · rw [if_pos hinside, hrefused _ (hrefusal.trans (if_pos hinside)), hspent _ (by simp)]
    rw [if_neg hinside] at hrefusal ⊢
    have hpermit : s.permit = false := by
      by_contra hno
      exact hfails ⟨by omega, not_not.mp hidle, by simpa using hinside, by simpa using hno⟩
    have := hrefused .noPermit (hrefusal.trans (if_pos hpermit))
    simpa using this

/-- Settles O11: the slot is marked and its first commit begins. -/
theorem defineTaken : Obligations.DefineTaken := by
  refine ⟨?_, fun f => ⟨?_, ?_⟩, fun r d => r.defineKind_eq d⟩
  · intro s tag f l d id r kind h hc hw hl hid hch hco hp hlen hspans hnodup hown hstate hinside hpermit
    have hfit : fieldsFit f := ⟨by omega, hid, hch, hco, hp, hlen, hspans, hnodup⟩
    have hrefusal : s.defineRefusal id kind = none := by
      rw [s.defineRefusal_eq id kind, if_neg, if_neg, if_neg, if_neg]
      · exact fun ⟨hk, hpf⟩ => hpermit.elim (absurd hk) fun ht => by simp [ht] at hpf
      · exact fun ⟨hi, he⟩ => hinside.elim he fun hf => by simp [hf] at hi
      · rcases hstate with hs | hs | hs <;> rw [show (s.circuit id).state = _ from hs] <;> simp
      · rcases hstate with hs | hs | hs <;> rw [show (s.circuit id).state = _ from hs] <;> simp
    have hh : s.handleRequest tag (.defineCircuit (.fields f)) =
        s.beginJob id tag (.define id d kind f.clamped false) (.writeDefinition id d) :=
      State.handleDefine_taken (definition_of_fieldsFit hfit hl) (State.otherOwner_free hown) hrefusal
    exact State.arrive_job h hc hw hh
  · simp [DefineFields.override, toleranceOf_eq]
  · simp only [DefineFields.clamped, DefineFields.override, toleranceOf, Override.mk.injEq, Bool.or_eq_false_iff,
      Bool.and_eq_false_iff, bne_eq_false_iff_eq, and_assoc]
    cases f.presence.getLsbD 0 <;> cases f.presence.getLsbD 1 <;> cases f.presence.getLsbD 2 <;> simp

/-- Settles O13: the baseline slot's erase comes first in both. -/
theorem deleteAndClearTaken : Obligations.DeleteAndClearTaken := by
  refine ⟨?_, ?_⟩
  · intro s tag id r h hc hw hid hstate
    have hin : circuitInRange id.toNat = true := (circuitInRange_iff _).mpr hid
    have hrefusal : s.deleteRefusal id.toNat = none := by
      rw [s.deleteRefusal_eq, if_neg (by omega)]
      rcases hstate with hs | ⟨hs, hinside, hp⟩
      · simp [show (s.circuit id.toNat).state = _ from hs, Circuit.guarded]
      · have hs' : (s.circuit id.toNat).state = .idle := hs
        rcases hp with hb | hp
        · simp [hs', hinside, Circuit.guarded, show (s.circuit id.toNat).baseline = none from hb]
        · simp [hs', hinside, hp]
    have hh : s.handleRequest tag (.deleteCircuit (.fields id)) =
        s.beginJob id.toNat tag (.delete id.toNat (r.state == .idle && r.baseline.isSome) false)
          (.eraseBaseline id.toNat) := by
      show s.handleDelete tag id = _
      unfold State.handleDelete
      dsimp only
      rw [hrefusal, hin]
      rfl
    exact State.arrive_job h hc hw hh
  · intro s tag id r h hc hw hid hidle hinside hpermit
    have hidle' : (s.circuit id.toNat).state = .idle := hidle
    have hrefusal : s.clearRefusal id.toNat = none := by
      rw [s.clearRefusal_eq, if_neg (by omega)]
      simp [hidle', hinside, hpermit]
    have hh : s.handleRequest tag (.clearBaseline (.fields id)) =
        if r.baseline = none then s.usePermit.answer tag 0x22 .ok .none
        else s.beginJob id.toNat tag (.clearBaseline id.toNat) (.eraseBaseline id.toNat) := by
      show s.handleClearBaseline tag id = _
      unfold State.handleClearBaseline
      dsimp only
      rw [hrefusal]
      simp [r]
    by_cases hb : r.baseline = none
    · rw [if_pos hb] at hh ⊢
      exact State.arrive_changed h hh rfl rfl rfl rfl
    · rw [if_neg hb] at hh ⊢
      exact State.arrive_job h hc hw hh

end Sys2Proof.Proofs


/-! # PROBE_NOW: queued behind a busy lane, granted by a free one, or refused -/

namespace Sys2Proof.Machine

/-! ## Writing a table twice -/

theorem tablePut_tablePut {α : Type} (t : Table α) (k : Nat) (v w : α) :
    tablePut (tablePut t k v) k w = tablePut t k w := by
  induction t with
  | nil => simp [tablePut]
  | cons e t ih =>
    obtain ⟨k', v'⟩ := e
    by_cases hlt : k < k'
    · simp [tablePut, hlt]
    · by_cases heq : k = k'
      · simp [tablePut, heq]
      · simp [tablePut, hlt, heq, ih]

theorem tableErase_tablePut_eq {α : Type} (t : Table α) (k : Nat) (v : α) :
    tableErase (tablePut t k v) k = tableErase t k := by
  induction t with
  | nil => simp [tablePut, tableErase]
  | cons e t ih =>
    obtain ⟨k', v'⟩ := e
    by_cases hlt : k < k'
    · simp [tablePut, hlt, tableErase]
    · by_cases heq : k = k'
      · simp [tablePut, heq, tableErase]
      · unfold tableErase at ih ⊢
        simp [tablePut, hlt, heq, List.filter_cons, ih]

/-- A value other than the default is overwritten without a trace. -/
theorem tableWrite_tableWrite {α : Type} [DecidableEq α] {d v : α} (t : Table α) (k : Nat) (w : α) (h : v ≠ d) :
    tableWrite d (tableWrite d t k v) k w = tableWrite d t k w := by
  unfold tableWrite
  rw [if_neg h]
  split
  · exact tableErase_tablePut_eq t k v
  · exact tablePut_tablePut t k v w

section
variable {s : State}

theorem State.setCircuit_setCircuit {c : Nat} {r : Circuit} (r' : Circuit) (h : r ≠ {}) :
    (s.setCircuit c r).setCircuit c r' = s.setCircuit c r' := by
  unfold State.setCircuit
  exact congrArg (fun t => { s with circuits := t }) (tableWrite_tableWrite s.circuits c r' h)

theorem Circuit.ne_empty_of_state {r : Circuit} (h : r.state ≠ .empty) : r ≠ {} := fun he => h (by rw [he])

/-! ## Queuing an entry -/

theorem State.laneOf_of_definition {c : Nat} {d : Definition} (h : (s.circuit c).definition = some d) :
    s.laneOf c = some d.lane := by rw [State.laneOf, h]; rfl

theorem State.laneOf_setCircuit (c : Nat) (r : Circuit) (h : r.definition = (s.circuit c).definition) (j : Nat) :
    (s.setCircuit c r).laneOf j = s.laneOf j := by
  unfold State.laneOf
  by_cases hj : j = c
  · subst hj
    rw [State.circuit_setCircuit_self, h]
  · rw [State.circuit_setCircuit_other s hj]

theorem State.lookAtCircuit_first {c : Nat} {l : LaneId} (hlooks : s.looks = []) (hl : s.laneOf c = some l) :
    s.lookAtCircuit c = { s with looks := [l] } := by
  unfold State.lookAtCircuit
  rw [hl]
  dsimp only
  unfold State.lookAt
  rw [hlooks]
  rfl

/-- An entry is appended to the queue of a part without looks: its circuit is PENDING and its lane is looked at. -/
theorem State.appendEntry_first {e : QueueEntry} {l : LaneId} (hlooks : s.looks = [])
    (hl : s.laneOf e.circuit = some l) :
    s.appendEntry e =
      { State.setCircuit { s with queue := s.queue ++ [e] } e.circuit
          { s.circuit e.circuit with state := .pending } with looks := [l] } := by
  unfold State.appendEntry
  refine (State.lookAtCircuit_first (l := l) ?_ ?_).trans ?_
  · exact hlooks
  · exact (State.laneOf_setCircuit (s := { s with queue := s.queue ++ [e] }) e.circuit
      { s.circuit e.circuit with state := .pending } rfl _).trans hl
  · rfl

/-- Queuing changes no lane's service. -/
theorem State.noWork_append {e : QueueEntry} {l : LaneId} {r : Circuit} (hrest : s.atRest = true)
    (hready : (s.lane l).ready = false) :
    State.NoWork { State.setCircuit { s with queue := s.queue ++ [e] } e.circuit r with looks := [l] } where
  queue := by
    intro x _ j hj _
    rw [List.mem_singleton.mp hj]
    exact State.served_of_not_ready hready
  campaign := by
    intro j hj
    rw [List.mem_singleton.mp hj]
    exact .inl (State.served_of_not_ready hready)
  lanes := fun l => (State.tunedAtEnd_of_atRest hrest l : (s.lane l).tunedAtEnd = false)

end

/-! ## The arbiter grants the one new entry -/

section
variable {s : State}

/-- An entry for a lane that is not looked at is passed over. -/
theorem State.offerEntry_passed {looks : List LaneId} {done : List LaneId} {e : QueueEntry}
    (h : ∀ l ∈ looks, s.laneOf e.circuit ≠ some l) : State.offerEntry looks (s, done) e = (s, done) := by
  unfold State.offerEntry
  dsimp only
  split
  · next l channel hl hch =>
    have : l ∉ looks := fun hm => h l hm hl
    simp [this]
  · rfl

theorem State.foldl_offerEntry_passed {looks done : List LaneId} {q : List QueueEntry}
    (h : ∀ e ∈ q, ∀ l ∈ looks, s.laneOf e.circuit ≠ some l) :
    q.foldl (State.offerEntry looks) (s, done) = (s, done) := by
  induction q with
  | nil => rfl
  | cons e q ih =>
    rw [List.foldl_cons, State.offerEntry_passed (h e (by simp))]
    exact ih fun x hx => h x (by simp [hx])

/-- An entry is granted by a served lane that takes its channel, where a notice entry is free. -/
theorem State.offerEntry_granted {looks : List LaneId} {e : QueueEntry} {d : Definition}
    (hd : (s.circuit e.circuit).definition = some d) (hlook : d.lane ∈ looks) (hserved : s.served d.lane = true)
    (hfree : s.hasFree = true) (hfaulted : (s.lane d.lane).state ≠ .faulted)
    (htakes : (s.lane d.lane).takes d.channel = true) :
    State.offerEntry looks (s, []) e = (s.grantVerification d.lane e d.channel, [d.lane]) := by
  unfold State.offerEntry
  have hlane : s.laneOf e.circuit = some d.lane := State.laneOf_of_definition hd
  have hchannel : s.channelOf e.circuit = some d.channel := by rw [State.channelOf, hd]; rfl
  simp only [hlane, hchannel]
  simp [hlook, hserved, hfree, hfaulted, htakes]

/-- The one entry for the one lane looked at is granted; the lane then has its work, and no other is looked at. -/
theorem State.arbitrate_granted {before after : List QueueEntry} {e : QueueEntry} {d : Definition}
    (hq : s.queue = before ++ e :: after) (hlooks : s.looks = [d.lane])
    (hd : (s.circuit e.circuit).definition = some d)
    (hbefore : ∀ x ∈ before, s.laneOf x.circuit ≠ some d.lane)
    (hserved : s.served d.lane = true) (hfree : s.hasFree = true) (hfaulted : (s.lane d.lane).state ≠ .faulted)
    (htakes : (s.lane d.lane).takes d.channel = true)
    (hother : ∀ l, l ≠ d.lane → (s.lane l).tunedAtEnd = false) :
    s.arbitrate = { s.grantVerification d.lane e d.channel with looks := [] } := by
  have hdone : ∀ (u : State) (q : List QueueEntry),
      q.foldl (State.offerEntry [d.lane]) (u, [d.lane]) = (u, [d.lane]) := by
    intro u q
    induction q with
    | nil => rfl
    | cons x q ih =>
      have hx : State.offerEntry [d.lane] (u, [d.lane]) x = (u, [d.lane]) := by
        unfold State.offerEntry
        dsimp only
        split
        · next l channel hl hch =>
          by_cases h : l = d.lane <;> simp [h]
        · rfl
      rw [List.foldl_cons, hx, ih]
  have hoffer : s.offerQueue = s.grantVerification d.lane e d.channel := by
    unfold State.offerQueue
    have hpassed : before.foldl (State.offerEntry [d.lane]) (s, []) = (s, []) :=
      State.foldl_offerEntry_passed fun x hx l hl => by
        rw [List.mem_singleton.mp hl]
        exact hbefore x hx
    rw [hq, hlooks, List.foldl_append, hpassed, List.foldl_cons,
      State.offerEntry_granted hd (by simp) hserved hfree hfaulted htakes, hdone]
  have hlane : (s.grantVerification d.lane e d.channel).lane d.lane =
      { (s.lane d.lane).begin d.channel s.profile.burstLength with
        work := .verification e.circuit
        grant := some ⟨e, s.profile.burstLength, s.profile.retries, [],
          if (s.lane d.lane).state = .tuned then .measuring else .tuning⟩ } := by
    unfold State.grantVerification
    exact State.lane_modifyLane_self _ _ _
  have hstate : ((s.lane d.lane).begin d.channel s.profile.burstLength).state = .measuring ∨
      ((s.lane d.lane).begin d.channel s.profile.burstLength).state = .tuning := by
    unfold Lane.begin
    dsimp only
    split
    · exact .inl rfl
    · exact .inr rfl
  have hready : ((s.grantVerification d.lane e d.channel).lane d.lane).ready = false := by
    rw [hlane]
    rcases hstate with h | h <;> simp [Lane.ready, Lane.tunedAtEnd, h]
  have hcaptures : (s.grantVerification d.lane e d.channel).offerCaptures = s.grantVerification d.lane e d.channel := by
    refine State.offerCaptures_none fun l hl => ?_
    have hl' : l ∈ s.looks := hl
    rw [hlooks, List.mem_singleton] at hl'
    subst hl'
    exact State.offerCapture_unserved (State.served_of_not_ready hready)
  have hidle : ∀ l, ((s.grantVerification d.lane e d.channel).lane l).tunedAtEnd = false := by
    intro l
    by_cases hl : l = d.lane
    · rw [hl]
      exact Lane.tunedAtEnd_of_not_ready hready
    · have : (s.grantVerification d.lane e d.channel).lane l = s.lane l := by
        unfold State.grantVerification
        exact State.lane_modifyLane_other _ hl _
      rw [this]
      exact hother l hl
  rw [State.arbitrate, hoffer, hcaptures]
  exact congrArg (fun t : State => { t with looks := [] }) (State.parkIfIdle_none _ _ hidle)

/-! ## Refused -/

theorem State.probe_answered {tag : U8} {id : U16} {status : Status} (h : s.ready = true)
    (hh : s.handleProbeNow tag id = s.answer tag 0x24 status .none) :
    exec (.probeNow tag (.fields id)) s = .next (s.replied tag 0x24 status .none) := State.arrive_refused h hh rfl

theorem State.handleProbeNow_refused {tag : U8} {id : U16} {status : Status}
    (h : s.readRefusal id.toNat = some status) : s.handleProbeNow tag id = s.answer tag 0x24 status .none := by
  unfold State.handleProbeNow
  dsimp only
  rw [h]

theorem State.handleProbeNow_idle {tag : U8} {id : U16} (hid : 1 ≤ id.toNat ∧ id.toNat ≤ 512)
    (h : (s.circuit id.toNat).state = .idle) :
    s.handleProbeNow tag id = (s.appendEntry (plainEntry id.toNat .request)).answer tag 0x24 .ok .none := by
  have hread : s.readRefusal id.toNat = none := by
    rw [s.readRefusal_eq, if_neg (by omega), h]
    simp
  unfold State.handleProbeNow
  dsimp only
  rw [hread]
  simp only [h]

end

end Sys2Proof.Machine

namespace Sys2Proof.Proofs

open Sys2Proof.Machine

/-- Settles O14: the lane that is looked at is not ready for work. -/
theorem probeNowAnswered : Obligations.ProbeNowAnswered := by
  refine ⟨?_, ?_⟩
  · intro s tag id d r h hid hidle hd hready
    have hrest := State.atRest_of_ready h
    have hh : s.handleRequest tag (.probeNow (.fields id)) =
        (s.appendEntry (plainEntry id.toNat .request)).answer tag 0x24 .ok .none := State.handleProbeNow_idle hid hidle
    rw [State.appendEntry_first (State.looks_of_atRest hrest) (State.laneOf_of_definition hd)] at hh
    refine (State.arrive_forget h hh rfl rfl (State.noWork_append hrest hready)).trans ?_
    rw [← State.looks_of_atRest hrest]
    rfl
  · intro s tag id r h hfails
    have hrefusal := s.readRefusal_eq id.toNat
    by_cases hrange : id.toNat = 0 ∨ 512 < id.toNat
    · rw [if_pos hrange] at hrefusal ⊢
      exact State.probe_answered h (State.handleProbeNow_refused hrefusal)
    rw [if_neg hrange] at hrefusal ⊢
    by_cases hempty : r.state = .empty
    · rw [if_pos hempty]
      exact State.probe_answered h (State.handleProbeNow_refused (hrefusal.trans (if_pos hempty)))
    rw [if_neg hempty] at hrefusal ⊢
    by_cases hbad : r.state = .unreadable
    · rw [if_pos hbad]
      exact State.probe_answered h (State.handleProbeNow_refused (hrefusal.trans (if_pos hbad)))
    rw [if_neg hbad] at hrefusal ⊢
    have hstate : r.state ≠ .idle := fun hi => hfails ⟨by omega, hi⟩
    have hr : (s.circuit id.toNat).state = r.state := rfl
    have hh : s.handleProbeNow tag id =
        s.answer tag 0x24 (if r.state = .held then .circuitHeld else if r.state = .capturing then .circuitBusy
          else .alreadyPending) .none := by
      unfold State.handleProbeNow
      dsimp only
      rw [hrefusal]
      dsimp only
      rw [hr]
      cases hst : r.state <;> simp_all
    refine (State.probe_answered h hh).trans ?_
    split
    · rfl
    · split <;> rfl

/-- Settles O15: the new entry is the lane's only one, so the arbiter grants it in the same step. -/
theorem probeNowGranted : Obligations.ProbeNowGranted := by
  intro s tag id d r h hid hidle hd hpending hparked hage hrequested hqueue hfree
  have hrest := State.atRest_of_ready h
  have hlooks := State.looks_of_atRest hrest
  have hd' : (s.circuit id.toNat).definition = some d := hd
  have hidle' : (s.circuit id.toNat).state = .idle := hidle
  let t : State := { State.setCircuit { s with queue := s.queue ++ [plainEntry id.toNat .request] } id.toNat
    { r with state := .pending } with looks := [d.lane] }
  have hh : s.handleRequest tag (.probeNow (.fields id)) = t.answer tag 0x24 .ok .none :=
    (State.handleProbeNow_idle hid hidle).trans
      (by rw [State.appendEntry_first hlooks (State.laneOf_of_definition hd')]; rfl)
  have hans : t.answer tag 0x24 .ok .none =
      { t with replies := s.replies ++ [⟨tag, 0x24, .ok, .none, []⟩], processor := .free } :=
    t.answer_room _ _ _ _ (s.ready_iff.mp h).2.2
  have hcircuit : t.circuit id.toNat = { r with state := .pending } :=
    State.circuit_setCircuit_self { s with queue := s.queue ++ [plainEntry id.toNat .request] } id.toNat
      { r with state := .pending }
  have hlaneOf : ∀ c, t.laneOf c = s.laneOf c := fun c =>
    State.laneOf_setCircuit (s := { s with queue := s.queue ++ [plainEntry id.toNat .request] }) id.toNat
      { r with state := .pending } rfl c
  have hserved : t.served d.lane = true := by
    have hdue : (s.lane d.lane).due s.profile = false := by simp [Lane.due, hrequested, hage]
    show ((s.lane d.lane).ready && t.withheldByLane d.lane == .none) = true
    have hwithheld : t.withheldByLane d.lane = .none := by
      show (if s.pendingProfile.isSome then _ else if (s.lane d.lane).state == .faulted then _
        else if (s.lane d.lane).state == .calibrating then _ else if (s.lane d.lane).due s.profile then _ else _) = _
      simp [hpending, hparked, hdue]
    rw [hwithheld]
    simp [Lane.ready, hparked]
  have harb : (t.answer tag 0x24 .ok .none).arbitrate =
      { State.grantVerification (t.answer tag 0x24 .ok .none) d.lane (plainEntry id.toNat .request) d.channel with
        looks := [] } := by
    rw [hans]
    refine State.arbitrate_granted (before := s.queue) (after := []) rfl rfl ?_ ?_ hserved (s.hasFree_iff.mpr hfree) ?_ ?_ ?_
    · show (t.circuit id.toNat).definition = some d
      rw [hcircuit]
      exact hd
    · exact fun x hx he => hqueue x hx ((hlaneOf x.circuit).symm.trans he)
    · show (s.lane d.lane).state ≠ .faulted
      simp [hparked]
    · show (s.lane d.lane).takes d.channel = true
      simp [Lane.takes, hparked]
    · exact fun l _ => (State.tunedAtEnd_of_atRest hrest l : (s.lane l).tunedAtEnd = false)
  have hdropped : (s.queue ++ [plainEntry id.toNat .request]).filter (fun e => e.circuit != id.toNat) = s.queue := by
    have hkeep : s.queue.filter (fun e => e.circuit != id.toNat) = s.queue := by
      refine List.filter_eq_self.mpr fun e he => ?_
      have hne : e.circuit ≠ id.toNat := fun hc => hqueue e he (by rw [hc, hd']; rfl)
      simpa using hne
    rw [List.filter_append, hkeep]
    simp [plainEntry]
  have hwrite : tableWrite {} (tableWrite {} s.circuits id.toNat { r with state := .pending }) id.toNat
      { t.circuit id.toNat with state := .probing } =
        tableWrite {} s.circuits id.toNat { r with state := .probing } := by
    rw [tableWrite_tableWrite _ _ _ (Circuit.ne_empty_of_state (by simp)), hcircuit]
  have hbegin : (s.lane d.lane).begin d.channel s.profile.burstLength =
      { s.lane d.lane with
        state := .tuning, channel := d.channel, burstLength := s.profile.burstLength, headCommand := .tune d.channel } := by
    simp [Lane.begin, hparked]
  show s.arrive tag _ = _
  rw [s.arrive_ready h, hh, harb, hans]
  let x : State :=
    { (s.setCircuit id.toNat { r with state := .probing }).setLane d.lane
        { (s.lane d.lane).begin d.channel s.profile.burstLength with
          work := .verification id.toNat
          grant := some ⟨plainEntry id.toNat .request, s.profile.burstLength, s.profile.retries, [], .tuning⟩ } with
      reserved := { s.reserved with verdict := s.reserved.verdict + 1 } }
  have hgranted : { State.grantVerification
        { t with replies := s.replies ++ [⟨tag, 0x24, .ok, .none, []⟩], processor := .free } d.lane
        (plainEntry id.toNat .request) d.channel with looks := [] } = x.answer tag 0x24 .ok .none := by
    rw [x.answer_room _ _ _ _ (s.ready_iff.mp h).2.2]
    have hphase : (if (s.lane d.lane).state = .tuned then GrantPhase.measuring else .tuning) = .tuning := by
      simp [hparked]
    have hreplaced : ∀ (q : List QueueEntry) (cs : Table Circuit) (phase : GrantPhase) (ls : List LaneId),
        q = s.queue → cs = tableWrite {} s.circuits id.toNat { r with state := .probing } → phase = .tuning →
        ls = s.looks →
        ({ x with
          queue := q, circuits := cs, looks := ls
          lanes := s.lanes.set d.lane
            { (s.lane d.lane).begin d.channel s.profile.burstLength with
              work := .verification id.toNat
              grant := some (Grant.mk (plainEntry id.toNat .request) s.profile.burstLength s.profile.retries [] phase) } } :
          State) = x := by
      rintro _ _ _ _ rfl rfl rfl rfl
      rfl
    exact congrArg (fun y : State => { y with
      replies := s.replies ++ [Reply.mk tag 0x24 .ok .none []], processor := .free })
        (hreplaced _ _ _ _ hdropped hwrite hphase hlooks.symm)
  rw [hgranted, State.transmit_answer (t := x) h rfl rfl]
  show Host.Outcome.next (State.replied x _ _ _ _) = _
  simp only [x, hbegin]
  rfl

end Sys2Proof.Proofs


/-! # Windows refused and extended; campaigns refused, suspended and resumed; SET_PROTECTION -/

namespace Sys2Proof.Machine

section
variable {s : State} {tag : U8}

/-! ## The refusals of the windows' requests -/

theorem spanSet_of_fit {f : OpenFields} (hid : 1 ≤ f.id.toNat) (hne : f.spans ≠ [])
    (hspans : ∀ p ∈ f.spans, 1 ≤ p.toNat ∧ p.toNat ≤ 256) (hlen : (ascending (f.spans.map BitVec.toNat)).length ≤ 32) :
    f.spanSet = some (ascending (f.spans.map BitVec.toNat)) :=
  if_pos ⟨hid, by simpa using hne, (all_spanInRange_iff _).mpr hspans, hlen⟩

theorem spanSet_of_not_fit {f : OpenFields}
    (h : ¬(1 ≤ f.id.toNat ∧ f.spans ≠ [] ∧ (∀ p ∈ f.spans, 1 ≤ p.toNat ∧ p.toNat ≤ 256) ∧
      (ascending (f.spans.map BitVec.toNat)).length ≤ 32)) : f.spanSet = none :=
  if_neg fun ⟨hid, hne, hspans, hlen⟩ => h ⟨hid, by simpa using hne, (all_spanInRange_iff _).mp hspans, hlen⟩

/-- The checks of OPEN_WINDOW for an id, in their order. -/
theorem State.openRefusal_eq (s : State) (id : Nat) :
    s.openRefusal id =
      if 4 ≤ s.stack.length then some (.stackFull, .openWindows (s.stack.map (·.id)).reverse)
      else if ∃ w ∈ s.stack, w.id = id then some (.idInUse, .idFound true)
      else if ∃ c ∈ s.closures, c.windowId = id then some (.idInUse, .idFound false)
      else if 32 ≤ s.occupied then some (.noticesFull, .none) else none := by
  unfold State.openRefusal
  simp only [List.map_reverse, List.any_eq_true, beq_iff_eq, s.hasFree_eq_false_iff]
  rfl

theorem State.open_refused {f : OpenFields} {spans : List Nat} {status : Status} {body : ReplyBody} (h : s.ready = true)
    (hspans : f.spanSet = some spans) (hr : s.openRefusal f.id.toNat = some (status, body)) (hshort : body.isLong = false) :
    exec (.openWindow tag (.fields f)) s = .next (s.replied tag 0x30 status body) := by
  refine State.arrive_refused h ?_ hshort
  show s.handleOpenWindow tag f = _
  unfold State.handleOpenWindow
  rw [hspans]
  dsimp only
  rw [hr]

theorem State.namedTop_zero (s : State) : s.namedTop 0 = .error (.badField, .none) := if_pos rfl

theorem State.namedTop_empty {id : Nat} (hid : id ≠ 0) (h : s.stack = []) : s.namedTop id = .error (.noWindow, .none) := by
  unfold State.namedTop
  rw [if_neg hid, h]

theorem State.namedTop_other {id : Nat} {w : Window} {rest : List Window} (hid : id ≠ 0) (h : s.stack = w :: rest)
    (hw : w.id ≠ id) : s.namedTop id = .error (.notTop, .topWindow w.id) := by
  unfold State.namedTop
  rw [if_neg hid, h]
  exact if_neg hw

theorem State.namedTop_top {id : Nat} {w : Window} {rest : List Window} (hid : id ≠ 0) (h : s.stack = w :: rest)
    (hw : w.id = id) : s.namedTop id = .ok (w, rest) := by
  unfold State.namedTop
  rw [if_neg hid, h]
  exact if_pos hw

theorem State.close_refused {id : U16} {status : Status} {body : ReplyBody} (h : s.ready = true)
    (hr : s.namedTop id.toNat = .error (status, body)) (hshort : body.isLong = false) :
    exec (.closeWindow tag (.fields id)) s = .next (s.replied tag 0x32 status body) := by
  refine State.arrive_refused h ?_ hshort
  show s.handleCloseWindow tag id = _
  unfold State.handleCloseWindow
  rw [hr]

theorem State.abort_refused {id : U16} {status : Status} {body : ReplyBody} (h : s.ready = true)
    (hr : s.namedTop id.toNat = .error (status, body)) (hshort : body.isLong = false) :
    exec (.abortWindow tag (.fields id)) s = .next (s.replied tag 0x33 status body) := by
  refine State.arrive_refused h ?_ hshort
  show s.handleAbortWindow tag id = _
  unfold State.handleAbortWindow
  rw [hr]

/-! ## The fields of START_CAPTURE -/

/-- Check 1 of START_CAPTURE: a list of ids in range, or the option alone. -/
def startFits (f : StartFields) : Prop :=
  (f.option = 0 ∧ f.ids ≠ [] ∧ f.ids.length ≤ 512 ∧ (∀ c ∈ f.ids, 1 ≤ c.toNat ∧ c.toNat ≤ 512)) ∨
    (f.option = 1 ∧ f.count = 0)

theorem all_circuitInRange_iff {n : Nat} (ids : List (BitVec n)) :
    (ids.map BitVec.toNat).all circuitInRange = true ↔ ∀ c ∈ ids, 1 ≤ c.toNat ∧ c.toNat ≤ 512 := by
  simp only [List.all_eq_true, List.mem_map, forall_exists_index, and_imp, forall_apply_eq_imp_iff₂, circuitInRange_iff]

theorem choice_of_list {f : StartFields} (ho : f.option = 0) (hne : f.ids ≠ []) (hlen : f.ids.length ≤ 512)
    (hids : ∀ c ∈ f.ids, 1 ≤ c.toNat ∧ c.toNat ≤ 512) : f.choice = some (some (f.ids.map BitVec.toNat)) :=
  if_pos ⟨ho, by simpa using hne, by rw [List.length_map]; exact hlen, (all_circuitInRange_iff _).mpr hids⟩

theorem choice_of_option {f : StartFields} (ho : f.option = 1) (hc : f.count = 0) : f.choice = some none := by
  unfold StartFields.choice
  dsimp only
  rw [if_neg (by simp [ho]), if_pos ⟨ho, hc⟩]

theorem choice_isSome_iff (f : StartFields) : f.choice.isSome = true ↔ startFits f := by
  have hlist : (f.option = 0 ∧ f.ids.map BitVec.toNat ≠ [] ∧ (f.ids.map BitVec.toNat).length ≤ Config.maxCircuit ∧
      (f.ids.map BitVec.toNat).all circuitInRange = true) ↔
      (f.option = 0 ∧ f.ids ≠ [] ∧ f.ids.length ≤ 512 ∧ ∀ c ∈ f.ids, 1 ≤ c.toNat ∧ c.toNat ≤ 512) := by
    rw [all_circuitInRange_iff, List.length_map, Ne, List.map_eq_nil_iff]
    rfl
  unfold StartFields.choice startFits
  simp only [hlist]
  split
  · next h => exact iff_of_true rfl (.inl h)
  · next h =>
    split
    · next h' => exact iff_of_true rfl (.inr h')
    · next h' => exact iff_of_false (by simp) fun hf => hf.elim h h'

theorem State.start_refused {f : StartFields} {status : Status} {body : ReplyBody} (h : s.ready = true)
    (hf : f.choice.isSome = true) (hr : s.startRefusal = some (status, body)) (hshort : body.isLong = false) :
    exec (.startCapture tag (.fields f)) s =
      .next (State.replied { s with permit := s.permit && !(status != .noPermit) } tag 0x42 status body) := by
  refine State.arrive_changed h ?_ rfl rfl rfl hshort
  show s.handleStartCapture tag f = _
  obtain ⟨choice, hchoice⟩ := Option.isSome_iff_exists.mp hf
  unfold State.handleStartCapture
  rw [hchoice]
  dsimp only
  rw [hr]
  dsimp only
  by_cases hp : status = .noPermit
  · simp [hp]
  · rw [if_neg hp, bne_iff_ne.mpr hp, s.permit_spent]
    rfl

/-! ## Suspension and resumption -/

/-- A campaign in progress with a reason stands by what is in flight. -/
theorem Campaign.followReasons_eq {c : Campaign} (h : c.state ≠ .idle) (hr : c.host = true ∨ c.window = true) :
    c.followReasons = { c with state := if c.anyInFlight then .suspending else .suspended } :=
  if_pos ⟨h, by simpa using hr⟩

theorem Campaign.followReasons_none {c : Campaign} (h : c.state = .idle ∨ (c.host = false ∧ c.window = false)) :
    c.followReasons = c := by
  unfold Campaign.followReasons
  rw [if_neg]
  rintro ⟨hs, hr⟩
  rcases h with h | ⟨hh, hw⟩
  · exact hs h
  · simp [hh, hw] at hr

theorem State.reachUndefined_defined {c : Nat} (h : (s.circuit c).state ≠ .empty ∧ (s.circuit c).state ≠ .unreadable) :
    s.reachUndefined c = s := by
  unfold State.reachUndefined
  dsimp only
  rw [if_neg h.1, if_neg h.2]
  exact ite_self s

theorem State.reachUndefined_processed {c : Nat} (h : s.namedUnprocessed c = false) : s.reachUndefined c = s := by
  unfold State.reachUndefined
  dsimp only
  exact if_neg (by simp [h])

/-- The entry of a circuit is one of the campaign's, and names it. -/
theorem Campaign.entryFor_mem {c : Campaign} {n : Nat} {e : CaptureEntry} (h : c.entryFor n = some e) :
    e ∈ c.entries ∧ e.circuit = n :=
  ⟨List.mem_of_find?_eq_some h, by simpa using List.find?_some (p := fun e : CaptureEntry => e.circuit == n) h⟩

/-- No UNPROCESSED entry of the campaign names a slot without a definition. -/
def State.unprocessedDefined (s : State) : Prop :=
  ∀ e ∈ s.campaign.entries, e.status = .unprocessed →
    (s.circuit e.circuit).state ≠ .empty ∧ (s.circuit e.circuit).state ≠ .unreadable

theorem State.reachUndefined_none (h : s.unprocessedDefined) (c : Nat) : s.reachUndefined c = s := by
  cases hn : s.namedUnprocessed c with
  | false => exact State.reachUndefined_processed hn
  | true =>
    simp only [State.namedUnprocessed, State.entryIs, Bool.and_eq_true] at hn
    obtain ⟨-, hentry⟩ := hn
    cases he : s.campaign.entryFor c with
    | none => simp [he] at hentry
    | some e =>
      obtain ⟨hmem, hc⟩ := Campaign.entryFor_mem he
      rw [he] at hentry
      have := h e hmem (by simpa using hentry)
      rw [hc] at this
      exact State.reachUndefined_defined this

/-- A campaign without entries to reach becomes RUNNING, and every lane is looked at. -/
theorem State.startRunning_eq (h : s.unprocessedDefined) :
    ∃ ls, s.startRunning = { s with campaign := { s.campaign with state := .running }, looks := ls } := by
  have hfold : ∀ (cs : List Nat) (t : State), t.unprocessedDefined → cs.foldl State.reachUndefined t = t := by
    intro cs t ht
    induction cs with
    | nil => rfl
    | cons c cs ih => rw [List.foldl_cons, State.reachUndefined_none ht c, ih]
  have ht : State.unprocessedDefined { s with campaign := { s.campaign with state := .running } } := h
  unfold State.startRunning
  dsimp only
  rw [hfold _ _ ht]
  exact State.lookAtAll_eq _

/-! ## SET_PROTECTION -/

theorem flagOf_of_le {b : U8} (h : b.toNat ≤ 1) : flagOf b = some (b == 1) := by
  have hb : b = 0 ∨ b = 1 := by
    rcases Nat.le_one_iff_eq_zero_or_eq_one.mp h with h | h
    · exact .inl (BitVec.eq_of_toNat_eq h)
    · exact .inr (BitVec.eq_of_toNat_eq h)
  rcases hb with rfl | rfl <;> rfl

theorem flagOf_of_lt {b : U8} (h : 1 < b.toNat) : flagOf b = none := by
  have h0 : b ≠ 0 := by rintro rfl; simp at h
  have h1 : b ≠ 1 := by rintro rfl; simp at h
  unfold flagOf
  rw [if_neg h0, if_neg h1]

/-- The level that a level byte names. -/
def levelNamed (b : U8) : LockLevel := if b = 0 then .openLevel else if b = 1 then .line else .session

theorem State.recordToWrite_named (s : State) (region : Region) (b : U8) :
    s.recordToWrite region (levelNamed b) =
      ⟨region, if b = 0 then .openLevel else if b = 1 then .line else s.storedLevel⟩ := by
  unfold State.recordToWrite levelNamed
  by_cases h0 : b = 0
  · rw [if_pos h0, if_pos h0]
  · by_cases h1 : b = 1
    · rw [if_neg h0, if_neg h0, if_pos h1, if_pos h1]
    · rw [if_neg h0, if_neg h0, if_neg h1, if_neg h1]

theorem levelNamed_eq_session {b : U8} (h : b.toNat ≤ 2) : (levelNamed b == .session) = (b == 2) := by
  have hb : b.toNat = 0 ∨ b.toNat = 1 ∨ b.toNat = 2 := by omega
  have hcases : b = 0 ∨ b = 1 ∨ b = 2 :=
    hb.imp BitVec.eq_of_toNat_eq (Or.imp BitVec.eq_of_toNat_eq BitVec.eq_of_toNat_eq)
  rcases hcases with rfl | rfl | rfl <;> rfl

theorem protect_request_of_fit {f : ProtectFields} (hs : f.side.toNat ≤ 1) (hn : f.n.toNat ≤ 32)
    (hc : f.complement.toNat ≤ 1) (hl : f.level.toNat ≤ 2) :
    f.request = some ({ side := if f.side = 0 then .low else .high, n := f.n.toNat, complement := f.complement == 1 },
      levelNamed f.level) := by
  have hside : (if f.side == 1 then Side.high else .low) = if f.side = 0 then Side.low else .high := by
    have hb : f.side = 0 ∨ f.side = 1 := by
      rcases Nat.le_one_iff_eq_zero_or_eq_one.mp hs with h | h
      · exact .inl (BitVec.eq_of_toNat_eq h)
      · exact .inr (BitVec.eq_of_toNat_eq h)
    rcases hb with hb | hb <;> rw [hb] <;> rfl
  unfold ProtectFields.request
  rw [flagOf_of_le hs, flagOf_of_le hc]
  dsimp only
  rw [if_pos ⟨hn, hl⟩, hside]
  rfl

theorem protect_request_of_not_fit {f : ProtectFields}
    (h : ¬(f.side.toNat ≤ 1 ∧ f.n.toNat ≤ 32 ∧ f.complement.toNat ≤ 1 ∧ f.level.toNat ≤ 2)) : f.request = none := by
  unfold ProtectFields.request
  by_cases hs : f.side.toNat ≤ 1
  · by_cases hc : f.complement.toNat ≤ 1
    · rw [flagOf_of_le hs, flagOf_of_le hc]
      exact if_neg fun ⟨hn, hl⟩ => h ⟨hs, hn, hc, hl⟩
    · rw [flagOf_of_lt (Nat.lt_of_not_le hc)]
      cases flagOf f.side <;> rfl
  · rw [flagOf_of_lt (Nat.lt_of_not_le hs)]

theorem State.lockedNow_iff (s : State) :
    s.lockedNow = true ↔ s.levelInForce = .session ∨ (s.levelInForce = .line ∧ s.refLock = true) := by
  unfold State.lockedNow
  cases s.levelInForce <;> simp

end

end Sys2Proof.Machine

namespace Sys2Proof.Proofs

open Sys2Proof.Machine

/-- Settles O18: each refusal by the first check that fails. -/
theorem windowRefusals : Obligations.WindowRefusals := by
  refine ⟨?_, ?_, ?_, ?_⟩
  · intro s tag f spans h hbad
    refine State.arrive_refused h ?_ rfl
    show s.handleOpenWindow tag f = _
    unfold State.handleOpenWindow
    rw [spanSet_of_not_fit hbad]
  · intro s tag f spans h hid hne hspans hlen hfails
    have hset := spanSet_of_fit hid hne hspans hlen
    have hrefusal := s.openRefusal_eq f.id.toNat
    by_cases hfull : 4 ≤ s.stack.length
    · rw [if_pos hfull] at hrefusal ⊢
      exact State.open_refused h hset hrefusal rfl
    rw [if_neg hfull] at hrefusal ⊢
    by_cases hstack : ∃ w ∈ s.stack, w.id = f.id.toNat
    · rw [if_pos hstack] at hrefusal ⊢
      exact State.open_refused h hset hrefusal rfl
    rw [if_neg hstack] at hrefusal ⊢
    by_cases hclosures : ∃ c ∈ s.closures, c.windowId = f.id.toNat
    · rw [if_pos hclosures] at hrefusal ⊢
      exact State.open_refused h hset hrefusal rfl
    rw [if_neg hclosures] at hrefusal ⊢
    have hnotices : 32 ≤ s.occupied := by
      by_contra hfree
      exact hfails ⟨by omega, fun w hw he => hstack ⟨w, hw, he⟩, fun c hc he => hclosures ⟨c, hc, he⟩, by omega⟩
    exact State.open_refused h hset (hrefusal.trans (if_pos hnotices)) rfl
  · intro s tag id h hfails
    by_cases hid : id.toNat = 0
    · rw [if_pos hid]
      exact State.close_refused h (hid ▸ s.namedTop_zero) rfl
    rw [if_neg hid]
    cases hstack : s.stack with
    | nil => exact State.close_refused h (State.namedTop_empty hid hstack) rfl
    | cons w rest =>
      dsimp only
      by_cases hw : w.id ≠ id.toNat
      · rw [if_pos hw]
        exact State.close_refused h (State.namedTop_other hid hstack hw) rfl
      rw [if_neg hw]
      have hfull : 8 ≤ s.closures.length := by
        rcases hfails with hz | ht | hc
        · exact absurd hz hid
        · simp [hstack, not_not.mp hw] at ht
        · exact hc
      refine State.arrive_refused h ?_ rfl
      show s.handleCloseWindow tag id = _
      unfold State.handleCloseWindow
      rw [State.namedTop_top hid hstack (not_not.mp hw)]
      exact if_pos hfull
  · intro s tag id h hfails
    by_cases hid : id.toNat = 0
    · rw [if_pos hid]
      exact State.abort_refused h (hid ▸ s.namedTop_zero) rfl
    rw [if_neg hid]
    cases hstack : s.stack with
    | nil => exact State.abort_refused h (State.namedTop_empty hid hstack) rfl
    | cons w rest =>
      have hw : w.id ≠ id.toNat := by
        rcases hfails with hz | ht
        · exact absurd hz hid
        · simpa [hstack] using ht
      exact State.abort_refused h (State.namedTop_other hid hstack hw) rfl

/-- Settles O19. -/
theorem extendWindowAnswered : Obligations.ExtendWindowAnswered := by
  intro s tag f h
  have hh : s.handleRequest tag (.extendWindow (.fields f)) = s.handleExtendWindow tag f := rfl
  unfold State.handleExtendWindow at hh
  dsimp only at hh
  by_cases hbad : f.id.toNat = 0 ∨ f.seconds.toNat = 0
  · rw [if_pos hbad] at hh ⊢
    exact State.arrive_refused h hh rfl
  rw [if_neg hbad] at hh ⊢
  cases hw : s.stack.find? fun w => w.id == f.id.toNat with
  | none =>
    rw [hw] at hh
    exact State.arrive_refused h hh rfl
  | some w =>
    rw [hw] at hh
    exact State.arrive_changed h hh rfl rfl rfl rfl

/-- Settles O23. -/
theorem startCaptureRefused : Obligations.StartCaptureRefused := by
  refine ⟨fun s tag f h hbad => ?_, fun s tag f h hfit hfails => ?_⟩
  · refine State.arrive_changed (t := s.usePermit) h ?_ rfl rfl rfl rfl
    show s.handleStartCapture tag f = _
    have hnone : f.choice = none := by
      rw [← Option.not_isSome_iff_eq_none, choice_isSome_iff]
      exact hbad
    unfold State.handleStartCapture
    rw [hnone]
  · have hf := (choice_isSome_iff f).mpr hfit
    by_cases hactive : s.campaign.state ≠ .idle
    · rw [if_pos hactive]
      refine (State.start_refused h hf (if_pos hactive) rfl).trans ?_
      rw [bne_iff_ne.mpr (by simp : Status.captureActive ≠ .noPermit), s.permit_spent]
    rw [if_neg hactive]
    by_cases hpermit : s.permit = false
    · rw [if_pos hpermit]
      have hr : s.startRefusal = some (.noPermit, .none) := by
        unfold State.startRefusal
        rw [if_neg hactive, if_pos hpermit]
      refine (State.start_refused h hf hr rfl).trans ?_
      simp
    rw [if_neg hpermit]
    have hfull : s.hasFree = false := by
      rw [s.hasFree_eq_false_iff]
      by_contra hfree
      exact hfails ⟨not_not.mp hactive, by simpa using hpermit, by omega⟩
    have hr : s.startRefusal = some (.noticesFull, .none) := by
      unfold State.startRefusal
      rw [if_neg hactive, if_neg hpermit, if_pos hfull]
    refine (State.start_refused h hf hr rfl).trans ?_
    rw [bne_iff_ne.mpr (by simp : Status.noticesFull ≠ .noPermit), s.permit_spent]

/-- Settles O24, by the reasons that stand. -/
theorem suspendAndResume : Obligations.SuspendAndResume := by
  refine ⟨?_, ?_⟩
  · intro s tag c h
    have hh : s.handleRequest tag .suspendCapture =
        if s.campaign.state = .idle then s.answer tag 0x43 .noCapture .none else s.suspend.answerReasons tag 0x43 := rfl
    by_cases hidle : s.campaign.state = .idle
    · rw [if_pos hidle] at hh ⊢
      exact State.arrive_refused h hh rfl
    rw [if_neg hidle] at hh ⊢
    have hsuspend : s.suspend = { s with campaign := c } := by
      unfold State.suspend
      dsimp only [c]
      by_cases hhost : s.campaign.host = true
      · rw [if_pos hhost, if_pos hhost]
      rw [if_neg hhost, if_neg hhost]
      by_cases howed : s.campaign.progressOwed = true
      · rw [if_pos howed, if_pos howed]
      rw [if_neg howed, if_neg howed]
      have hfollow : s.campaign.addHost = _ :=
        Campaign.followReasons_eq (c := { s.campaign with host := true }) hidle (.inl rfl)
      rw [hfollow]
      show ({ s with campaign := { s.campaign with
        host := true, state := if s.campaign.anyInFlight then .suspending else .suspended } } : State) = _
      split <;> rfl
    rw [hsuspend] at hh
    exact State.arrive_changed h hh rfl rfl rfl rfl
  · intro s tag c h hbusy hrunning hdefined
    have hh : s.handleRequest tag .resumeCapture =
        if s.campaign.state = .idle then s.answer tag 0x44 .noCapture .none else s.resume.answerReasons tag 0x44 := rfl
    by_cases hidle : s.campaign.state = .idle
    · rw [if_pos hidle] at hh ⊢
      exact State.arrive_refused h hh rfl
    rw [if_neg hidle] at hh ⊢
    have hresume : ∃ ls, s.resume = { s with campaign := c, looks := ls } := by
      unfold State.resume
      dsimp only [c]
      by_cases hhost : s.campaign.host = true
      · rw [if_pos hhost, if_neg (by simp [hhost])]
        unfold State.resumeIfFree
        dsimp only
        by_cases hwindow : s.campaign.window = true
        · rw [if_neg (by simp [hwindow]), if_pos hwindow]
          exact ⟨s.looks, rfl⟩
        · have hstate : s.campaign.state = .suspending ∨ s.campaign.state = .suspended := by
            have := hrunning hhost
            cases hs : s.campaign.state <;> simp_all
          rw [if_pos ⟨hstate, rfl, by simpa using hwindow⟩, if_neg hwindow]
          refine State.startRunning_eq ?_
          exact hdefined
      · rw [if_neg hhost, if_pos (by simpa using hhost)]
        exact ⟨s.looks, rfl⟩
    obtain ⟨ls, hls⟩ := hresume
    rw [hls] at hh
    have hwork : State.NoWork { s with campaign := c, looks := ls } := State.noWork_of_busy hbusy
    refine (State.arrive_forget h hh rfl rfl hwork).trans ?_
    rw [← State.looks_of_atRest (State.atRest_of_ready h)]

/-- Settles O26: the level and REF_LOCK come before the permit. -/
theorem setProtectionAnswered : Obligations.SetProtectionAnswered := by
  refine ⟨?_, fun s tag f h hbad => ?_, ?_⟩
  · intro s tag f level h hfit hfails
    obtain ⟨hside, hn, hcomplement, hlevel⟩ := hfit
    have hlevel' : s.levelInForce = level := s.levelInForce_eq
    have hlocked := s.lockedNow_iff
    rw [hlevel'] at hlocked
    have hh : s.handleRequest tag (.setProtection (.fields f)) = s.handleSetProtection tag f := rfl
    unfold State.handleSetProtection at hh
    rw [protect_request_of_fit hside hn hcomplement hlevel] at hh
    dsimp only at hh
    by_cases hl : s.lockedNow = true
    · rw [if_pos hl, hlevel'] at hh
      rw [if_pos (hlocked.mp hl)]
      exact State.arrive_refused h hh rfl
    · have hopen := fun h => hl (hlocked.mpr h)
      have hpermit : s.permit = false := by
        rcases hfails with hf | hf | hf
        · exact absurd (.inl hf) hopen
        · exact absurd (.inr hf) hopen
        · exact hf
      rw [if_neg hl, if_pos hpermit] at hh
      rw [if_neg hopen]
      exact State.arrive_refused h hh rfl
  · refine State.arrive_changed (t := s.usePermit) h ?_ rfl rfl rfl rfl
    show s.handleSetProtection tag f = _
    unfold State.handleSetProtection
    rw [protect_request_of_not_fit hbad]
  · intro s tag f level record h hc hw hfit hopen hpermit
    obtain ⟨hside, hn, hcomplement, hl⟩ := hfit
    have hlevel' : s.levelInForce = level := s.levelInForce_eq
    have hunlocked : ¬s.lockedNow = true := by
      rw [s.lockedNow_iff, hlevel']
      rintro (hs | ⟨hs, hr⟩)
      · rcases hopen with ho | ⟨ho, -⟩ <;> simp [hs] at ho
      · rcases hopen with ho | ⟨-, hf⟩
        · simp [hs] at ho
        · simp [hr] at hf
    have hh : s.handleRequest tag (.setProtection (.fields f)) =
        State.handCommit
          { s with
            regionBeingWritten := some record.region
            processor := .committing tag (.protect record (f.level == 2)) } (.writeProtection record) .processor := by
      show s.handleSetProtection tag f = _
      unfold State.handleSetProtection
      rw [protect_request_of_fit hside hn hcomplement hl]
      dsimp only
      rw [if_neg hunlocked, if_neg (by simp [hpermit]), levelNamed_eq_session hl, State.recordToWrite_named]
    have hbegun : State.handCommit
        { s with
          regionBeingWritten := some record.region
          processor := .committing tag (.protect record (f.level == 2)) } (.writeProtection record) .processor =
        { s with
          regionBeingWritten := some record.region
          processor := .committing tag (.protect record (f.level == 2))
          commits := [⟨.writeProtection record, .processor⟩]
          writing := some ⟨.write, .protection s.protSlot⟩
          protSlot := .damaged } := by
      have ⟨_, hr, _⟩ := s.calm_iff.mp (State.calm_of_ready h)
      refine (State.handCommit_first ?_ ?_ ?_).trans ?_
      · exact hc
      · exact hw
      · exact hr
      · rfl
    rw [hbegun] at hh
    exact State.arrive_waits h hh rfl rfl

end Sys2Proof.Proofs


/-! # Holds: what one more hold does to a circuit by its state -/

namespace Sys2Proof.Machine

section
variable {s : State} {c : Nat}

/-! ## Changing a circuit's record twice -/

theorem Circuit.ne_empty_of_holds {r : Circuit} (h : 0 < r.holds) : r ≠ {} := fun he => by simp [he] at h

/-- One more hold, and then another change of the same record. -/
theorem State.modifyCircuit_held (f : Circuit → Circuit) :
    State.modifyCircuit (s.modifyCircuit c fun r => { r with holds := r.holds + 1 }) c f =
      s.setCircuit c (f { s.circuit c with holds := (s.circuit c).holds + 1 }) := by
  unfold State.modifyCircuit
  rw [State.circuit_setCircuit_self, State.setCircuit_setCircuit _ (Circuit.ne_empty_of_holds (Nat.succ_pos _))]

/-- The circuit with one hold more, HELD. -/
def State.held (s : State) (c : Nat) : State :=
  s.setCircuit c { s.circuit c with holds := (s.circuit c).holds + 1, state := .held }

theorem State.setCircuitState_held :
    (s.modifyCircuit c fun r => { r with holds := r.holds + 1 }).setCircuitState c .held = s.held c :=
  State.modifyCircuit_held _

/-! ## Re-holds -/

/-- A re-hold leaves outstanding; at 0 the record is summarised into its reservation and discarded (R43, R44). -/
def State.reHeld (s : State) (r : Closure) : State :=
  let r' : Closure := { r with reHeld := r.reHeld + 1, outstanding := r.outstanding - 1 }
  if 1 < r.outstanding then { s with closures := s.closures.map fun x => if x.windowId = r.windowId then r' else x }
  else
    { s with
      closures := s.closures.filter fun x => x.windowId != r.windowId
      reserved := { s.reserved with summary := s.reserved.summary - 1 }
      notices := s.notices ++ [.windowSummary r' false] }

theorem State.windowId_of_find {t : Nat} {r : Closure} (h : s.closures.find? (fun x => x.windowId == t) = some r) :
    r.windowId = t := by
  simpa using List.find?_some (p := fun x : Closure => x.windowId == t) h

theorem State.updateClosure_none {t : Nat} {f : Closure → Closure}
    (h : s.closures.find? (fun x => x.windowId == t) = none) : s.updateClosure t f = s := by
  unfold State.updateClosure
  rw [h]

/-- A record with more than one circuit outstanding stays. -/
theorem State.updateClosure_stays {t : Nat} {r : Closure} {f : Closure → Closure}
    (h : s.closures.find? (fun x => x.windowId == t) = some r) (hr : 1 < r.outstanding) :
    s.updateClosure t f =
      { s with closures := s.closures.map fun x =>
          if x.windowId = t then { f r with outstanding := r.outstanding - 1 } else x } := by
  unfold State.updateClosure
  rw [h]
  dsimp only
  exact if_neg (by omega)

/-- A record with its last circuit outstanding is summarised and discarded. -/
theorem State.updateClosure_ends {t : Nat} {r : Closure} {f : Closure → Closure}
    (h : s.closures.find? (fun x => x.windowId == t) = some r) (hr : r.outstanding ≤ 1)
    (hreserved : 1 ≤ s.reserved.summary) :
    s.updateClosure t f =
      { s with
        closures := s.closures.filter fun x => x.windowId != t
        reserved := { s.reserved with summary := s.reserved.summary - 1 }
        notices := s.notices ++ [.windowSummary { f r with outstanding := r.outstanding - 1 } false] } := by
  unfold State.updateClosure
  rw [h]
  dsimp only
  rw [if_pos (show r.outstanding - 1 = 0 by omega)]
  exact State.queueReserved_reserved _ _ _ (show s.reserved.summary ≠ 0 by omega)

theorem State.countReHold_none : s.countReHold none = s := rfl

theorem State.countReHold_gone {t : Nat} (h : s.closures.find? (fun x => x.windowId == t) = none) :
    s.countReHold (some t) = s := State.updateClosure_none h

/-- A re-hold in the record of its tag. -/
theorem State.countReHold_some {t : Nat} {r : Closure} (h : s.closures.find? (fun x => x.windowId == t) = some r)
    (hreserved : 1 ≤ s.reserved.summary) : s.countReHold (some t) = s.reHeld r := by
  obtain rfl := State.windowId_of_find h
  unfold State.reHeld
  dsimp only
  by_cases hr : 1 < r.outstanding
  · rw [if_pos hr]
    exact State.updateClosure_stays (f := fun c => { c with reHeld := c.reHeld + 1 }) h hr
  · rw [if_neg hr]
    exact State.updateClosure_ends (f := fun c => { c with reHeld := c.reHeld + 1 }) h (by omega) hreserved

/-! ## A hold by the circuit's state -/

theorem State.addHold_quiet (h : (s.circuit c).state = .idle ∨ (s.circuit c).state = .held) : s.addHold c = s.held c := by
  unfold State.addHold
  rcases h with h | h <;> rw [h] <;> exact State.setCircuitState_held

theorem State.addHold_pending (h : (s.circuit c).state = .pending) :
    s.addHold c = State.countReHold
      { s.held c with queue := s.queue.filter fun e => e.circuit != c } (s.queuedTag c) := by
  unfold State.addHold
  rw [h]
  dsimp only
  have hdrop : ((s.modifyCircuit c fun r => { r with holds := r.holds + 1 }).dropEntry c).setCircuitState c .held =
      { s.held c with queue := s.queue.filter fun e => e.circuit != c } := by
    rw [← State.setCircuitState_held]
    rfl
  rw [hdrop]

theorem State.addHold_probing (h : (s.circuit c).state = .probing) : s.addHold c = (s.held c).takeBack c := by
  unfold State.addHold
  rw [h]
  dsimp only
  rw [State.setCircuitState_held]

theorem State.grantOf_held {d : Definition} {g : Grant} (hd : (s.circuit c).definition = some d)
    (hg : (s.lane d.lane).grant = some g) (hc : g.entry.circuit = c) : (s.held c).grantOf c = some (d.lane, g) := by
  have hlane : (s.held c).laneOf c = some d.lane := by
    unfold State.laneOf State.held
    rw [State.circuit_setCircuit_self]
    simp [hd]
  have hg' : ((s.held c).lane d.lane).grant = some g := hg
  unfold State.grantOf
  rw [hlane]
  dsimp only
  rw [hg']
  exact if_pos hc

/-- A PROBING circuit is taken back from its lane. -/
theorem State.addHold_granted {d : Definition} {g : Grant} (h : (s.circuit c).state = .probing)
    (hd : (s.circuit c).definition = some d) (hg : (s.lane d.lane).grant = some g) (hc : g.entry.circuit = c) :
    ∃ ls, s.addHold c = State.countReHold
      { (s.held c).setLane d.lane (s.lane d.lane).stop with
        reserved := { s.reserved with verdict := s.reserved.verdict - 1 }, looks := ls } g.entry.tag := by
  rw [State.addHold_probing h, State.takeBack, State.grantOf_held hd hg hc]
  dsimp only
  obtain ⟨ls, hls⟩ := State.returnReservation_eq ((s.held c).modifyLane d.lane Lane.stop) .verdict
  exact ⟨ls, by rw [hls]; rfl⟩

theorem State.addHold_committing (h : (s.circuit c).state = .capturing)
    (hm : s.entryIs c EntryStatus.isMeasuring = false) :
    s.addHold c = s.setCircuit c { s.circuit c with holds := (s.circuit c).holds + 1, releaseOwed := none } := by
  unfold State.addHold
  rw [h]
  dsimp only
  rw [if_neg (by simp [hm])]
  exact State.modifyCircuit_held _

theorem State.reHeld_looks (u : State) (r : Closure) (ls : List LaneId) :
    State.reHeld { u with looks := ls } r = { u.reHeld r with looks := ls } := by
  unfold State.reHeld
  dsimp only
  split <;> rfl

/-- The campaign whose MEASURING entry of circuit `c` returns to UNPROCESSED. -/
theorem Campaign.followReasons_cases (c : Campaign) :
    c.followReasons =
      { c with
        state :=
          if c.state = .idle ∨ (c.host = false ∧ c.window = false) then c.state
          else if c.entries.any (fun e => e.status.inFlight) then .suspending
          else .suspended } := by
  by_cases h : c.state = .idle ∨ (c.host = false ∧ c.window = false)
  · rw [Campaign.followReasons_none h, if_pos h]
  · rw [if_neg h, Campaign.followReasons_eq (fun hs => h (.inl hs))]
    · rfl
    · by_contra hno
      refine h (.inr ⟨?_, ?_⟩)
      · by_contra hh
        exact hno (.inl (by simpa using hh))
      · by_contra hw
        exact hno (.inr (by simpa using hw))

/-- The capture of a circuit in its measuring phase is abandoned. -/
theorem State.addHold_measuring {l : LaneId} (h : (s.circuit c).state = .capturing)
    (he : s.campaign.entryFor c = some ⟨c, .measuring l⟩) :
    ∃ ls, s.addHold c =
      { (s.held c).setLane l (s.lane l).stop with
        campaign := Campaign.followReasons { s.campaign with
          entries := s.campaign.entries.map fun e => if e.circuit = c then ⟨c, .unprocessed⟩ else e }
        looks := ls } := by
  have hm : s.entryIs c EntryStatus.isMeasuring = true := by
    unfold State.entryIs
    rw [he]
    rfl
  have hentries : (s.campaign.entries.map fun e => if e.circuit = c then { e with status := .unprocessed } else e) =
      s.campaign.entries.map fun e => if e.circuit = c then ⟨c, .unprocessed⟩ else e := by
    refine List.map_congr_left fun e _ => ?_
    by_cases hc : e.circuit = c
    · rw [if_pos hc, if_pos hc, hc]
    · rw [if_neg hc, if_neg hc]
  have hstop : State.stopCapture (s.modifyCircuit c fun r => { r with holds := r.holds + 1 }) c =
      State.modifyLane (s.modifyCircuit c fun r => { r with holds := r.holds + 1 }) l Lane.stop := by
    have he' : (s.modifyCircuit c fun r => { r with holds := r.holds + 1 }).campaign.entryFor c =
        some ⟨c, .measuring l⟩ := he
    unfold State.stopCapture
    rw [he']
  have hheld : State.setCircuitState
      (State.modifyLane (s.modifyCircuit c fun r => { r with holds := r.holds + 1 }) l Lane.stop) c .held =
        (s.held c).setLane l (s.lane l).stop := by
    rw [← State.setCircuitState_held]
    rfl
  unfold State.addHold
  rw [h]
  dsimp only
  rw [if_pos hm]
  unfold State.abandonCapture
  rw [hstop, hheld]
  unfold State.returnEntry State.setEntry
  dsimp only
  simp only [State.setLane_campaign]
  have hcampaign : (s.held c).campaign = s.campaign := rfl
  rw [hcampaign, hentries]
  obtain ⟨ls, hls⟩ := State.lookAtCircuit_eq
    { (s.held c).setLane l (s.lane l).stop with
        campaign := Campaign.followReasons { s.campaign with
          entries := s.campaign.entries.map fun e => if e.circuit = c then ⟨c, .unprocessed⟩ else e } } c
  exact ⟨ls, hls⟩

end

end Sys2Proof.Machine

namespace Sys2Proof.Proofs

open Sys2Proof.Machine

/-- Settles O17, by the circuit's state and the closure record of its tag. -/
theorem holdTaken : Obligations.HoldTaken := by
  refine ⟨fun s c h => State.addHold_quiet h, fun s c h ht => ?_, fun s c d g h hd hg hc ht => ?_,
    fun s c l h he => ?_, fun s c h hm => State.addHold_committing h hm, fun s t r hr ho => ?_,
    fun s c t r h ht hr hreserved => ?_, fun s c t r d g h hd hg hc ht hr hreserved => ?_, fun s c t h ht hr => ?_⟩
  · rw [State.addHold_pending h, ht]
    rfl
  · obtain ⟨ls, hls⟩ := State.addHold_granted h hd hg hc
    rw [ht, State.countReHold_none] at hls
    rw [hls]
    rfl
  · obtain ⟨ls, hls⟩ := State.addHold_measuring h he
    rw [Campaign.followReasons_cases] at hls
    rw [hls]
    rfl
  · exact State.updateClosure_stays (f := fun c => { c with reHeld := c.reHeld + 1 }) hr ho
  · rw [State.addHold_pending h, ht]
    exact State.countReHold_some hr hreserved
  · obtain ⟨ls, hls⟩ := State.addHold_granted h hd hg hc
    rw [ht] at hls
    intro reHeld
    have hsome : s.addHold c = _ := hls.trans (State.countReHold_some (r := r) hr hreserved)
    have hlooks := State.reHeld_looks { (s.held c).setLane d.lane (s.lane d.lane).stop with
      reserved := { s.reserved with verdict := s.reserved.verdict - 1 } } r ls
    rw [hsome.trans hlooks]
    rfl
  · rw [State.addHold_pending h, ht]
    exact State.countReHold_gone hr

end Sys2Proof.Proofs


/-! # OPEN_WINDOW taken: one hold on each circuit it crosses -/

namespace Sys2Proof.Machine

/-! ## The circuits a window crosses -/

theorem ascending_pairwise (l : List Nat) : (ascending l).Pairwise (· < ·) := by
  have h : ∀ (l acc : List Nat), acc.Pairwise (· < ·) → (l.foldl (fun acc a => insertAsc a acc) acc).Pairwise (· < ·) := by
    intro l
    induction l with
    | nil => exact fun _ h => h
    | cons a l ih => exact fun acc h => ih _ (insertAsc_ascending h)
  exact h l [] List.Pairwise.nil

theorem State.crossingAny_nodup (s : State) (spans : List Nat) : (s.crossingAny spans).Nodup :=
  (ascending_pairwise _).imp fun h => Nat.ne_of_lt h

/-! ## One change to each circuit of a list -/

/-- The state with other circuit records. -/
def State.withCircuits (s : State) (t : Table Circuit) : State := { s with circuits := t }

/-- An operation that changes one circuit's record by `g`, and nothing else, changes each record of a list once. -/
theorem State.foldl_circuits {s : State} {f : State → Nat → State} {g : Nat → Circuit} {cs : List Nat} (hnd : cs.Nodup)
    (hf : ∀ (t : Table Circuit) (c : Nat), c ∈ cs → (s.withCircuits t).circuit c = s.circuit c →
      f (s.withCircuits t) c = (s.withCircuits t).setCircuit c (g c)) :
    ∃ t, cs.foldl f s = s.withCircuits t ∧
      ∀ c, (s.withCircuits t).circuit c = if c ∈ cs then g c else s.circuit c := by
  have folds : ∀ (l : List Nat) (t : Table Circuit), l.Nodup → (∀ c ∈ l, c ∈ cs) →
      (∀ c ∈ l, (s.withCircuits t).circuit c = s.circuit c) →
      ∃ t', l.foldl f (s.withCircuits t) = s.withCircuits t' ∧
        ∀ c, (s.withCircuits t').circuit c = if c ∈ l then g c else (s.withCircuits t).circuit c := by
    intro l
    induction l with
    | nil => exact fun t _ _ _ => ⟨t, rfl, by simp⟩
    | cons a l ih =>
      intro t hl hmem hsame
      obtain ⟨ha, hl⟩ := List.nodup_cons.mp hl
      have hfirst : f (s.withCircuits t) a = s.withCircuits (tableWrite {} t a (g a)) :=
        hf t a (hmem a (by simp)) (hsame a (by simp))
      have hother : ∀ c, c ≠ a → (s.withCircuits (tableWrite {} t a (g a))).circuit c = (s.withCircuits t).circuit c :=
        fun c hc => State.circuit_setCircuit_other (s.withCircuits t) hc (g a)
      have hself : (s.withCircuits (tableWrite {} t a (g a))).circuit a = g a :=
        State.circuit_setCircuit_self (s.withCircuits t) a (g a)
      have hkeep : ∀ c ∈ l, (s.withCircuits (tableWrite {} t a (g a))).circuit c = s.circuit c := fun c hc =>
        (hother c fun h => ha (h ▸ hc)).trans (hsame c (by simp [hc]))
      obtain ⟨t', hfold, hval⟩ := ih _ hl (fun c hc => hmem c (by simp [hc])) hkeep
      refine ⟨t', by rw [List.foldl_cons, hfirst, hfold], fun c => ?_⟩
      rw [hval c]
      by_cases hca : c = a
      · subst hca
        simp [ha, hself]
      · simp [hca, hother c hca]
  exact folds cs s.circuits hnd (fun _ h => h) fun _ _ => rfl

/-- Each IDLE or HELD circuit of a list is HELD with one hold more. -/
theorem State.addHolds_quiet {s : State} {cs : List Nat} (hnd : cs.Nodup)
    (h : ∀ c ∈ cs, (s.circuit c).state = .idle ∨ (s.circuit c).state = .held) :
    ∃ t, cs.foldl State.addHold s = s.withCircuits t ∧
      ∀ c, (s.withCircuits t).circuit c =
        if c ∈ cs then { s.circuit c with holds := (s.circuit c).holds + 1, state := .held } else s.circuit c := by
  refine State.foldl_circuits (g := fun c => { s.circuit c with holds := (s.circuit c).holds + 1, state := .held }) hnd ?_
  intro t c hc hsame
  rw [State.addHold_quiet (by rw [hsame]; exact h c hc), State.held, hsame]

/-- A window that opens gives a campaign in progress the reason WINDOW. -/
theorem State.windowOpened_eq (s : State) :
    s.windowOpened = { s with
      campaign :=
        if s.campaign.state = .idle then s.campaign
        else { s.campaign with window := true, state := if s.campaign.anyInFlight then .suspending else .suspended } } := by
  unfold State.windowOpened
  by_cases hidle : s.campaign.state = .idle
  · rw [if_pos hidle, if_pos hidle]
  · rw [if_neg hidle, if_neg hidle]
    have hfollow : s.campaign.addWindow = _ :=
      Campaign.followReasons_eq (c := { s.campaign with window := true }) hidle (.inr rfl)
    rw [hfollow]
    rfl

end Sys2Proof.Machine

namespace Sys2Proof.Proofs

open Sys2Proof.Machine

/-- Settles O16: the reservation, the window, the holds and the campaign's reason, in the order of the handling. -/
theorem openWindowTaken : Obligations.OpenWindowTaken := by
  intro s tag f spans duration h hid hne hspans hlen hroom hstack hclosures hfree hquiet
  have hset : f.spanSet = some spans := spanSet_of_fit hid hne hspans hlen
  have hrefusal : s.openRefusal f.id.toNat = none := by
    rw [s.openRefusal_eq, if_neg (by omega), if_neg fun ⟨w, hw, he⟩ => hstack w hw he,
      if_neg fun ⟨c, hc, he⟩ => hclosures c hc he, if_neg (by omega)]
  have hduration : clamp Config.minDuration Config.maxRemaining f.duration.toNat = duration := clamp_eq _ (by decide)
  let opened : State := { s with
    stack := ⟨f.id.toNat, spans, duration, s.clock, [], false⟩ :: s.stack
    reserved := { s.reserved with summary := s.reserved.summary + 1 } }
  obtain ⟨t, hfold, hval⟩ := State.addHolds_quiet (s := opened) (s.crossingAny_nodup spans) hquiet
  let campaign : Campaign :=
    if s.campaign.state = .idle then s.campaign
    else { s.campaign with window := true, state := if s.campaign.anyInFlight then .suspending else .suspended }
  have hopen : s.openWindow f.id.toNat duration spans = { opened.withCircuits t with campaign := campaign } := by
    have hcross : ((s.crossingAny spans).foldl State.addHold opened).windowOpened =
        { opened.withCircuits t with campaign := campaign } := by
      rw [hfold, State.windowOpened_eq]
      rfl
    exact hcross
  have hh : s.handleRequest tag (.openWindow (.fields f)) =
      State.answer { opened.withCircuits t with campaign := campaign } tag 0x30
        (if duration = f.duration.toNat then .ok else .adjusted)
        (.windowOpened duration (s.crossingAny spans).length (s.stack.length + 1)) := by
    show s.handleOpenWindow tag f = _
    unfold State.handleOpenWindow
    rw [hset]
    dsimp only
    rw [hrefusal]
    dsimp only
    rw [hduration, hopen]
    rfl
  exact ⟨_, State.arrive_changed h hh rfl rfl rfl rfl, rfl, hval⟩

end Sys2Proof.Proofs


/-! # The end of a window: holds removed, circuits released, and the record or the summary -/

namespace Sys2Proof.Machine

/-! ## One hold removed from each circuit of a window -/

/-- The record of a circuit under a window that closes or expires, with one hold less (R7). -/
def Circuit.unheld (r : Circuit) (cause : ReleaseCause) : Circuit :=
  if 1 < r.holds then { r with holds := r.holds - 1 }
  else if r.state = .held then { r with holds := 0, state := .pending }
  else { r with holds := 0, releaseOwed := some cause }

/-- The record of a circuit under a window that is aborted, with one hold less (R8). -/
def Circuit.abandoned (r : Circuit) : Circuit :=
  if 1 < r.holds ∨ r.state ≠ .held then { r with holds := r.holds - 1 } else { r with holds := 0, state := .idle }

/-- A HELD circuit, or one in a commit phase, with a hold (R6). -/
def Circuit.heldUnder (r : Circuit) : Prop := 1 ≤ r.holds ∧ (r.state = .held ∨ r.state = .capturing)

/-- A HELD circuit with its last hold. -/
def Circuit.lastHeld (r : Circuit) : Bool := decide (r.state = .held ∧ r.holds = 1)

section
variable {s : State} {c : Nat} {cause : ReleaseCause}

/-- The removal of a hold by a close or an expiry releases a HELD circuit at its last. -/
theorem State.removeHold_under (h : (s.circuit c).heldUnder) :
    s.removeHold cause c =
      (s.setCircuit c ((s.circuit c).unheld cause),
        if (s.circuit c).lastHeld then .released
        else if 1 < (s.circuit c).holds then .stillHeld else .notReleased) := by
  obtain ⟨hholds, hstate⟩ := h
  have hne : ∀ r : Circuit, r.state = (s.circuit c).state → r ≠ {} := fun r hr =>
    Circuit.ne_empty_of_state (by rcases hstate with hs | hs <;> simp [hr, hs])
  unfold State.removeHold Circuit.unheld Circuit.lastHeld
  dsimp only
  rw [if_neg (by omega)]
  by_cases hmany : 1 < (s.circuit c).holds
  · rw [if_pos hmany, if_pos hmany, if_neg (by simp; omega), if_pos hmany]
  rw [if_neg hmany, if_neg hmany, if_neg hmany]
  have hone : (s.circuit c).holds = 1 := by omega
  by_cases hheld : (s.circuit c).state = .held
  · rw [if_pos hheld, if_pos hheld, if_pos (by simp [hheld, hone])]
    unfold State.setCircuitState State.modifyCircuit
    rw [State.circuit_setCircuit_self, State.setCircuit_setCircuit _ (hne { s.circuit c with holds := (s.circuit c).holds - 1 } rfl), hone]
  · have hcapturing : (s.circuit c).state = .capturing := hstate.resolve_left hheld
    rw [if_neg hheld, if_neg hheld, if_pos hcapturing, if_neg (by simp [hheld])]
    unfold State.modifyCircuit
    rw [State.circuit_setCircuit_self, State.setCircuit_setCircuit _ (hne { s.circuit c with holds := (s.circuit c).holds - 1 } rfl), hone]

/-- The removal of a hold by an abort returns a HELD circuit to IDLE at its last, where no campaign is in progress. -/
theorem State.abortHold_under (h : (s.circuit c).heldUnder) (hidle : s.campaign.state = .idle) :
    s.abortHold c = (s.setCircuit c (s.circuit c).abandoned, (s.circuit c).lastHeld) := by
  obtain ⟨hholds, hstate⟩ := h
  unfold State.abortHold Circuit.abandoned Circuit.lastHeld
  dsimp only
  rw [if_neg (by omega)]
  by_cases hmany : 1 < (s.circuit c).holds
  · rw [if_pos hmany, if_pos (.inl hmany), decide_eq_false (by omega)]
  rw [if_neg hmany]
  have hone : (s.circuit c).holds = 1 := by omega
  by_cases hheld : (s.circuit c).state = .held
  · have hne : ({ s.circuit c with holds := (s.circuit c).holds - 1 } : Circuit) ≠ {} :=
      Circuit.ne_empty_of_state (by simp [hheld])
    have hmake : State.makeIdle (s.setCircuit c { s.circuit c with holds := (s.circuit c).holds - 1 }) c =
        s.setCircuit c { s.circuit c with holds := 0, state := .idle } := by
      have hset : State.setCircuitState (s.setCircuit c { s.circuit c with holds := (s.circuit c).holds - 1 }) c .idle =
          s.setCircuit c { s.circuit c with holds := 0, state := .idle } := by
        unfold State.setCircuitState State.modifyCircuit
        rw [State.circuit_setCircuit_self, State.setCircuit_setCircuit _ hne, hone]
      unfold State.makeIdle
      rw [hset]
      exact if_neg (by simp [State.namedUnprocessed, hidle])
    rw [if_pos hheld, hmake, if_neg (by simp [hheld, hmany]), decide_eq_true ⟨hheld, hone⟩]
  · rw [if_neg hheld, if_pos (.inr hheld), decide_eq_false (fun hl => hheld hl.1)]

end

/-- A close or an expiry removes one hold from each circuit, and releases those whose last it is. -/
theorem State.releaseAll_under {s : State} {cause : ReleaseCause} {cs : List Nat} (hnd : cs.Nodup)
    (h : ∀ c ∈ cs, (s.circuit c).heldUnder) :
    ∃ t, State.releaseAll cause cs s = (s.withCircuits t, cs.filter fun c => (s.circuit c).lastHeld) ∧
      ∀ c, (s.withCircuits t).circuit c = if c ∈ cs then (s.circuit c).unheld cause else s.circuit c := by
  have hstep : ∀ (l : List Nat) (t : Table Circuit), l.Nodup → (∀ c ∈ l, (s.circuit c).heldUnder) →
      (∀ c ∈ l, (s.withCircuits t).circuit c = s.circuit c) →
      State.releaseAll cause l (s.withCircuits t) =
        (l.foldl (fun u c => (u.removeHold cause c).1) (s.withCircuits t), l.filter fun c => (s.circuit c).lastHeld) := by
    intro l
    induction l with
    | nil => exact fun _ _ _ _ => rfl
    | cons a l ih =>
      intro t hl hunder hsame
      obtain ⟨ha, hl⟩ := List.nodup_cons.mp hl
      have hsa := hsame a (by simp)
      have hremove := State.removeHold_under (s := s.withCircuits t) (c := a) (cause := cause)
        (by rw [hsa]; exact hunder a (by simp))
      have hkeep : ∀ c ∈ l, (s.withCircuits (tableWrite {} t a ((s.circuit a).unheld cause))).circuit c = s.circuit c :=
        fun c hc => (State.circuit_setCircuit_other (s.withCircuits t) (fun e : c = a => ha (e ▸ hc)) _).trans
          (hsame c (by simp [hc]))
      rw [hsa] at hremove
      have hset : (s.withCircuits t).setCircuit a ((s.circuit a).unheld cause) =
          s.withCircuits (tableWrite {} t a ((s.circuit a).unheld cause)) := rfl
      rw [hset] at hremove
      rw [State.releaseAll, hremove]
      dsimp only
      rw [ih _ hl (fun c hc => hunder c (by simp [hc])) hkeep, List.foldl_cons, hremove, List.filter_cons]
      by_cases hlast : (s.circuit a).lastHeld = true
      · simp [hlast]
      · simp only [hlast, Bool.false_eq_true, if_false]
        have hno : (if 1 < (s.circuit a).holds then HoldAnswer.stillHeld else .notReleased) ≠ .released := by
          split <;> decide
        exact Prod.ext rfl (if_neg hno)
  obtain ⟨t, hfold, hval⟩ := State.foldl_circuits (s := s) (f := fun u c => (u.removeHold cause c).1)
    (g := fun c => (s.circuit c).unheld cause) hnd fun t c hc hsame => by
      rw [State.removeHold_under (s := s.withCircuits t) (by rw [hsame]; exact h c hc), hsame]
  exact ⟨t, (hstep cs s.circuits hnd h fun _ _ => rfl).trans (by rw [← hfold]; rfl), hval⟩

/-- An abort removes one hold from each circuit, and counts those that return to IDLE. -/
theorem State.abortAll_under {s : State} {cs : List Nat} (hnd : cs.Nodup) (h : ∀ c ∈ cs, (s.circuit c).heldUnder)
    (hidle : s.campaign.state = .idle) :
    ∃ t, State.abortAll cs s = (s.withCircuits t, (cs.filter fun c => (s.circuit c).lastHeld).length) ∧
      ∀ c, (s.withCircuits t).circuit c = if c ∈ cs then (s.circuit c).abandoned else s.circuit c := by
  have hstep : ∀ (l : List Nat) (t : Table Circuit), l.Nodup → (∀ c ∈ l, (s.circuit c).heldUnder) →
      (∀ c ∈ l, (s.withCircuits t).circuit c = s.circuit c) →
      State.abortAll l (s.withCircuits t) =
        (l.foldl (fun u c => (u.abortHold c).1) (s.withCircuits t),
          (l.filter fun c => (s.circuit c).lastHeld).length) := by
    intro l
    induction l with
    | nil => exact fun _ _ _ _ => rfl
    | cons a l ih =>
      intro t hl hunder hsame
      obtain ⟨ha, hl⟩ := List.nodup_cons.mp hl
      have hsa := hsame a (by simp)
      have hremove := State.abortHold_under (s := s.withCircuits t) (c := a)
        (by rw [hsa]; exact hunder a (by simp)) hidle
      have hkeep : ∀ c ∈ l, (s.withCircuits (tableWrite {} t a (s.circuit a).abandoned)).circuit c = s.circuit c :=
        fun c hc => (State.circuit_setCircuit_other (s.withCircuits t) (fun e : c = a => ha (e ▸ hc)) _).trans
          (hsame c (by simp [hc]))
      rw [hsa] at hremove
      have hset : (s.withCircuits t).setCircuit a (s.circuit a).abandoned =
          s.withCircuits (tableWrite {} t a (s.circuit a).abandoned) := rfl
      rw [hset] at hremove
      rw [State.abortAll, hremove]
      dsimp only
      rw [ih _ hl (fun c hc => hunder c (by simp [hc])) hkeep, List.foldl_cons, hremove, List.filter_cons]
      split <;> simp
  obtain ⟨t, hfold, hval⟩ := State.foldl_circuits (s := s) (f := fun u c => (u.abortHold c).1)
    (g := fun c => (s.circuit c).abandoned) hnd fun t c hc hsame => by
      rw [State.abortHold_under (s := s.withCircuits t) (by rw [hsame]; exact h c hc) hidle, hsame]
  exact ⟨t, (hstep cs s.circuits hnd h fun _ _ => rfl).trans (by rw [← hfold]; rfl), hval⟩

/-! ## Entries appended for a list of circuits -/

/-- Appending an entry for each circuit of a list makes each PENDING and queues the entries in order. -/
theorem State.appendEntries {s : State} {e : State → Nat → QueueEntry} {x : Nat → QueueEntry} {cs : List Nat}
    (hcircuit : ∀ u c, c ∈ cs → (∀ j, (u.circuit j).definition = (s.circuit j).definition) → e u c = x c)
    (hx : ∀ c, (x c).circuit = c) :
    ∃ t ls, cs.foldl (fun u c => u.appendEntry (e u c)) s =
        { s with queue := s.queue ++ cs.map x, circuits := t, looks := ls } ∧
      ∀ c, (s.withCircuits t).circuit c = if c ∈ cs then { s.circuit c with state := .pending } else s.circuit c := by
  have hstep : ∀ (l : List Nat) (q : List QueueEntry) (t : Table Circuit) (ls : List LaneId), (∀ c ∈ l, c ∈ cs) →
      (∀ j, ((s.withCircuits t).circuit j).definition = (s.circuit j).definition) →
      ∃ t' ls', l.foldl (fun u c => u.appendEntry (e u c)) { s with queue := q, circuits := t, looks := ls } =
          { s with queue := q ++ l.map x, circuits := t', looks := ls' } ∧
        ∀ c, (s.withCircuits t').circuit c =
          if c ∈ l then { (s.withCircuits t).circuit c with state := .pending } else (s.withCircuits t).circuit c := by
    intro l
    induction l with
    | nil => exact fun q t ls _ _ => ⟨t, ls, by simp, by simp⟩
    | cons a l ih =>
      intro q t ls hmem hdef
      have hentry : e { s with queue := q, circuits := t, looks := ls } a = x a :=
        hcircuit _ a (hmem a (by simp)) hdef
      let r : Circuit := { (s.withCircuits t).circuit a with state := .pending }
      have happend : ∃ ls', State.appendEntry { s with queue := q, circuits := t, looks := ls } (x a) =
          { s with queue := q ++ [x a], circuits := tableWrite {} t a r, looks := ls' } := by
        unfold State.appendEntry
        rw [hx a]
        exact State.lookAtCircuit_eq _ a
      obtain ⟨ls₁, hls₁⟩ := happend
      have hself : (s.withCircuits (tableWrite {} t a r)).circuit a = r :=
        State.circuit_setCircuit_self (s.withCircuits t) a r
      have hother : ∀ j, j ≠ a → (s.withCircuits (tableWrite {} t a r)).circuit j = (s.withCircuits t).circuit j :=
        fun j hj => State.circuit_setCircuit_other (s.withCircuits t) hj r
      have hdef' : ∀ j, ((s.withCircuits (tableWrite {} t a r)).circuit j).definition = (s.circuit j).definition := by
        intro j
        by_cases hj : j = a
        · subst hj
          rw [hself]
          exact hdef j
        · rw [hother j hj]
          exact hdef j
      obtain ⟨t', ls', hfold, hval⟩ := ih (q ++ [x a]) (tableWrite {} t a r) ls₁ (fun c hc => hmem c (by simp [hc])) hdef'
      refine ⟨t', ls', ?_, fun c => ?_⟩
      · rw [List.foldl_cons, hentry, hls₁, hfold]
        simp
      · rw [hval c]
        by_cases hca : c = a
        · subst hca
          rw [hself]
          simp [r]
        · simp [hca, hother c hca]
  exact hstep cs s.queue s.circuits s.looks (fun _ h => h) fun _ => rfl

end Sys2Proof.Machine


/-! # CLOSE_WINDOW and ABORT_WINDOW taken (2.4, 2.5) -/

namespace Sys2Proof.Machine

/-! ## The end of a window -/

section
variable {s : State} {w : Window} {cause : ReleaseCause}

/-- A circuit released by its last hold is PENDING, and so is it before its entry is appended. -/
theorem Circuit.unheld_pending {r : Circuit} (h : r.lastHeld = true) :
    { r.unheld cause with state := .pending } = r.unheld cause := by
  obtain ⟨hheld, hone⟩ := of_decide_eq_true h
  rw [Circuit.unheld, if_neg (by omega), if_pos hheld]

theorem Circuit.unheld_definition (r : Circuit) : (r.unheld cause).definition = r.definition := by
  unfold Circuit.unheld
  split
  · rfl
  · split <;> rfl

/-- The end of a window that releases no circuit queues its summary. -/
theorem State.endWindow_none (hunder : ∀ c ∈ s.crossingAny w.spans, (s.circuit c).heldUnder)
    (hnone : ((s.crossingAny w.spans).filter fun c => (s.circuit c).lastHeld) = [])
    (hsummary : 1 ≤ s.reserved.summary) :
    ∃ t, s.endWindow w cause =
        ({ s with
            circuits := t
            reserved := { s.reserved with summary := s.reserved.summary - 1 }
            notices := s.notices ++ [.windowSummary (s.closureFor w cause 0) false] }, 0) ∧
      ∀ c, (s.withCircuits t).circuit c =
        if c ∈ s.crossingAny w.spans then (s.circuit c).unheld cause else s.circuit c := by
  obtain ⟨t, hrelease, hval⟩ := State.releaseAll_under (cause := cause) (s.crossingAny_nodup w.spans) hunder
  refine ⟨t, ?_, hval⟩
  unfold State.endWindow
  rw [hrelease, hnone]
  dsimp only
  rw [if_pos rfl]
  exact congrArg (·, 0) (State.queueReserved_reserved _ .summary _
    (show s.reserved.summary ≠ 0 by omega))

/-- The end of a window that releases circuits adds its record, after the relief that an expiry may need, and appends an
entry for each circuit. -/
theorem State.endWindow_some {u : State} (hunder : ∀ c ∈ s.crossingAny w.spans, (s.circuit c).heldUnder)
    (hsome : ((s.crossingAny w.spans).filter fun c => (s.circuit c).lastHeld) ≠ [])
    (hrelief : ∀ t, (s.withCircuits t).relieveClosures cause = u.withCircuits t) (hclock : u.clock = s.clock) :
    ∃ t ls, s.endWindow w cause =
        ({ u with
            circuits := t
            closures := u.closures ++ [s.closureFor w cause
              ((s.crossingAny w.spans).filter fun c => (s.circuit c).lastHeld).length]
            queue := u.queue ++ ((s.crossingAny w.spans).filter fun c => (s.circuit c).lastHeld).map
              (s.releasedEntry w cause)
            looks := ls },
          ((s.crossingAny w.spans).filter fun c => (s.circuit c).lastHeld).length) ∧
      ∀ c, (s.withCircuits t).circuit c =
        if c ∈ s.crossingAny w.spans then (s.circuit c).unheld cause else s.circuit c := by
  obtain ⟨t, hrelease, hval⟩ := State.releaseAll_under (cause := cause) (s.crossingAny_nodup w.spans) hunder
  have hmem : ∀ c ∈ (s.crossingAny w.spans).filter fun c => (s.circuit c).lastHeld,
      c ∈ s.crossingAny w.spans ∧ (s.circuit c).lastHeld = true := fun c hc => List.mem_filter.mp hc
  generalize hrel : ((s.crossingAny w.spans).filter fun c => (s.circuit c).lastHeld) = released at *
  have hdef : ∀ c, ((s.withCircuits t).circuit c).definition = (s.circuit c).definition := by
    intro c
    rw [hval c]
    split
    · exact Circuit.unheld_definition _
    · rfl
  let added : State := { u.withCircuits t with closures := u.closures ++ [s.closureFor w cause released.length] }
  obtain ⟨t', ls, hfold, hval'⟩ := State.appendEntries (s := added) (cs := released)
    (e := fun v c => v.releasedEntry w cause c) (x := s.releasedEntry w cause)
    (fun v c _ hv => by
      have hvc : (v.circuit c).definition = (s.circuit c).definition := (hv c).trans (hdef c)
      unfold State.releasedEntry State.spanEventFlag
      rw [hvc])
    (fun _ => rfl)
  have hclosure : ∀ n, State.closureFor (u.withCircuits t) w cause n = s.closureFor w cause n := fun n =>
    congrArg (fun k => ({ s.closureFor w cause n with endedAt := k } : Closure)) hclock
  refine ⟨t', ls, ?_, fun c => ?_⟩
  · unfold State.endWindow
    rw [hrelease]
    dsimp only
    rw [if_neg hsome, hrelief, hclosure]
    exact congrArg (·, released.length) hfold
  · refine (hval' c).trans ?_
    have hc : added.circuit c = _ := hval c
    rw [hc]
    by_cases hr : c ∈ released
    · obtain ⟨hin, hlast⟩ := hmem c hr
      rw [if_pos hr, if_pos hin, Circuit.unheld_pending hlast]
    · rw [if_neg hr]

end

/-- A campaign that is not in progress does not hear that the stack has emptied. -/
theorem State.tellIfEmptied_idle {s : State} (hidle : s.campaign.state = .idle) (hwindow : s.campaign.window = false) :
    s.tellIfEmptied = s := by
  have hsame : { s with campaign := { s.campaign with window := false } } = s := by rw [← hwindow]
  unfold State.tellIfEmptied State.stackEmptied State.resumeIfFree
  rw [hsame]
  dsimp only
  rw [if_neg (c := _ ∧ _) (by simp [hidle]), ite_self]

/-- Whether a logged event names one of the circuit's spans. -/
theorem State.spanEventFlag_eq (s : State) (w : Window) (c : Nat) :
    s.spanEventFlag w c =
      w.events.any fun e => ((s.circuit c).definition.map (·.spans)).any (·.contains e.span) := by
  unfold State.spanEventFlag
  cases (s.circuit c).definition with
  | none => simp
  | some d => rfl

end Sys2Proof.Machine

namespace Sys2Proof.Proofs
open Sys2Proof.Machine

/-- Settles O20: the holds are removed one by one (`State.endWindow_none`, `State.endWindow_some`), no lane is ready for
the entries, and no campaign hears of the stack. -/
theorem closeWindowTaken : Obligations.CloseWindowTaken := by
  intro s tag id w rest held released account h hbusy hstack hid hne hclosures hidle hwindow hsummary hunder
  have htop := State.namedTop_top (s := s) (id := id.toNat) (by omega) hstack hid.symm
  let popped : State := { s with stack := rest }
  have hhandle : s.handleRequest tag (.closeWindow (.fields id)) =
      ((popped.endWindow w .windowClose).1.tellIfEmptied).answer tag 0x32 .ok
        (.released (popped.endWindow w .windowClose).2) := by
    show s.handleCloseWindow tag id = _
    unfold State.handleCloseWindow
    rw [htop]
    dsimp only
    exact if_neg (Nat.not_le.mpr hclosures)
  have hrest := State.atRest_of_ready h
  have hlooks := State.looks_of_atRest hrest
  by_cases hnone : released = []
  · obtain ⟨t, hend, hval⟩ := State.endWindow_none (s := popped) (w := w) (cause := .windowClose) hunder hnone hsummary
    let ended : State := { popped with
      circuits := t
      reserved := { s.reserved with summary := s.reserved.summary - 1 }
      notices := s.notices ++ [.windowSummary (popped.closureFor w .windowClose 0) false] }
    have hh : s.handleRequest tag (.closeWindow (.fields id)) = ended.answer tag 0x32 .ok (.released 0) := by
      rw [hhandle, hend]
      exact congrArg (State.answer · tag 0x32 .ok (.released 0)) (State.tellIfEmptied_idle (s := ended) hidle hwindow)
    refine ⟨_, State.arrive_forget h hh rfl rfl (State.noWork_of_busy (s := ended) hbusy), ?_, hval⟩
    rw [State.forget_looks (s := ended) hlooks, if_pos hnone, if_pos hnone, if_pos hnone]
    have hzero : account = popped.closureFor w .windowClose 0 := by
      simp [account, hnone, State.closureFor, popped]
    rw [hzero, hnone]
    simp only [List.map_nil, List.append_nil]
    rfl
  · obtain ⟨t, ls, hend, hval⟩ := State.endWindow_some (s := popped) (u := popped) (w := w) (cause := .windowClose)
      hunder hnone (fun t => State.relieveClosures_close _) rfl
    let ended : State := { popped with
      circuits := t
      closures := s.closures ++ [popped.closureFor w .windowClose released.length]
      queue := s.queue ++ released.map (popped.releasedEntry w .windowClose)
      looks := ls }
    have hh : s.handleRequest tag (.closeWindow (.fields id)) =
        ended.answer tag 0x32 .ok (.released released.length) := by
      rw [hhandle, hend]
      exact congrArg (State.answer · tag 0x32 .ok (.released released.length))
        (State.tellIfEmptied_idle (s := ended) hidle hwindow)
    refine ⟨_, State.arrive_forget h hh rfl rfl (State.noWork_of_busy (s := ended) hbusy), ?_, hval⟩
    rw [if_neg hnone, if_neg hnone, if_neg hnone, ← hlooks]
    have hentry : popped.releasedEntry w .windowClose = fun c =>
        { circuit := c, cause := .windowClose, tag := some w.id, expired := false
          spanEvent := w.events.any fun e => ((s.circuit c).definition.map (·.spans)).any (·.contains e.span) } := by
      funext c
      exact congrArg (QueueEntry.mk c .windowClose (some w.id) false) (popped.spanEventFlag_eq w c)
    rw [← hentry]
    rfl

/-- Settles O21: the holds are removed one by one (`State.abortAll_under`), the reservation is returned, and no campaign
hears of the stack. -/
theorem abortWindowTaken : Obligations.AbortWindowTaken := by
  intro s tag id w rest held h hbusy hstack hid hne hidle hwindow hunder
  have htop := State.namedTop_top (s := s) (id := id.toNat) (by omega) hstack hid.symm
  let popped : State := { s with stack := rest }
  obtain ⟨t, habort, hval⟩ := State.abortAll_under (s := popped) (s.crossingAny_nodup w.spans) hunder hidle
  obtain ⟨ls, hls⟩ := State.returnReservation_eq (popped.withCircuits t) .summary
  let ended : State := { popped with
    circuits := t
    reserved := { s.reserved with summary := s.reserved.summary - 1 }
    looks := ls }
  have hh : s.handleRequest tag (.abortWindow (.fields id)) =
      ended.answer tag 0x33 .ok (.returned (held.filter fun c => (s.circuit c).lastHeld).length) := by
    show s.handleAbortWindow tag id = _
    unfold State.handleAbortWindow
    rw [htop]
    dsimp only
    have habort' : State.abortAll (s.crossingAny w.spans) { s with stack := rest } = _ := habort
    rw [habort']
    dsimp only
    rw [hls]
    exact congrArg (State.answer · tag 0x33 .ok _) (State.tellIfEmptied_idle (s := ended) hidle hwindow)
  refine ⟨_, State.arrive_forget h hh rfl rfl (State.noWork_of_busy (s := ended) hbusy), ?_, hval⟩
  rw [← State.looks_of_atRest (State.atRest_of_ready h)]
  rfl

end Sys2Proof.Proofs


/-! # The expiry of windows (2.7) -/

namespace Sys2Proof.Machine

section
variable {s : State}

/-! ## Which windows an expiry removes -/

/-- The lowest window at 0 goes, with every window above it. -/
theorem expiring_eq {above below : List Window} {w : Window} (hw : w.remaining = 0)
    (hbelow : ∀ x ∈ below, 1 ≤ x.remaining) : expiring (above ++ w :: below) = above.length + 1 := by
  have hpos : ∀ x ∈ below.reverse, (x.remaining != 0) = true := fun x hx => by
    have := hbelow x (List.mem_reverse.mp hx)
    simpa using Nat.ne_zero_of_lt this
  have htake : (above ++ w :: below).reverse.takeWhile (fun w => w.remaining != 0) = below.reverse := by
    rw [List.reverse_append, List.reverse_cons, List.append_assoc, List.takeWhile_append_of_pos hpos]
    simp [hw]
  unfold expiring
  rw [htake]
  simp
  omega

theorem State.expireTop_stack {above below : List Window} (h : s.stack = above ++ below) :
    (State.expireTop above.length s).stack = below ∧
      (State.expireTop above.length s).requestQueue = s.requestQueue := by
  induction above generalizing s with
  | nil => exact ⟨h, rfl⟩
  | cons w above ih =>
    have hend := (Moves.endWindow (q := false) (p := false) (s := { s with stack := above ++ below })
      .nil w .windowExpiry nofun).lists_eq
    have hpop : State.expireTop (above.length + 1) s =
        State.expireTop above.length (State.endWindow { s with stack := above ++ below } w .windowExpiry).1 := by
      rw [State.expireTop, h]
      rfl
    rw [List.length_cons, hpop]
    obtain ⟨hs, hq⟩ := ih hend.1
    exact ⟨hs, hq.trans hend.2⟩

/-- The end of a command keeps the stack where no request waits. -/
theorem State.settle_stack (h : s.requestQueue = []) : s.settle.stack = s.stack := by
  have harb := (Moves.arbitrate (p := false) (q := false) (s := s) .nil).lists_eq
  have hsend := (Moves.transmit (p := false) (q := false) (s := s.arbitrate) .nil).lists_eq
  rw [State.settle, State.takeRequests_none _ (harb.2.trans h), hsend.1, harb.1]

theorem State.expiryDue_of_zero {w : Window} (hw : w ∈ s.stack) (h : w.remaining = 0) : s.expiryDue = true :=
  List.any_eq_true.mpr ⟨w, hw, beq_iff_eq.mpr h⟩

/-- WINDOW_EXPIRY on a live part with a window at 0. -/
theorem State.exec_windowExpiry (hphase : s.phase = .running) (hdue : s.expiryDue = true) :
    exec .windowExpiry s = .next s.expireWindows.settle := by
  show Host.Outcome.next (if s.alive then s.expire else s) = _
  rw [if_pos (State.alive_of_running hphase), State.expire, if_pos hdue]

/-- The expiry of the top window alone is its end. -/
theorem State.expireWindows_top {w : Window} {rest : List Window} (hstack : s.stack = w :: rest) (hw : w.remaining = 0)
    (hrest : ∀ x ∈ rest, 1 ≤ x.remaining) :
    s.expireWindows = (State.endWindow { s with stack := rest } w .windowExpiry).1.tellIfEmptied := by
  have hn : expiring s.stack = 1 := by
    rw [hstack]
    exact expiring_eq (above := []) hw hrest
  have htop : State.expireTop 1 s = (State.endWindow { s with stack := rest } w .windowExpiry).1 := by
    rw [State.expireTop, hstack]
    rfl
  rw [State.expireWindows, if_pos (State.expiryDue_of_zero (w := w) (by simp [hstack]) hw), hn, htop]

/-- A lane whose grant has lost the tag `n` (R50). -/
def Lane.untag (r : Lane) (n : Nat) : Lane := { r with grant := r.grant.map fun g => { g with entry := g.entry.untag n } }

/-- The part after the early summary of the oldest record, `others` being the rest (R39, R50). -/
def State.relieved (s : State) (old : Closure) (others : List Closure) : State :=
  { s with
    closures := others
    reserved := { s.reserved with summary := s.reserved.summary - 1 }
    notices := s.notices ++ [.windowSummary old true]
    queue := s.queue.map fun e => e.untag old.windowId
    lanes := s.lanes.map fun r => r.untag old.windowId }

/-- The early summary of the oldest record of a full closure list (R39). -/
theorem State.relieveClosures_full {old : Closure} {others : List Closure} (hclosures : s.closures = old :: others)
    (hfull : Config.closureDepth ≤ s.closures.length) (hsummary : 1 ≤ s.reserved.summary) :
    s.relieveClosures .windowExpiry = s.relieved old others := by
  have hsum : State.queueSummary { s with closures := others } old true = { s with
      closures := others
      reserved := { s.reserved with summary := s.reserved.summary - 1 }
      notices := s.notices ++ [.windowSummary old true] } :=
    State.queueReserved_reserved _ .summary _ (show s.reserved.summary ≠ 0 by omega)
  rw [State.relieveClosures, if_pos ⟨rfl, hfull⟩, State.summariseOldest, hclosures]
  dsimp only
  rw [hsum, State.removeTag]
  exact State.foldl_lanes (g := fun r => r.untag old.windowId) fun v l => rfl

/-- The loss of a tag leaves a busy lane busy. -/
theorem State.lanesBusy_relieved {old : Closure} {others : List Closure} (h : s.lanesBusy = true) :
    (s.relieved old others).lanesBusy = true := by
  refine List.all_eq_true.mpr fun l hl => ?_
  have hlane : (s.relieved old others).lane l = (s.lane l).untag old.windowId := by
    simp [State.lane, State.relieved]
  rw [hlane]
  exact List.all_eq_true.mp h l hl

/-- With nothing to give and a busy transmitter the end of a command forgets the looks alone. -/
theorem State.settle_forget {t : State} (hwork : t.NoWork) (hq : t.requestQueue = []) (hsend : t.transmitter ≠ .idle) :
    t.settle = { t with looks := [] } := by
  rw [State.settle, hwork.arbitrate, State.takeRequests_none { t with looks := [] } hq,
    State.transmit_quiet { t with looks := [] } (.inl hsend)]

end

end Sys2Proof.Machine

namespace Sys2Proof.Proofs
open Sys2Proof.Machine

/-- What the end of an expiry leaves of a part with every lane busy and its transmitter busy. -/
theorem windowExpiry_ended {s ended : State} {w : Window} {rest : List Window} (hcalm : State.calm { s with stack := [] } = true)
    (hstack : s.stack = w :: rest) (hw : w.remaining = 0) (hrest : ∀ x ∈ rest, 1 ≤ x.remaining)
    (hend : (State.endWindow { s with stack := rest } w .windowExpiry).1 = ended) (hbusy : ended.lanesBusy = true)
    (hidle : ended.campaign.state = .idle) (hwindow : ended.campaign.window = false)
    (hrequests : ended.requestQueue = s.requestQueue) (hsend : ended.transmitter ≠ .idle) :
    exec .windowExpiry s = .next { ended with looks := s.looks } := by
  obtain ⟨hphase, -, -, hq, -, -, -, hatRest, -⟩ := (State.calm_iff _).mp hcalm
  have hdue := State.expiryDue_of_zero (s := s) (w := w) (by simp [hstack]) hw
  have hphase : s.phase = .running := hphase
  have hlooks : s.looks = [] := State.looks_of_atRest hatRest
  rw [State.exec_windowExpiry hphase hdue, State.expireWindows_top hstack hw hrest, hend,
    State.tellIfEmptied_idle hidle hwindow,
    State.settle_forget (State.noWork_of_busy hbusy) (hrequests.trans hq) hsend, hlooks]

/-- The entry of a circuit released by an expiry. -/
theorem expiredEntry_eq (s : State) (w : Window) :
    s.releasedEntry w .windowExpiry = fun c =>
      { circuit := c, cause := .windowExpiry, tag := some w.id, expired := true
        spanEvent := w.events.any fun e => ((s.circuit c).definition.map (·.spans)).any (·.contains e.span) } := by
  funext c
  exact congrArg (QueueEntry.mk c .windowExpiry (some w.id) true) (s.spanEventFlag_eq w c)

/-- Settles O34: the windows go one by one (`State.expireTop_stack`), and the end of the top one alone is
`State.endWindow_none` or `State.endWindow_some`, after `State.relieveClosures_full` on a full list. -/
theorem windowExpires : Obligations.WindowExpires := by
  refine ⟨?_, ?_, ?_⟩
  · intro s above below w hcalm hstack hw hbelow
    obtain ⟨hphase, -, -, hq, -⟩ := (State.calm_iff _).mp hcalm
    have hdue := State.expiryDue_of_zero (s := s) (w := w) (by simp [hstack]) hw
    have hphase : s.phase = .running := hphase
    refine ⟨_, State.exec_windowExpiry hphase hdue, ?_⟩
    have htop := State.expireTop_stack (s := s) (above := above ++ [w]) (below := below) (by simp [hstack])
    have hn : expiring s.stack = (above ++ [w]).length := by
      rw [hstack, expiring_eq hw hbelow]
      simp
    have htell := (Moves.tellIfEmptied (p := false) (q := false)
      (s := State.expireTop (above ++ [w]).length s) .nil).lists_eq
    have hexpire : s.expireWindows = (State.expireTop (above ++ [w]).length s).tellIfEmptied := by
      rw [State.expireWindows, if_pos hdue, hn]
    rw [hexpire, State.settle_stack (htell.2.trans (htop.2.trans hq)), htell.1, htop.1]
  · intro s w rest held released account hcalm hbusy hsend hstack hw hrest hidle hwindow hsummary hunder hroom
    let popped : State := { s with stack := rest }
    by_cases hnone : released = []
    · obtain ⟨t, hend, hval⟩ := State.endWindow_none (s := popped) (w := w) (cause := .windowExpiry) hunder hnone
        hsummary
      refine ⟨_, windowExpiry_ended hcalm hstack hw hrest (congrArg Prod.fst hend) hbusy hidle hwindow rfl hsend, ?_,
        hval⟩
      have hzero : account = popped.closureFor w .windowExpiry 0 := by
        simp [account, hnone, State.closureFor, popped]
      rw [if_pos hnone, if_pos hnone, if_pos hnone, hzero, hnone]
      simp only [List.map_nil, List.append_nil]
      rfl
    · have hrelief : ∀ t, (popped.withCircuits t).relieveClosures .windowExpiry = popped.withCircuits t := fun t =>
        if_neg fun ⟨_, hfull⟩ => absurd (hroom.resolve_left hnone) (Nat.not_lt.mpr hfull)
      obtain ⟨t, ls, hend, hval⟩ := State.endWindow_some (s := popped) (w := w) hunder hnone hrelief rfl
      refine ⟨_, windowExpiry_ended hcalm hstack hw hrest (congrArg Prod.fst hend) hbusy hidle hwindow rfl hsend, ?_,
        hval⟩
      rw [if_neg hnone, if_neg hnone, if_neg hnone, ← expiredEntry_eq s w]
      rfl
  · intro s w rest old others held released account untag hcalm hbusy hsend hstack hw hrest hidle hwindow hsummary
      hunder hclosures hothers hsome
    let popped : State := { s with stack := rest }
    have hfull : Config.closureDepth ≤ s.closures.length := by
      rw [hclosures, List.length_cons, hothers]
      exact le_refl 8
    have hrelief := fun t =>
      State.relieveClosures_full (s := popped.withCircuits t) (old := old) (others := others) hclosures hfull hsummary
    obtain ⟨t, ls, hend, hval⟩ := State.endWindow_some (s := popped) (w := w) (u := popped.relieved old others) hunder
      hsome hrelief rfl
    refine ⟨_, windowExpiry_ended hcalm hstack hw hrest (congrArg Prod.fst hend)
      (State.lanesBusy_relieved (s := popped) (others := others) hbusy) hidle hwindow rfl hsend, ?_, hval⟩
    rw [← expiredEntry_eq s w]
    rfl

end Sys2Proof.Proofs


/-! # What an event of a calm part leaves to its end -/

namespace Sys2Proof.Machine

section
variable {s t : State}

/-! ## The end of a command with nothing to give -/

/-- The end of a command that leaves the arbiter no work and no request waiting: the looks are forgotten, and the next
frame is chosen. -/
theorem State.settle_noWork (hwork : t.NoWork) (hq : t.requestQueue = []) :
    t.settle = State.transmit { t with looks := [] } := by
  rw [State.settle, hwork.arbitrate, State.takeRequests_none { t with looks := [] } hq]

/-- The frames that wait or are being sent. -/
def State.frames (s : State) : List QueuedRequest × Transmitter × List Reply × List Notice :=
  (s.requestQueue, s.transmitter, s.replies, s.notices)

/-- An event of a calm part that leaves the arbiter no work and the frames alone ends with its own effect. -/
theorem State.whenAlive_forget {f : State → State} (h : s.calm = true) (hf : f s = t) (hwork : t.NoWork)
    (hframes : t.frames = s.frames) : s.whenAlive f = { t with looks := [] } := by
  obtain ⟨-, -, -, hq, -, -, -, -, hquiet⟩ := s.calm_iff.mp h
  simp only [State.frames, Prod.mk.injEq] at hframes
  obtain ⟨hrequests, htrans, hreplies, hnotices⟩ := hframes
  rw [s.whenAlive_calm h, hf, State.settle_noWork hwork (hrequests.trans hq)]
  exact State.transmit_quiet { t with looks := [] }
    (show t.transmitter ≠ .idle ∨ t.replies = [] ∧ t.notices = [] by rwa [htrans, hreplies, hnotices])

/-- An unreserved notice on a part with nothing else to send is begun at once, or waits, or is discarded. -/
theorem State.transmit_noticed (n : Notice) (halive : t.alive = true) (hsent : t.restartReplySent = false)
    (hquiet : t.transmitter ≠ .idle ∨ (t.replies = [] ∧ t.notices = [])) : (t.queueUnreserved n).transmit = t.noticed n := by
  unfold State.queueUnreserved State.noticed
  cases hfree : t.hasFree with
  | false =>
    rw [if_neg (by simp), if_pos rfl]
    exact State.transmit_quiet { t with discarded := true } hquiet
  | true =>
    rw [if_pos rfl, if_neg (by simp)]
    by_cases hidle : t.transmitter = .idle
    · obtain ⟨hreplies, hnotices⟩ := hquiet.resolve_left (fun hn => hn hidle)
      rw [if_pos hidle, State.transmit_idle (s := { t with notices := t.notices ++ [n] }) hidle halive hsent]
      simp only [hreplies, hnotices, List.nil_append]
    · rw [if_neg hidle]
      exact State.transmit_quiet { t with notices := t.notices ++ [n] } (.inl hidle)

/-- An event of a calm part that queues one unreserved notice and leaves the arbiter no work. -/
theorem State.whenAlive_noticed {f : State → State} {n : Notice} (h : s.calm = true) (hf : f s = t.queueUnreserved n)
    (hwork : t.NoWork) (hframes : t.frames = s.frames) (hphase : t.phase = s.phase)
    (hsent : t.restartReplySent = s.restartReplySent) :
    s.whenAlive f = State.noticed { t with looks := [] } n := by
  obtain ⟨hrun, -, hsentNo, hq, -, -, -, -, hquiet⟩ := s.calm_iff.mp h
  simp only [State.frames, Prod.mk.injEq] at hframes
  obtain ⟨hrequests, htrans, hreplies, hnotices⟩ := hframes
  have hqueued : (t.queueUnreserved n).NoWork ∧ (t.queueUnreserved n).requestQueue = t.requestQueue ∧
      { t.queueUnreserved n with looks := [] } = State.queueUnreserved { t with looks := [] } n := by
    unfold State.queueUnreserved
    have hfree : State.hasFree { t with looks := [] } = t.hasFree := rfl
    rw [hfree]
    split <;> exact ⟨hwork.congr rfl rfl rfl rfl rfl rfl rfl, rfl, rfl⟩
  obtain ⟨hworkq, hreqq, hforget⟩ := hqueued
  rw [s.whenAlive_calm h, hf, State.settle_noWork hworkq (hreqq.trans (hrequests.trans hq)), hforget]
  exact State.transmit_noticed (t := { t with looks := [] }) n (State.alive_of_running (hphase.trans hrun))
    (hsent.trans hsentNo)
    (show t.transmitter ≠ .idle ∨ t.replies = [] ∧ t.notices = [] by rwa [htrans, hreplies, hnotices])

/-! ## Which lanes and looks leave no work -/

theorem State.lanesBusy_setLane {l : LaneId} {r : Lane} (h : s.lanesBusy = true) (hr : r.ready = false) :
    (s.setLane l r).lanesBusy = true := by
  refine List.all_eq_true.mpr fun j _ => ?_
  by_cases hj : j = l
  · subst hj
    rw [State.lane_setLane_self, hr]
    rfl
  · rw [State.lane_setLane_other s hj, State.not_ready_of_busy h j]
    rfl

/-- A look at one lane for which nothing is queued leaves no work while no campaign is RUNNING. -/
theorem State.noWork_of_look {l : LaneId} (hlooks : t.looks = [l]) (hq : ∀ e ∈ t.queue, t.laneOf e.circuit ≠ some l)
    (hc : t.campaign.state ≠ .running) (hlanes : ∀ j, (t.lane j).tunedAtEnd = false) : t.NoWork := by
  refine ⟨fun e he j hj hl => ?_, fun _ _ => .inr (.inr hc), hlanes⟩
  rw [hlooks, List.mem_singleton] at hj
  exact absurd (hj ▸ hl) (hq e he)

end

end Sys2Proof.Machine


/-! # Burst results, timeouts, and the end of a reference run -/

namespace Sys2Proof.Machine

section
variable {s : State} {l : LaneId}

/-! ## Burst results -/

/-- The result of a burst handed over meets the lane without the burst. -/
theorem State.reduceHanded_some {b : HandedBurst} (h : (s.lane l).handed = some b) :
    s.reduceHanded l = State.takeResult (s.setLane l { s.lane l with handed := none }) l b := by
  unfold State.reduceHanded
  rw [h]
  rfl

theorem State.reduceHanded_none (h : (s.lane l).handed = none) : s.reduceHanded l = s := by
  unfold State.reduceHanded
  rw [h]

/-- A result whose work has ended is dropped. -/
theorem State.takeResult_orphan {b : HandedBurst}
    (h : (b.purpose = .attempt ∧ (s.lane l).grant = none) ∨ (b.purpose = .capture ∧ (s.lane l).capture = none)) :
    s.takeResult l b = s := by
  unfold State.takeResult
  rcases h with ⟨hp, hg⟩ | ⟨hp, hc⟩
  · simp [hp, hg]
  · simp [hp, hc]

theorem State.takeResult_reference {b : HandedBurst} (h : b.purpose = .reference) :
    s.takeResult l b = s.setLane l ((s.lane l).closeRun (judgeReference b)) := by
  unfold State.takeResult
  simp only [h]
  rfl

theorem State.takeResult_attempt {b : HandedBurst} {g : Grant} {d : Definition} (h : b.purpose = .attempt)
    (hg : (s.lane l).grant = some g) (hd : (s.circuit g.entry.circuit).definition = some d) :
    s.takeResult l b = s.takeAttempt l g d b := by
  unfold State.takeResult
  simp only [h, hg, hd]

/-- A failing attempt with a retry left is measured again (R62). -/
theorem State.takeAttempt_repeats {b : HandedBurst} {g : Grant} {d : Definition}
    (hclass : (classify s.profile d (s.circuit g.entry.circuit).baseline b).cls ≠ .pass ∧
      (classify s.profile d (s.circuit g.entry.circuit).baseline b).cls ≠ .continuityOnly)
    (hretries : g.attempts.length < g.retries) :
    s.takeAttempt l g d b = s.setLane l { (s.lane l).burst with grant := some { g with
      attempts := g.attempts ++ [classify s.profile d (s.circuit g.entry.circuit).baseline b], phase := .measuring } } := by
  have hends : ∀ c : AttemptClass, c ≠ .pass ∧ c ≠ .continuityOnly → c.ends = false := by
    rintro (_ | _ | _ | _ | _ | _) ⟨hp, hc⟩
    case pass => exact absurd rfl hp
    case continuityOnly => exact absurd rfl hc
    all_goals rfl
  unfold State.takeAttempt
  dsimp only
  rw [if_neg (by rw [hends _ hclass]; simp; omega)]
  rfl

/-- The judgement of a reference burst that returned, its tests as bounds on the level (R83). -/
theorem judgeReference_returned {b : HandedBurst} {r : Returned} (h : b.reduce.returned = some r) :
    judgeReference b =
      { outcome :=
          if r.code ≠ 0 then .wrongCode
          else if r.baseLevel < 2400 ∨ 3600 < r.baseLevel then .trimRange
          else if 65535 < r.rawDelay then .offsetRange
          else .success
        trim := 3000 - r.baseLevel
        offset := r.rawDelay } := by
  have htrim : ((3000 - r.baseLevel : Int) < -Config.maxTrim ∨ Config.maxTrim < (3000 - r.baseLevel : Int)) ↔
      (r.baseLevel < 2400 ∨ 3600 < r.baseLevel) := by
    simp only [Config.maxTrim]
    omega
  have hlevel : candidateTrim r.baseLevel = 3000 - r.baseLevel := rfl
  have hoffset : Config.maxOffset = 65535 := rfl
  unfold judgeReference
  rw [h]
  dsimp only
  simp only [hlevel, htrim, hoffset]
  split_ifs <;> rfl

end

end Sys2Proof.Machine

namespace Sys2Proof.Proofs
open Sys2Proof.Machine

/-- Settles O37, by the owner of the burst. -/
theorem burstJudgedOrRepeated : Obligations.BurstJudgedOrRepeated := by
  refine ⟨fun s l h hnone => ?_, fun s l b h hb horphan => ?_, fun s l b h hb hreference => ?_, fun b hb => ?_,
    fun b r hr => judgeReference_returned hr, ?_⟩
  · exact congrArg Host.Outcome.next (State.whenAlive_same h (State.reduceHanded_none hnone))
  · refine congrArg Host.Outcome.next (State.whenAlive_setLane h ?_ (State.tunedAtEnd_of_calm h l))
    rw [State.reduceHanded_some hb, State.takeResult_orphan]
    rwa [State.lane_setLane_self]
  · refine congrArg Host.Outcome.next (State.whenAlive_setLane h ?_ (State.tunedAtEnd_of_calm h l))
    rw [State.reduceHanded_some hb, State.takeResult_reference hreference, State.lane_setLane_self, State.setLane_setLane]
    rfl
  · unfold judgeReference
    rw [hb]
  · intro s l b g d a h hb hattempt hg hd hclass hretries
    let taken : State := s.setLane l { s.lane l with handed := none }
    have hlane : taken.lane l = { s.lane l with handed := none } := State.lane_setLane_self s l _
    have htake := State.takeResult_attempt (s := taken) (l := l) hattempt (by rw [hlane]; exact hg) hd
    have hrepeat := State.takeAttempt_repeats (s := taken) (l := l) hclass hretries
    refine congrArg Host.Outcome.next (State.whenAlive_setLane h ?_ rfl)
    refine (State.reduceHanded_some hb).trans (htake.trans (hrepeat.trans ?_))
    rw [hlane, State.setLane_setLane]
    rfl

end Sys2Proof.Proofs


/-! # Lane errors and the end of a reference run (4.4, 4.5, 3.5) -/

namespace Sys2Proof.Machine

section
variable {s : State} {l : LaneId} {kind : ErrorKind}

/-! ## Lane errors -/

/-- A lane after an error: its work has ended, it parks, and one error more is counted (R75). -/
def Lane.failed (r : Lane) (kind : ErrorKind) (c : Option Nat) : Lane :=
  { r with
    state := .parking, samples := [], headCommand := .park, handed := none, work := .none, grant := none
    capture := none, errorCount := min 2 (r.errorCount + 1), lastError := some ⟨kind, c⟩ }

theorem Lane.failed_eq (r : Lane) (kind : ErrorKind) (c : Option Nat) :
    r.endWork.park.countError kind c = r.failed kind c := rfl

/-- A lane error under a grant: the reservation is returned and the entry stands at the head of the queue (R64). -/
theorem State.laneError_grant {g : Grant} (hg : (s.lane l).grant = some g) :
    ∃ ls, s.laneError l kind =
      { (s.setCircuit g.entry.circuit { s.circuit g.entry.circuit with state := .pending }).setLane l
          ((s.lane l).failed kind (some g.entry.circuit)) with
        reserved := { s.reserved with verdict := s.reserved.verdict - 1 }
        queue := g.entry :: s.queue
        looks := ls } := by
  unfold State.laneError
  simp only [hg]
  obtain ⟨ls, hls⟩ := State.returnReservation_eq
    (s.setLane l ((s.lane l).endWork.park.countError kind (some g.entry.circuit))) .verdict
  rw [hls]
  exact State.lookAtCircuit_eq _ _

/-- A lane error under a capture: its entry is UNPROCESSED again and its circuit IDLE (R131). -/
theorem State.laneError_capture {w : CaptureWork} (hg : (s.lane l).grant = none) (hw : (s.lane l).capture = some w)
    (hreasons : s.campaign.host = false ∧ s.campaign.window = false) :
    ∃ ls, s.laneError l kind =
      { (s.setCircuit w.circuit { s.circuit w.circuit with state := .idle }).setLane l
          ((s.lane l).failed kind (some w.circuit)) with
        campaign := { s.campaign with
          entries := s.campaign.entries.map fun e =>
            if e.circuit = w.circuit then { e with status := .unprocessed } else e }
        looks := ls } := by
  let c : Campaign := { s.campaign with
    entries := s.campaign.entries.map fun e => if e.circuit = w.circuit then { e with status := .unprocessed } else e }
  have hfollow : c.followReasons = c := Campaign.followReasons_none (.inr hreasons)
  let failed := s.setLane l ((s.lane l).failed kind (some w.circuit))
  have hreturn : ∃ ls, failed.returnEntry w.circuit = { failed with campaign := c, looks := ls } := by
    have hset : failed.returnEntry w.circuit = State.lookAtCircuit { failed with campaign := c.followReasons } w.circuit :=
      rfl
    rw [hset, hfollow]
    exact State.lookAtCircuit_eq _ _
  obtain ⟨ls, hls⟩ := hreturn
  have hmake : ∃ ls', State.makeIdle { failed with campaign := c, looks := ls } w.circuit =
      { State.setCircuitState { failed with campaign := c, looks := ls } w.circuit .idle with looks := ls' } := by
    unfold State.makeIdle
    dsimp only
    split
    · exact State.lookAtCircuit_eq _ _
    · exact ⟨_, rfl⟩
  obtain ⟨ls', hls'⟩ := hmake
  refine ⟨ls', ?_⟩
  have herror : s.laneError l kind = (failed.returnEntry w.circuit).makeIdle w.circuit := by
    unfold State.laneError
    simp only [hg, hw]
    rfl
  rw [herror, hls, hls']
  rfl

/-- A lane error after the work has ended. -/
theorem State.laneError_none (hg : (s.lane l).grant = none) (hw : (s.lane l).capture = none) :
    s.laneError l kind = s.setLane l ((s.lane l).failed kind none) := by
  unfold State.laneError
  simp only [hg, hw]
  rfl

/-- A lane error under a grant, on a calm part with no lane ready for the entry. -/
theorem State.whenAlive_error_grant {f : State → State} {g : Grant} (h : s.calm = true) (hbusy : s.lanesBusy = true)
    (hf : f s = s.laneError l kind) (hg : (s.lane l).grant = some g) :
    s.whenAlive f =
      { (s.setCircuit g.entry.circuit { s.circuit g.entry.circuit with state := .pending }).setLane l
          ((s.lane l).failed kind (some g.entry.circuit)) with
        reserved := { s.reserved with verdict := s.reserved.verdict - 1 }
        queue := g.entry :: s.queue } := by
  obtain ⟨ls, hls⟩ := State.laneError_grant (kind := kind) hg
  obtain ⟨-, -, -, -, -, -, -, hrest, -⟩ := s.calm_iff.mp h
  have hlanes := State.lanesBusy_setLane (l := l) (r := (s.lane l).failed kind (some g.entry.circuit)) hbusy rfl
  refine (State.whenAlive_forget h (hf.trans hls) (State.noWork_of_busy hlanes) rfl).trans ?_
  rw [← State.looks_of_atRest hrest]
  rfl

/-- A lane error under a capture, on a calm part with no lane ready. -/
theorem State.whenAlive_error_capture {f : State → State} {w : CaptureWork} (h : s.calm = true) (hbusy : s.lanesBusy = true)
    (hf : f s = s.laneError l kind) (hg : (s.lane l).grant = none) (hw : (s.lane l).capture = some w)
    (hreasons : s.campaign.host = false ∧ s.campaign.window = false) :
    s.whenAlive f =
      { (s.setCircuit w.circuit { s.circuit w.circuit with state := .idle }).setLane l
          ((s.lane l).failed kind (some w.circuit)) with
        campaign := { s.campaign with
          entries := s.campaign.entries.map fun e =>
            if e.circuit = w.circuit then { e with status := .unprocessed } else e } } := by
  obtain ⟨ls, hls⟩ := State.laneError_capture (kind := kind) hg hw hreasons
  obtain ⟨-, -, -, -, -, -, -, hrest, -⟩ := s.calm_iff.mp h
  have hlanes := State.lanesBusy_setLane (l := l) (r := (s.lane l).failed kind (some w.circuit)) hbusy rfl
  refine (State.whenAlive_forget h (hf.trans hls) (State.noWork_of_busy hlanes) rfl).trans ?_
  rw [← State.looks_of_atRest hrest]
  rfl

/-- A lane error after the work has ended, on a calm part. -/
theorem State.whenAlive_error_none {f : State → State} (h : s.calm = true) (hf : f s = s.laneError l kind)
    (hg : (s.lane l).grant = none) (hw : (s.lane l).capture = none) :
    s.whenAlive f = s.setLane l ((s.lane l).failed kind none) :=
  State.whenAlive_setLane h (hf.trans (State.laneError_none hg hw)) rfl

/-! ## Timeouts by the lane's state -/

theorem State.tuneTimeout_tuning (h : (s.lane l).state = .tuning) : s.tuneTimeout l = s.laneError l .tuneFailure := by
  unfold State.tuneTimeout
  simp only [h]

theorem State.tuneTimeout_calibrating (h : (s.lane l).state = .calibrating) :
    s.tuneTimeout l =
      if (s.lane l).calStep = some .tune then s.setLane l ((s.lane l).closeRun ⟨.tuneFailure, 0, 0⟩) else s := by
  unfold State.tuneTimeout
  simp only [h]

theorem State.tuneTimeout_other (ht : (s.lane l).state ≠ .tuning) (hc : (s.lane l).state ≠ .calibrating) :
    s.tuneTimeout l = s := by
  unfold State.tuneTimeout
  cases hs : (s.lane l).state with
  | tuning => exact absurd hs ht
  | calibrating => exact absurd hs hc
  | _ => simp only [hs]

theorem State.burstGapTimeout_measuring (h : (s.lane l).state = .measuring) :
    s.burstGapTimeout l = s.laneError l .burstFailure := by
  unfold State.burstGapTimeout
  simp only [h]

theorem State.burstGapTimeout_calibrating (h : (s.lane l).state = .calibrating) :
    s.burstGapTimeout l =
      if (s.lane l).calStep = some .burst then s.setLane l ((s.lane l).closeRun ⟨.burstFailure, 0, 0⟩) else s := by
  unfold State.burstGapTimeout
  simp only [h]

theorem State.burstGapTimeout_other (hm : (s.lane l).state ≠ .measuring) (hc : (s.lane l).state ≠ .calibrating) :
    s.burstGapTimeout l = s := by
  unfold State.burstGapTimeout
  cases hs : (s.lane l).state with
  | measuring => exact absurd hs hm
  | calibrating => exact absurd hs hc
  | _ => simp only [hs]

/-- A run that a timeout sends to its closing park, on a calm part. -/
theorem State.whenAlive_closeRun {f : State → State} {p : Prop} [Decidable p] {result : CalResult} (h : s.calm = true)
    (hf : f s = if p then s.setLane l ((s.lane l).closeRun result) else s) :
    s.whenAlive f = if p then s.setLane l ((s.lane l).closeRun result) else s := by
  by_cases hp : p
  · rw [if_pos hp] at hf ⊢
    exact State.whenAlive_setLane h hf (State.tunedAtEnd_of_calm h l)
  · rw [if_neg hp] at hf ⊢
    exact State.whenAlive_same h hf

end

end Sys2Proof.Machine

namespace Sys2Proof.Proofs
open Sys2Proof.Machine

/-- Settles O40: in TUNING and MEASURING the timeout is a lane error, in a reference run it closes the run. -/
theorem timeoutsByState : Obligations.TimeoutsByState := by
  refine ⟨fun s l g h hbusy hstate hg => ?_, fun s l w h hbusy hstate hg hw hreasons => ?_,
    fun s l h hstate hg hw => ?_, fun s l h hstate => ?_, fun s l h ht hc => ?_, fun s l g h hbusy hstate hg => ?_,
    fun s l w h hbusy hstate hg hw hreasons => ?_, fun s l h hstate hg hw => ?_, fun s l h hstate => ?_,
    fun s l h hm hc => ?_⟩ <;> refine congrArg Host.Outcome.next ?_
  · exact State.whenAlive_error_grant h hbusy (State.tuneTimeout_tuning hstate) hg
  · exact State.whenAlive_error_capture h hbusy (State.tuneTimeout_tuning hstate) hg hw hreasons
  · exact State.whenAlive_error_none h (State.tuneTimeout_tuning hstate) hg hw
  · exact State.whenAlive_closeRun h (State.tuneTimeout_calibrating hstate)
  · exact State.whenAlive_same h (State.tuneTimeout_other ht hc)
  · exact State.whenAlive_error_grant h hbusy (State.burstGapTimeout_measuring hstate) hg
  · exact State.whenAlive_error_capture h hbusy (State.burstGapTimeout_measuring hstate) hg hw hreasons
  · exact State.whenAlive_error_none h (State.burstGapTimeout_measuring hstate) hg hw
  · exact State.whenAlive_closeRun h (State.burstGapTimeout_calibrating hstate)
  · exact State.whenAlive_same h (State.burstGapTimeout_other hm hc)

end Sys2Proof.Proofs


/-! # The end of a park and of a reference run -/

namespace Sys2Proof.Machine

section
variable {s t : State} {l : LaneId}

/-! ## A lane that has become PARKED or FAULTED -/

theorem State.startsRun_eq_false (h : (s.lane l).state ≠ .parked ∨ (s.lane l).due s.profile = false) :
    s.startsRun l = false := by
  unfold State.startsRun
  rcases h with h | h
  · simp [h]
  · simp [h]

theorem Lane.due_eq_false_iff (r : Lane) (p : Profile) :
    r.due p = false ↔ r.age < p.interval ∧ r.calRequested = false := by
  simp [Lane.due]

/-- With no profile pending a settled lane that is not due is looked at. -/
theorem State.laneSettled_quiet (hlooks : t.looks = []) (hpending : t.pendingProfile = none)
    (hstarts : t.startsRun l = false) : t.laneSettled l = { t with looks := [l] } := by
  have hsettle : t.laneSettled l = (t.startRunIfDue l).lookAt l := by
    unfold State.laneSettled
    rw [hpending]
  rw [hsettle, State.startRunIfDue, if_neg (by simp [hstarts]), State.lookAt, if_neg (by simp [hlooks]), hlooks]
  rfl

/-- With no profile pending a PARKED lane that is due starts its run, and is looked at. -/
theorem State.laneSettled_due (hlooks : t.looks = []) (hpending : t.pendingProfile = none)
    (hstarts : t.startsRun l = true) :
    t.laneSettled l = { t.setLane l (t.lane l).startRun with looks := [l] } := by
  have hsettle : t.laneSettled l = (t.startRunIfDue l).lookAt l := by
    unfold State.laneSettled
    rw [hpending]
  rw [hsettle, State.startRunIfDue, if_pos hstarts, State.lookAt]
  have hlooks' : (t.modifyLane l Lane.startRun).looks = [] := hlooks
  rw [if_neg (by simp [hlooks']), hlooks']
  rfl

/-- A lane that is not FAULTED reports nothing. -/
theorem State.reportFault_parked (h : (t.lane l).state ≠ .faulted) : t.reportFault l = t := by
  unfold State.reportFault
  dsimp only
  split
  · next hf _ => exact absurd hf h
  · rfl

theorem State.reportFault_faulted {e : LaneError} (h : (t.lane l).state = .faulted) (he : (t.lane l).lastError = some e) :
    t.reportFault l = t.queueUnreserved (.laneFault l e.kind e.circuit t.clock) := by
  unfold State.reportFault
  simp only [h, he]

/-- What queuing an unreserved notice leaves alone. -/
theorem State.queueUnreserved_frame (t : State) (n : Notice) :
    (t.queueUnreserved n).looks = t.looks ∧ (t.queueUnreserved n).pendingProfile = t.pendingProfile ∧
      (t.queueUnreserved n).lanes = t.lanes ∧ (t.queueUnreserved n).profile = t.profile := by
  unfold State.queueUnreserved
  split <;> exact ⟨rfl, rfl, rfl, rfl⟩

theorem State.queueUnreserved_looks (t : State) (n : Notice) (ls : List LaneId) :
    { t.queueUnreserved n with looks := ls } = State.queueUnreserved { t with looks := ls } n := by
  have hfree : State.hasFree { t with looks := ls } = t.hasFree := rfl
  unfold State.queueUnreserved
  rw [hfree]
  split <;> rfl

/-! ## Parks and runs by the lane's state -/

theorem State.parkEnd_parking (h : (s.lane l).state = .parking) :
    s.parkEnd l = ((s.setLane l (s.lane l).endPark).reportFault l).laneSettled l := by
  unfold State.parkEnd
  simp only [h]

theorem State.parkEnd_run {r : CalResult} (h : (s.lane l).state = .calibrating) (hstep : (s.lane l).calStep = some .park)
    (hr : (s.lane l).calResult = some r) :
    s.parkEnd l = ((s.setLane l ((s.lane l).endRun r)).reportFault l).laneSettled l := by
  unfold State.parkEnd
  simp only [h, hstep, hr]

theorem State.parkEnd_other (hp : (s.lane l).state ≠ .parking) (hc : (s.lane l).state ≠ .calibrating) :
    s.parkEnd l = s := by
  unfold State.parkEnd
  cases hs : (s.lane l).state with
  | parking => exact absurd hs hp
  | calibrating => exact absurd hs hc
  | _ => simp only [hs]

theorem Lane.endPark_parked {r : Lane} (h : r.errorCount ≠ 2) : r.endPark = { r with state := .parked } :=
  congrArg (fun st => { r with state := st }) (if_neg h)

theorem Lane.endPark_faulted {r : Lane} (h : r.errorCount = 2) : r.endPark = { r with state := .faulted } :=
  congrArg (fun st => { r with state := st }) (if_pos h)

theorem Lane.endRun_success {r : Lane} {result : CalResult} (h : result.outcome = .success) :
    r.endRun result = { r with
      state := .parked, trim := result.trim, offset := result.offset, fresh := true, errorCount := 0, age := 0
      calRequested := false, lastOutcome := some .success, work := .none, calStep := none, calResult := none } := by
  unfold Lane.endRun
  dsimp only
  rw [h, if_pos rfl]
  rfl

/-- A failed run leaves the lane STALE with one error more. -/
theorem Lane.endRun_failure {r : Lane} {result : CalResult} (h : result.outcome ≠ .success) :
    r.endRun result = { r with
      state := if min 2 (r.errorCount + 1) = 2 then .faulted else .parked
      fresh := false, errorCount := min 2 (r.errorCount + 1), lastError := some ⟨.calibration result.outcome, none⟩
      age := 0, calRequested := false, lastOutcome := some result.outcome, work := .none, calStep := none
      calResult := none } := by
  unfold Lane.endRun
  dsimp only
  rw [if_neg h]
  rfl

/-! ## The end of a park that leaves the arbiter nothing to give -/

section
variable {f : State → State} {r : Lane}

/-- What the arbiter finds when lane `l` has become PARKED. -/
theorem State.parked_eq (h : s.calm = true) (hpending : s.pendingProfile = none)
    (hf : f s = ((s.setLane l r).reportFault l).laneSettled l) (hr : r.state = .parked) (hdue : r.due s.profile = false) :
    f s = { s.setLane l r with looks := [l] } := by
  obtain ⟨-, -, -, -, -, -, -, hrest, -⟩ := s.calm_iff.mp h
  have hlane := State.lane_setLane_self s l r
  have hlooks := State.looks_of_atRest hrest
  rw [hf, State.reportFault_parked (by rw [hlane, hr]; nofun)]
  exact State.laneSettled_quiet (t := s.setLane l r) hlooks hpending
    (State.startsRun_eq_false (.inr (by rw [hlane]; exact hdue)))

/-- What the arbiter finds when lane `l` has become FAULTED. -/
theorem State.faulted_eq {e : LaneError} (h : s.calm = true) (hpending : s.pendingProfile = none)
    (hf : f s = ((s.setLane l r).reportFault l).laneSettled l) (hr : r.state = .faulted) (he : r.lastError = some e) :
    f s = State.queueUnreserved { s.setLane l r with looks := [l] } (.laneFault l e.kind e.circuit s.clock) := by
  obtain ⟨-, -, -, -, -, -, -, hrest, -⟩ := s.calm_iff.mp h
  have hlane := State.lane_setLane_self s l r
  have hlooks := State.looks_of_atRest hrest
  rw [hf, State.reportFault_faulted (by rw [hlane, hr]) (by rw [hlane, he])]
  obtain ⟨hl, hp, hv, -⟩ := State.queueUnreserved_frame (s.setLane l r) (.laneFault l e.kind e.circuit (s.setLane l r).clock)
  rw [State.laneSettled_quiet (hl.trans hlooks) (hp.trans hpending) (State.startsRun_eq_false (.inl (by
    rw [State.lane, hv]
    show ((s.setLane l r).lane l).state ≠ .parked
    rw [hlane, hr]
    nofun)))]
  exact State.queueUnreserved_looks _ _ _

theorem State.noWork_settled (h : s.calm = true) (hr : r.tunedAtEnd = false)
    (hq : ∀ e ∈ s.queue, (s.circuit e.circuit).definition.map (·.lane) ≠ some l) (hc : s.campaign.state ≠ .running) :
    State.NoWork { s.setLane l r with looks := [l] } :=
  State.noWork_of_look rfl hq hc fun j => State.tunedAtEnd_setLane h hr j

theorem Lane.tunedAtEnd_of_state {r : Lane} (h : r.state ≠ .tuned) : r.tunedAtEnd = false := by
  simp [Lane.tunedAtEnd, h]

/-- A lane that becomes PARKED, with nothing queued for it and no campaign RUNNING. -/
theorem State.whenAlive_parked (h : s.calm = true) (hpending : s.pendingProfile = none)
    (hf : f s = ((s.setLane l r).reportFault l).laneSettled l) (hr : r.state = .parked) (hdue : r.due s.profile = false)
    (hq : ∀ e ∈ s.queue, (s.circuit e.circuit).definition.map (·.lane) ≠ some l) (hc : s.campaign.state ≠ .running) :
    s.whenAlive f = s.setLane l r := by
  obtain ⟨-, -, -, -, -, -, -, hrest, -⟩ := s.calm_iff.mp h
  refine (State.whenAlive_forget h (State.parked_eq h hpending hf hr hdue)
    (State.noWork_settled h (Lane.tunedAtEnd_of_state (by rw [hr]; nofun)) hq hc) rfl).trans ?_
  have hlooks := State.looks_of_atRest hrest
  exact State.forget_looks (s := s.setLane l r) hlooks

/-- A lane that becomes FAULTED, with nothing queued for it and no campaign RUNNING. -/
theorem State.whenAlive_faulted {e : LaneError} (h : s.calm = true) (hpending : s.pendingProfile = none)
    (hf : f s = ((s.setLane l r).reportFault l).laneSettled l) (hr : r.state = .faulted) (he : r.lastError = some e)
    (hq : ∀ e ∈ s.queue, (s.circuit e.circuit).definition.map (·.lane) ≠ some l) (hc : s.campaign.state ≠ .running) :
    s.whenAlive f = (s.setLane l r).noticed (.laneFault l e.kind e.circuit s.clock) := by
  obtain ⟨-, -, -, -, -, -, -, hrest, -⟩ := s.calm_iff.mp h
  refine (State.whenAlive_noticed h (State.faulted_eq h hpending hf hr he)
    (State.noWork_settled h (Lane.tunedAtEnd_of_state (by rw [hr]; nofun)) hq hc) rfl rfl rfl).trans ?_
  have hlooks := State.looks_of_atRest hrest
  exact congrArg (State.noticed · _) (State.forget_looks (s := s.setLane l r) hlooks)

end

end

end Sys2Proof.Machine

namespace Sys2Proof.Proofs
open Sys2Proof.Machine

/-- Settles O42, by the outcome of the run (`Lane.endRun_success`, `Lane.endRun_failure`) and the state the lane takes. -/
theorem referenceRunEnds : Obligations.ReferenceRunEnds := by
  refine ⟨fun s l r h hstate hstep hr hpending hinterval hq hc hsuccess => ?_,
    fun s l r h hstate hstep hr hpending hinterval hq hc hfails herrors => ?_,
    fun s l r h hstate hstep hr hpending hinterval hq hc hfails herrors => ?_⟩ <;>
    refine congrArg Host.Outcome.next ?_
  · have hend := State.parkEnd_run hstate hstep hr
    rw [Lane.endRun_success hsuccess] at hend
    exact State.whenAlive_parked h hpending hend rfl ((Lane.due_eq_false_iff _ _).mpr ⟨hinterval, rfl⟩) hq hc
  · have hend := State.parkEnd_run hstate hstep hr
    rw [Lane.endRun_failure hfails, herrors] at hend
    exact State.whenAlive_parked h hpending hend rfl ((Lane.due_eq_false_iff _ _).mpr ⟨hinterval, rfl⟩) hq hc
  · have hend := State.parkEnd_run hstate hstep hr
    have htwo : min 2 ((s.lane l).errorCount + 1) = 2 := by omega
    rw [Lane.endRun_failure hfails, htwo] at hend
    exact State.whenAlive_faulted (e := ⟨.calibration r.outcome, none⟩) h hpending hend rfl rfl hq hc

end Sys2Proof.Proofs


/-! # The arbiter's look at one lane -/

namespace Sys2Proof.Machine

section
variable {s : State} {l : LaneId}

/-! ## One lane looked at -/

theorem lookedAt_one : ∀ l : LaneId, allLanes.filter [l].contains = [l] := by decide

theorem State.offerCaptures_one (h : s.looks = [l]) : s.offerCaptures = s.offerCapture l := by
  have hlooked : s.lookedAt = [l] := by
    unfold State.lookedAt
    rw [h]
    exact lookedAt_one l
  rw [State.offerCaptures, hlooked]
  rfl

/-- A queue with no entry for a lane looked at gives no work. -/
theorem State.offerQueue_passed (h : ∀ e ∈ s.queue, ∀ l ∈ s.looks, s.laneOf e.circuit ≠ some l) : s.offerQueue = s := by
  unfold State.offerQueue
  rw [State.foldl_offerEntry_passed h]

theorem State.hasEntry_eq_false (h : ∀ e ∈ s.queue, s.laneOf e.circuit ≠ some l) : s.hasEntry l = false := by
  refine List.any_eq_false.mpr fun e he => ?_
  simpa [State.entryOnLane] using h e he

/-- The arbiter's look at one lane without a queue entry is its look for a capture. -/
theorem State.arbitrate_capture {t : State} (hlooks : s.looks = [l]) (hq : ∀ e ∈ s.queue, s.laneOf e.circuit ≠ some l)
    (hoffer : s.offerCapture l = t) (hlanes : ∀ j, (t.lane j).tunedAtEnd = false) :
    s.arbitrate = { t with looks := [] } := by
  have hqueue : s.offerQueue = s := State.offerQueue_passed fun e he j hj => by
    rw [hlooks, List.mem_singleton] at hj
    rw [hj]
    exact hq e he
  rw [State.arbitrate, hqueue, State.offerCaptures_one hlooks, hoffer]
  exact congrArg (fun u : State => { u with looks := [] }) (State.parkIfIdle_none _ t hlanes)

/-- A settled lane is served while no profile is pending and its reference run is not due. -/
theorem State.served_settled (hpending : s.pendingProfile = none)
    (h : (s.lane l).state = .faulted ∨ ((s.lane l).state = .parked ∧ (s.lane l).due s.profile = false)) :
    s.served l = true := by
  unfold State.served State.withheldByLane Lane.ready
  rcases h with h | ⟨h, hdue⟩
  · simp [hpending, h]
  · simp [hpending, h, hdue]

/-- A lane that is offered no circuit is given no capture. -/
theorem State.offerCapture_none {t : State} (hserved : s.served l = true) (hentry : s.hasEntry l = false)
    (hask : State.askCapture l (s.campaign.entries.map (·.circuit)) s = (t, none)) : s.offerCapture l = t := by
  unfold State.offerCapture
  rw [if_pos (by simp [hserved, hentry]), hask]

/-- A circuit offered to a lane that takes its channel is measured there. -/
theorem State.offerCapture_granted {c : Nat} {d : Definition} (hserved : s.served l = true) (hentry : s.hasEntry l = false)
    (hask : State.askCapture l (s.campaign.entries.map (·.circuit)) s = (s, some c))
    (hd : (s.circuit c).definition = some d) (htakes : (s.lane l).takes d.channel = true) :
    s.offerCapture l = s.grantCapture l c d.channel := by
  have hchannel : s.channelOf c = some d.channel := by rw [State.channelOf, hd]; rfl
  unfold State.offerCapture
  rw [if_pos (by simp [hserved, hentry]), hask]
  dsimp only
  rw [hchannel]
  exact if_pos htakes

/-! ## Asking for a circuit to measure -/

/-- Entries that the lane does not reach are passed over. -/
theorem State.askCapture_passed {cs rest : List Nat} (hrunning : s.campaign.state = .running)
    (h : ∀ c ∈ cs, s.reachable l c = false) : State.askCapture l (cs ++ rest) s = State.askCapture l rest s := by
  induction cs with
  | nil => rfl
  | cons c cs ih =>
    rw [List.cons_append, State.askCapture, if_neg (by simp [hrunning]), if_neg (by simp [h c (by simp)])]
    exact ih fun x hx => h x (by simp [hx])

/-- The first entry that the lane reaches, outside the region, is offered to a lane that may measure. -/
theorem State.askCapture_offers {c : Nat} {rest : List Nat} (hrunning : s.campaign.state = .running)
    (hc : s.reachable l c = true) (hregion : s.insideRegion c = false) (hstate : (s.lane l).state ≠ .faulted)
    (hfresh : (s.lane l).fresh = true) (hlimit : s.campaign.pendingCommits < Config.grantPendingLimit) :
    State.askCapture l (c :: rest) s = (s, some c) := by
  rw [State.askCapture, if_neg (by simp [hrunning]), if_pos hc, if_neg (by simp [hregion]), if_neg hstate,
    if_pos ⟨hfresh, hlimit⟩]

/-- Entries outside the region wait for a lane that is STALE, or for the commits that are pending. -/
theorem State.askCapture_waits {cs : List Nat} (hrunning : s.campaign.state = .running)
    (hregion : ∀ c ∈ cs, s.reachable l c = true → s.insideRegion c = false) (hstate : (s.lane l).state ≠ .faulted)
    (hwait : (s.lane l).fresh = false ∨ Config.grantPendingLimit ≤ s.campaign.pendingCommits) :
    State.askCapture l cs s = (s, none) := by
  induction cs with
  | nil => rfl
  | cons c cs ih =>
    rw [State.askCapture, if_neg (by simp [hrunning])]
    cases hc : s.reachable l c with
    | false =>
      rw [if_neg (by simp)]
      exact ih fun x hx => hregion x (by simp [hx])
    | true =>
      rw [if_pos rfl, if_neg (by simp [hregion c (by simp) hc]), if_neg hstate, if_neg]
      rintro ⟨hfresh, hlimit⟩
      rcases hwait with hstale | hfull
      · simp [hstale] at hfresh
      · exact absurd hlimit (Nat.not_lt.mpr hfull)

/-! ## Entries that end where they are reached -/

/-- The campaign after the entries of the circuits in `done` that lane `l` reaches have ended with their results. -/
def State.concluded (s : State) (l : LaneId) (result : Nat → CaptureResult) (done : List Nat) : State :=
  { s with campaign := { s.campaign with
      progressOwed := s.campaign.progressOwed && !done.any (s.reachable l)
      entries := s.campaign.entries.map fun x =>
        if x.circuit ∈ done ∧ s.reachable l x.circuit = true then { x with status := .finished (result x.circuit) }
        else x } }

theorem State.concluded_nil (result : Nat → CaptureResult) : s.concluded l result [] = s := by
  have hsame : s.campaign.entries.map (fun x : CaptureEntry =>
      if x.circuit ∈ ([] : List Nat) ∧ s.reachable l x.circuit = true then
        { x with status := .finished (result x.circuit) } else x) = s.campaign.entries := by
    simp
  have howed : (s.campaign.progressOwed && !([] : List Nat).any (s.reachable l)) = s.campaign.progressOwed := by simp
  unfold State.concluded
  rw [hsame, howed]

theorem CaptureEntry.ended_circuit {p : Prop} [Decidable p] (x : CaptureEntry) (r : CaptureResult) :
    (if p then { x with status := .finished r } else x).circuit = x.circuit := by
  split <;> rfl

/-- The entries of other circuits are reached as before. -/
theorem State.reachable_concluded {result : Nat → CaptureResult} {done : List Nat} {c : Nat} (hc : c ∉ done) :
    (s.concluded l result done).reachable l c = s.reachable l c := by
  have hentry : (s.concluded l result done).campaign.entryFor c = s.campaign.entryFor c := by
    unfold Campaign.entryFor State.concluded
    dsimp only
    rw [List.find?_map]
    have hsame : ((fun e : CaptureEntry => e.circuit == c) ∘ fun x : CaptureEntry =>
        if x.circuit ∈ done ∧ s.reachable l x.circuit = true then
          { x with status := .finished (result x.circuit) } else x) = fun e : CaptureEntry => e.circuit == c := by
      funext x
      simp only [Function.comp, CaptureEntry.ended_circuit]
    rw [hsame]
    cases hf : s.campaign.entries.find? (fun e => e.circuit == c) with
    | none => rfl
    | some x =>
      have hx : x.circuit = c := by simpa using List.find?_some (p := fun e : CaptureEntry => e.circuit == c) hf
      exact congrArg some (if_neg fun h => hc (hx ▸ h.1))
  have hnamed : (s.concluded l result done).namedUnprocessed c = s.namedUnprocessed c := by
    unfold State.namedUnprocessed State.entryIs
    rw [hentry]
    rfl
  unfold State.reachable
  rw [hnamed]
  rfl

/-- One result more, of a campaign that goes on. -/
theorem State.finishEntry_goes {c : Nat} {r : CaptureResult} (hdeferred : s.campaign.deferredSuspend = false)
    (hreasons : s.campaign.host = false ∧ s.campaign.window = false)
    (hgoes : ∃ x ∈ s.campaign.entries, x.circuit ≠ c ∧ x.status.isFinished = false) :
    s.finishEntry c r = { s with campaign := { s.campaign with
      progressOwed := false
      entries := s.campaign.entries.map fun e => if e.circuit = c then { e with status := .finished r } else e } } := by
  let k : Campaign := { s.campaign with
    progressOwed := false
    entries := s.campaign.entries.map fun e => if e.circuit = c then { e with status := .finished r } else e }
  have hgoing : k.allFinished = false := by
    obtain ⟨x, hx, hne, hopen⟩ := hgoes
    refine List.all_eq_false.mpr ⟨x, List.mem_map.mpr ⟨x, hx, if_neg hne⟩, by simp [hopen]⟩
  have hfollow : k.followReasons = k := Campaign.followReasons_none (.inr hreasons)
  have hfinish : s.finishEntry c r = if k.allFinished then State.endCampaign { s with campaign := k }
      else if k.deferredSuspend then { s with campaign := Campaign.addHost { k with deferredSuspend := false } }
      else { s with campaign := k.followReasons } := rfl
  rw [hfinish, hgoing, if_neg (by simp), if_neg (by simp [k, hdeferred]), hfollow]

theorem State.concluded_campaign {result : Nat → CaptureResult} {done : List Nat} {owed : Bool} {es : List CaptureEntry}
    (howed : owed = (s.campaign.progressOwed && !done.any (s.reachable l)))
    (hes : es = s.campaign.entries.map fun x =>
      if x.circuit ∈ done ∧ s.reachable l x.circuit = true then { x with status := .finished (result x.circuit) } else x) :
    { s with campaign := { s.campaign with progressOwed := owed, entries := es } } = s.concluded l result done := by
  rw [howed, hes]
  rfl

/-- An entry that the lane does not reach ends nothing. -/
theorem State.concluded_passed {result : Nat → CaptureResult} {done : List Nat} {c : Nat} (h : s.reachable l c = false) :
    s.concluded l result done = s.concluded l result (done ++ [c]) := by
  refine State.concluded_campaign ?_ (List.map_congr_left fun x _ => ?_)
  · simp [h]
  · by_cases hx : x.circuit = c
    · simp [hx, h]
    · simp [hx]

/-- An entry that the lane reaches ends with its result. -/
theorem State.concluded_finished {result : Nat → CaptureResult} {done : List Nat} {c : Nat}
    (hdeferred : s.campaign.deferredSuspend = false)
    (hreasons : s.campaign.host = false ∧ s.campaign.window = false)
    (hgoes : ∃ x ∈ s.campaign.entries, s.reachable l x.circuit = false ∧ x.status.isFinished = false)
    (hc : s.reachable l c = true) :
    (s.concluded l result done).finishEntry c (result c) = s.concluded l result (done ++ [c]) := by
  have hgoing : ∃ x ∈ (s.concluded l result done).campaign.entries, x.circuit ≠ c ∧ x.status.isFinished = false := by
    obtain ⟨x, hx, hpassed, hopen⟩ := hgoes
    refine ⟨x, List.mem_map.mpr ⟨x, hx, if_neg (by simp [hpassed])⟩, fun he => ?_, hopen⟩
    rw [he, hc] at hpassed
    cases hpassed
  rw [State.finishEntry_goes (s := s.concluded l result done) hdeferred hreasons hgoing]
  refine State.concluded_campaign (s := s) (l := l) (done := done ++ [c]) (owed := false)
    (es := (s.concluded l result done).campaign.entries.map fun e =>
      if e.circuit = c then { e with status := .finished (result c) } else e) (by simp [hc]) ?_
  unfold State.concluded
  dsimp only
  rw [List.map_map]
  refine List.map_congr_left fun x _ => ?_
  by_cases hx : x.circuit = c
  · by_cases hd : c ∈ done <;> simp [hx, hc, hd]
  · by_cases hd : x.circuit ∈ done ∧ s.reachable l x.circuit = true <;> simp [hx, hd]

/-- A lane that reaches entries which end at once asks until each has ended, while some other entry goes on. -/
theorem State.askCapture_concludes {result : Nat → CaptureResult} {cs done : List Nat} (hnd : (done ++ cs).Nodup)
    (hrunning : s.campaign.state = .running) (hdeferred : s.campaign.deferredSuspend = false)
    (hreasons : s.campaign.host = false ∧ s.campaign.window = false)
    (hgoes : ∃ x ∈ s.campaign.entries, s.reachable l x.circuit = false ∧ x.status.isFinished = false)
    (hresult : ∀ c ∈ cs, s.reachable l c = true →
      (s.insideRegion c = true ∧ result c = .insideRegion) ∨
        (s.insideRegion c = false ∧ (s.lane l).state = .faulted ∧ result c = .laneFault)) :
    State.askCapture l cs (s.concluded l result done) = (s.concluded l result (done ++ cs), none) := by
  induction cs generalizing done with
  | nil => rw [List.append_nil]; rfl
  | cons c cs ih =>
    have hc : c ∉ done := fun hm => (List.nodup_append.mp hnd).2.2 c hm c (by simp) rfl
    have happend : done ++ c :: cs = (done ++ [c]) ++ cs := by simp
    have hrest := ih (done := done ++ [c]) (by rwa [← happend]) fun x hx => hresult x (by simp [hx])
    have hreach : (s.concluded l result done).reachable l c = s.reachable l c := State.reachable_concluded hc
    have hrun : ¬(s.concluded l result done).campaign.state ≠ .running := not_not.mpr hrunning
    rw [State.askCapture, if_neg hrun, hreach, happend, ← hrest]
    cases hr : s.reachable l c with
    | false =>
      rw [if_neg (by simp), State.concluded_passed hr]
    | true =>
      have hstep := State.concluded_finished (result := result) (done := done) hdeferred hreasons hgoes hr
      rw [if_pos rfl]
      rcases hresult c (by simp) hr with ⟨hin, hres⟩ | ⟨hout, hfault, hres⟩
      · have hin' : (s.concluded l result done).insideRegion c = true := hin
        rw [if_pos hin', ← hres, hstep]
      · have hout' : (s.concluded l result done).insideRegion c = false := hout
        have hfault' : ((s.concluded l result done).lane l).state = .faulted := hfault
        rw [if_neg (by simp [hout']), if_pos hfault', ← hres, hstep]

end

end Sys2Proof.Machine


/-! # What a lane that has parked is given -/

namespace Sys2Proof.Machine

section
variable {s t u : State} {l : LaneId} {f : State → State}

/-! ## Events that the arbiter ends -/

/-- An event of a calm part whose frames the arbiter leaves alone ends with what the arbiter leaves. -/
theorem State.whenAlive_arbitrated (h : s.calm = true) (hf : f s = t) (harb : t.arbitrate = u)
    (hframes : u.frames = s.frames) : s.whenAlive f = u := by
  obtain ⟨-, -, -, hq, -, -, -, -, hquiet⟩ := s.calm_iff.mp h
  simp only [State.frames, Prod.mk.injEq] at hframes
  obtain ⟨hrequests, htrans, hreplies, hnotices⟩ := hframes
  rw [s.whenAlive_calm h, hf, State.settle, harb, State.takeRequests_none u (hrequests.trans hq),
    State.transmit_quiet u (by rwa [htrans, hreplies, hnotices])]

/-- An event of a calm part after which the arbiter leaves one notice queued. -/
theorem State.whenAlive_arbitrated_noticed {n : Notice} (h : s.calm = true) (hf : f s = t)
    (harb : t.arbitrate = u.queueUnreserved n) (hframes : u.frames = s.frames) (hphase : u.phase = s.phase)
    (hsent : u.restartReplySent = s.restartReplySent) : s.whenAlive f = u.noticed n := by
  obtain ⟨hrun, -, hsentNo, hq, -, -, -, -, hquiet⟩ := s.calm_iff.mp h
  simp only [State.frames, Prod.mk.injEq] at hframes
  obtain ⟨hrequests, htrans, hreplies, hnotices⟩ := hframes
  have hreq : (u.queueUnreserved n).requestQueue = [] := by
    rw [(u.queueUnreserved_lists n).2.1, hrequests, hq]
  rw [s.whenAlive_calm h, hf, State.settle, harb, State.takeRequests_none _ hreq]
  exact State.transmit_noticed n (State.alive_of_running (hphase.trans hrun)) (hsent.trans hsentNo)
    (by rwa [htrans, hreplies, hnotices])

/-! ## The entries that a lane reaches -/

theorem Campaign.entryFor_of_mem {c : Campaign} {x : CaptureEntry} (hnd : (c.entries.map (·.circuit)).Nodup)
    (hx : x ∈ c.entries) : c.entryFor x.circuit = some x := by
  cases he : c.entryFor x.circuit with
  | none => exact absurd (List.find?_eq_none.mp he x hx) (by simp)
  | some y =>
    obtain ⟨hy, hc⟩ := Campaign.entryFor_mem he
    rw [List.inj_on_of_nodup_map hnd hy hx hc]

/-- A lane reaches the UNPROCESSED entries of its IDLE circuits without a change in progress (R127). -/
theorem State.reachable_entry {x : CaptureEntry} (hrunning : s.campaign.state = .running)
    (hnd : (s.campaign.entries.map (·.circuit)).Nodup) (hx : x ∈ s.campaign.entries) :
    s.reachable l x.circuit =
      (x.status == .unprocessed && (s.circuit x.circuit).definition.map (·.lane) == some l &&
        (s.circuit x.circuit).state == .idle && !(s.circuit x.circuit).changing) := by
  unfold State.reachable State.namedUnprocessed State.entryIs
  rw [Campaign.entryFor_of_mem hnd hx, hrunning]
  rfl

/-- A look at one lane that is not served leaves no work. -/
theorem State.noWork_unserved (hlooks : t.looks = [l]) (h : t.served l = false)
    (hlanes : ∀ j, (t.lane j).tunedAtEnd = false) : t.NoWork := by
  refine ⟨fun e he j hj hl => ?_, fun j hj => .inl ?_, hlanes⟩ <;>
    rw [hlooks, List.mem_singleton] at hj <;> rw [hj] <;> exact h

/-- A lane that has parked starts its reference run where it is due. -/
theorem State.whenAlive_due {r : Lane} (h : s.calm = true) (hpending : s.pendingProfile = none)
    (hf : f s = ((s.setLane l r).reportFault l).laneSettled l) (hr : r.state = .parked) (hdue : r.due s.profile = true) :
    s.whenAlive f = s.setLane l r.startRun := by
  obtain ⟨-, -, -, -, -, -, -, hrest, -⟩ := s.calm_iff.mp h
  have hlane := State.lane_setLane_self s l r
  have hlooks := State.looks_of_atRest hrest
  have hstarts : (s.setLane l r).startsRun l = true := by
    unfold State.startsRun
    rw [hlane]
    simp only [hr, Bool.and_eq_true, beq_self_eq_true, true_and]
    exact ⟨hdue, by rw [Option.isNone_iff_eq_none]; exact hpending⟩
  have hset : f s = { s.setLane l r.startRun with looks := [l] } := by
    rw [hf, State.reportFault_parked (by rw [hlane, hr]; nofun),
      State.laneSettled_due (t := s.setLane l r) hlooks hpending hstarts, hlane, State.setLane_setLane]
  have hunserved : State.served { s.setLane l r.startRun with looks := [l] } l = false := by
    refine State.served_of_not_ready ?_
    show ((s.setLane l r.startRun).lane l).ready = false
    rw [State.lane_setLane_self]
    rfl
  refine (State.whenAlive_forget h hset (State.noWork_unserved rfl hunserved (State.tunedAtEnd_setLane h rfl)) rfl).trans ?_
  exact State.forget_looks (s := s.setLane l r.startRun) hlooks

/-- The circuits of other entries keep theirs when the entry of one circuit is dropped. -/
theorem filter_dropped {before after : List QueueEntry} {e : QueueEntry} (h : ∀ x ∈ before ++ after, x.circuit ≠ e.circuit) :
    (before ++ e :: after).filter (fun x => x.circuit != e.circuit) = before ++ after := by
  have hkeep : ∀ q : List QueueEntry, (∀ x ∈ q, x.circuit ≠ e.circuit) →
      q.filter (fun x => x.circuit != e.circuit) = q := fun q hq =>
    List.filter_eq_self.mpr fun x hx => by simpa using hq x hx
  rw [List.filter_append, hkeep before fun x hx => h x (by simp [hx]), List.filter_cons,
    if_neg (by simp), hkeep after fun x hx => h x (by simp [hx])]

/-- The record of a PARKED lane that begins a verification (R57). -/
def Lane.probing (r : Lane) (p : Profile) (e : QueueEntry) (channel : Nat) : Lane :=
  { r with
    state := .tuning, channel := channel, headCommand := .tune channel, burstLength := p.burstLength
    work := .verification e.circuit, grant := some ⟨e, p.burstLength, p.retries, [], .tuning⟩ }

/-- The grant of an entry to a PARKED lane. -/
theorem State.grantVerification_parked {e : QueueEntry} {channel : Nat} (hr : (t.lane l).state = .parked) :
    t.grantVerification l e channel =
      { (t.setCircuit e.circuit { t.circuit e.circuit with state := .probing }).setLane l
          ((t.lane l).probing t.profile e channel) with
        queue := t.queue.filter fun x => x.circuit != e.circuit
        reserved := { t.reserved with verdict := t.reserved.verdict + 1 } } := by
  have hbegin : { (t.lane l).begin channel t.profile.burstLength with
        work := .verification e.circuit
        grant := some (Grant.mk e t.profile.burstLength t.profile.retries []
          (if (t.lane l).state = .tuned then GrantPhase.measuring else .tuning)) } =
      (t.lane l).probing t.profile e channel := by
    simp [Lane.begin, hr, Lane.probing]
  rw [← hbegin]
  rfl

/-- A lane that has parked is granted the oldest entry for it, where a notice entry is FREE. -/
theorem State.whenAlive_granted {r : Lane} {e : QueueEntry} {before after : List QueueEntry} {d : Definition}
    (h : s.calm = true) (hpending : s.pendingProfile = none)
    (hf : f s = ((s.setLane d.lane r).reportFault d.lane).laneSettled d.lane) (hr : r.state = .parked)
    (hdue : r.due s.profile = false) (hq : s.queue = before ++ e :: after)
    (hbefore : ∀ x ∈ before, (s.circuit x.circuit).definition.map (·.lane) ≠ some d.lane)
    (hother : ∀ x ∈ before ++ after, x.circuit ≠ e.circuit) (hd : (s.circuit e.circuit).definition = some d)
    (hfree : s.occupied < 32) :
    s.whenAlive f =
      { (s.setCircuit e.circuit { s.circuit e.circuit with state := .probing }).setLane d.lane
          (r.probing s.profile e d.channel) with
        queue := before ++ after
        reserved := { s.reserved with verdict := s.reserved.verdict + 1 } } := by
  obtain ⟨-, -, -, -, -, -, -, hrest, -⟩ := s.calm_iff.mp h
  have hlooks := State.looks_of_atRest hrest
  let t : State := { s.setLane d.lane r with looks := [d.lane] }
  have hlane : t.lane d.lane = r := State.lane_setLane_self s d.lane r
  have hserved : t.served d.lane = true :=
    State.served_settled hpending (.inr (by rw [hlane]; exact ⟨hr, hdue⟩))
  have harb : t.arbitrate = { t.grantVerification d.lane e d.channel with looks := [] } :=
    State.arbitrate_granted hq rfl hd hbefore hserved (s.hasFree_iff.mpr hfree) (by rw [hlane, hr]; nofun)
      (by rw [hlane]; simp [Lane.takes, hr]) fun j hj => by
        have hj' : t.lane j = s.lane j := State.lane_setLane_other s hj r
        rw [hj']
        exact State.tunedAtEnd_of_calm h j
  have hparked : (t.lane d.lane).state = .parked := by rw [hlane, hr]
  have hqueue : t.queue.filter (fun x => x.circuit != e.circuit) = before ++ after := by
    have hq' : t.queue = before ++ e :: after := hq
    rw [hq', filter_dropped hother]
  have hlanes : (s.lanes.set d.lane r).set d.lane (r.probing s.profile e d.channel) =
      s.lanes.set d.lane (r.probing s.profile e d.channel) := Vector.set_set ..
  rw [State.grantVerification_parked hparked, hqueue, hlane] at harb
  refine (State.whenAlive_arbitrated h (State.parked_eq h hpending hf hr hdue) harb rfl).trans ?_
  let u : State := { s.setCircuit e.circuit { s.circuit e.circuit with state := .probing } with
    queue := before ++ after, reserved := { s.reserved with verdict := s.reserved.verdict + 1 } }
  have hu : ({ u with lanes := (s.lanes.set d.lane r).set d.lane (r.probing s.profile e d.channel), looks := [] } : State) =
      u.setLane d.lane (r.probing s.profile e d.channel) := by
    rw [hlanes, ← hlooks]
    rfl
  exact hu

end

end Sys2Proof.Machine


/-! # Verdicts concluded, and the lane that the arbiter parks or grants after them -/

namespace Sys2Proof.Machine

section
variable {s : State} {l : LaneId}

/-! ## The circuit table, the closure record, the link (R116) -/

/-- Where no campaign is in progress, a circuit that becomes IDLE is not looked at. -/
theorem State.makeIdle_idle {c : Nat} (h : s.campaign.state = .idle) : s.makeIdle c = s.setCircuitState c .idle := by
  unfold State.makeIdle
  exact if_neg (by simp [State.namedUnprocessed, State.setCircuitState, State.modifyCircuit, State.setCircuit, h])

/-- A verdict without a tag is counted nowhere. -/
theorem State.countVerdict_none (kind : VerdictKind) (spanEvent : Bool) : s.countVerdict none kind spanEvent = s := rfl

/-- The table after a verdict: it is the circuit's last, and the circuit is IDLE. -/
def State.judged (s : State) (c : Nat) (v : Verdict) : State :=
  s.setCircuit c { s.circuit c with lastVerdict := some v, state := .idle }

theorem State.judged_eq {c : Nat} {v : Verdict} (h : s.campaign.state = .idle) :
    (s.modifyCircuit c fun r => { r with lastVerdict := some v }).makeIdle c = s.judged c v := by
  have hne : ({ s.circuit c with lastVerdict := some v } : Circuit) ≠ {} := fun he =>
    absurd (congrArg Circuit.lastVerdict he) (by simp)
  rw [State.makeIdle_idle (s := s.modifyCircuit c fun r => { r with lastVerdict := some v }) h]
  unfold State.setCircuitState State.modifyCircuit State.judged
  rw [State.circuit_setCircuit_self, State.setCircuit_setCircuit _ hne]

/-- The verdict of a circuit is recorded, counted, and sent or withheld. -/
theorem State.concludeVerdict_eq {c : Nat} {v : Verdict} (h : s.campaign.state = .idle) :
    s.concludeVerdict c v =
      if ((s.judged c v).countVerdict v.closureId v.kind v.qualifiers.spanEvent).profile.withholds v.kind then
        ((s.judged c v).countVerdict v.closureId v.kind v.qualifiers.spanEvent).returnReservation .verdict
      else ((s.judged c v).countVerdict v.closureId v.kind v.qualifiers.spanEvent).queueReserved .verdict (.verdict c v) := by
  rw [← State.judged_eq h]
  rfl

theorem Profile.withholds_iff (p : Profile) (kind : VerdictKind) :
    p.withholds kind = true ↔ p.quietPass = true ∧ (kind = .pass ∨ kind = .continuityOnly) := by
  simp [Profile.withholds]

/-- What the link makes of a verdict that is recorded and counted: its notice takes the reservation, which is returned
where quiet pass withholds it. -/
theorem State.sent_eq {c : Nat} {v : Verdict} (hreserved : 1 ≤ s.reserved.verdict) :
    ∃ ls, (if s.profile.withholds v.kind then s.returnReservation .verdict
        else s.queueReserved .verdict (.verdict c v)) =
      { s with
        reserved := { s.reserved with verdict := s.reserved.verdict - 1 }
        notices := s.notices ++
          if s.profile.quietPass = true ∧ (v.kind = .pass ∨ v.kind = .continuityOnly) then [] else [.verdict c v]
        looks := ls } := by
  by_cases hw : s.profile.withholds v.kind = true
  · obtain ⟨ls, hls⟩ := State.returnReservation_eq s .verdict
    refine ⟨ls, ?_⟩
    rw [if_pos hw, hls, if_pos ((Profile.withholds_iff _ _).mp hw), List.append_nil]
    rfl
  · refine ⟨s.looks, ?_⟩
    rw [if_neg hw, if_neg (fun hq => hw ((Profile.withholds_iff _ _).mpr hq)),
      State.queueReserved_reserved s .verdict _ (show s.reserved.verdict ≠ 0 by omega)]
    rfl

/-- The record of a tag that a verdict is counted in (R42). -/
def Closure.counted (r : Closure) (kind : VerdictKind) (spanEvent : Bool) : Closure :=
  { r with
    counts := r.counts.bump kind, spanEvents := r.spanEvents + (if spanEvent then 1 else 0)
    outstanding := r.outstanding - 1 }

/-- A verdict is counted in its record, which is summarised and discarded with the last one outstanding. -/
theorem State.countVerdict_some {t : Nat} {r : Closure} (kind : VerdictKind) (spanEvent : Bool)
    (hr : s.closures.find? (fun c => c.windowId == t) = some r) (hsummary : 1 ≤ s.reserved.summary) :
    s.countVerdict (some t) kind spanEvent =
      if 1 < r.outstanding then
        { s with closures := s.closures.map fun c => if c.windowId = t then r.counted kind spanEvent else c }
      else
        { s with
          closures := s.closures.filter fun c => c.windowId != t
          reserved := { s.reserved with summary := s.reserved.summary - 1 }
          notices := s.notices ++ [.windowSummary (r.counted kind spanEvent) false] } := by
  show s.updateClosure t _ = _
  by_cases h : 1 < r.outstanding
  · rw [if_pos h]
    exact State.updateClosure_stays hr h
  · rw [if_neg h]
    exact State.updateClosure_ends hr (by omega) hsummary

/-! ## The arbiter after a verdict -/

/-- An entry whose lane is not served is passed over. -/
theorem State.offerEntry_unserved {looks done : List LaneId} {e : QueueEntry}
    (h : ∀ j ∈ looks, s.laneOf e.circuit = some j → s.served j = false) :
    State.offerEntry looks (s, done) e = (s, done) := by
  unfold State.offerEntry
  dsimp only
  split
  · next j channel hj _ =>
    by_cases hlook : j ∈ looks
    · simp [h j hlook hj]
    · simp [hlook]
  · rfl

theorem State.foldl_offerEntry_unserved {looks done : List LaneId} {q : List QueueEntry}
    (h : ∀ e ∈ q, ∀ j ∈ looks, s.laneOf e.circuit = some j → s.served j = false) :
    q.foldl (State.offerEntry looks) (s, done) = (s, done) := by
  induction q with
  | nil => rfl
  | cons e q ih =>
    rw [List.foldl_cons, State.offerEntry_unserved (h e (by simp))]
    exact ih fun x hx => h x (by simp [hx])

/-- The one lane that is TUNED at the end of its work parks. -/
theorem State.parkIdle_one (hl : (s.lane l).tunedAtEnd = true) (hother : ∀ j, j ≠ l → (s.lane j).tunedAtEnd = false) :
    s.parkIdle = s.setLane l (s.lane l).park := by
  have hparked : ∀ j, ((s.setLane l (s.lane l).park).lane j).tunedAtEnd = false := by
    intro j
    by_cases hj : j = l
    · rw [hj, State.lane_setLane_self]
      rfl
    · rw [State.lane_setLane_other s hj]
      exact hother j hj
  have hfold : ∀ ls : List LaneId, l ∈ ls → ls.foldl State.parkIfIdle s = s.setLane l (s.lane l).park := by
    intro ls
    induction ls with
    | nil => exact fun h => absurd h (by simp)
    | cons j ls ih =>
      intro hmem
      rw [List.foldl_cons]
      by_cases hj : j = l
      · have hpark : s.parkIfIdle j = s.setLane l (s.lane l).park := by
          rw [hj, State.parkIfIdle, if_pos hl]
          rfl
        rw [hpark]
        exact State.parkIfIdle_none ls _ hparked
      · have hkeep : s.parkIfIdle j = s := by rw [State.parkIfIdle, hother j hj, if_neg (by simp)]
        rw [hkeep]
        exact ih ((List.mem_cons.mp hmem).resolve_left (Ne.symm hj))
  exact hfold allLanes (List.mem_finRange l)

/-- With no campaign RUNNING no capture is offered. -/
theorem State.offerCaptures_idle (h : s.campaign.state ≠ .running) : s.offerCaptures = s :=
  State.offerCaptures_none fun j _ => State.offerCapture_idle j h

/-- A lane at the end of its work that is offered nothing parks. -/
theorem State.arbitrate_parks (hq : s.offerQueue = s) (hc : s.campaign.state ≠ .running)
    (hl : (s.lane l).tunedAtEnd = true) (hother : ∀ j, j ≠ l → (s.lane j).tunedAtEnd = false) :
    s.arbitrate = { s.setLane l (s.lane l).park with looks := [] } := by
  rw [State.arbitrate, hq, State.offerCaptures_idle hc, State.parkIdle_one hl hother]

/-- The oldest entry for a FAULTED lane is dispatched (R58). -/
theorem State.offerEntry_faulted {looks done : List LaneId} {e : QueueEntry} {d : Definition}
    (hd : (s.circuit e.circuit).definition = some d) (hlook : d.lane ∈ looks) (hdone : d.lane ∉ done)
    (hserved : s.served d.lane = true) (hfree : s.hasFree = true) (hfaulted : (s.lane d.lane).state = .faulted) :
    State.offerEntry looks (s, done) e = (s.dispatchFaulted d.lane e, done) := by
  unfold State.offerEntry
  have hlane : s.laneOf e.circuit = some d.lane := State.laneOf_of_definition hd
  have hchannel : s.channelOf e.circuit = some d.channel := by rw [State.channelOf, hd]; rfl
  simp only [hlane, hchannel]
  simp [hlook, hdone, hserved, hfree, hfaulted]

/-- A dispatch on a FAULTED lane without a tag, where no campaign is in progress (R115). -/
theorem State.dispatchFaulted_eq {e : QueueEntry} (h : s.campaign.state = .idle) (htag : e.tag = none) :
    s.dispatchFaulted l e =
      { s.judged e.circuit (s.unmeasurableOf e l) with
        queue := s.queue.filter fun x => x.circuit != e.circuit
        notices := s.notices ++ [.verdict e.circuit (s.unmeasurableOf e l)] } := by
  let t : State := (s.reserve .verdict).dropEntry e.circuit
  have hv : t.unmeasurableOf e l = s.unmeasurableOf e l := rfl
  have hclosure : (s.unmeasurableOf e l).closureId = none := htag
  have hconclude : s.dispatchFaulted l e = t.concludeVerdict e.circuit (s.unmeasurableOf e l) := rfl
  rw [hconclude, State.concludeVerdict_eq (s := t) h, hclosure, State.countVerdict_none]
  have hwithheld : (t.judged e.circuit (s.unmeasurableOf e l)).profile.withholds (s.unmeasurableOf e l).kind = false := by
    rw [Bool.eq_false_iff]
    exact fun hw => absurd ((Profile.withholds_iff _ _).mp hw).2 (by simp [State.unmeasurableOf])
  have hone : (t.judged e.circuit (s.unmeasurableOf e l)).reserved.count .verdict = s.reserved.verdict + 1 := rfl
  rw [hwithheld, if_neg (by simp), State.queueReserved_reserved _ .verdict _ (by rw [hone]; omega), hone]
  rfl

end

end Sys2Proof.Machine


/-! # What the end of a park leads to (4.4, 3.3, 4.7, 7.4) -/

namespace Sys2Proof.Machine

section
variable {s t u : State} {l : LaneId} {f : State → State} {r : Lane}

/-- An event of a calm part with a busy transmitter ends with what the arbiter leaves. -/
theorem State.whenAlive_arbitrated_busy (h : s.calm = true) (hf : f s = t) (harb : t.arbitrate = u)
    (hrequests : u.requestQueue = s.requestQueue) (hsend : u.transmitter ≠ .idle) : s.whenAlive f = u := by
  obtain ⟨-, -, -, hq, -⟩ := s.calm_iff.mp h
  rw [s.whenAlive_calm h, hf, State.settle, harb, State.takeRequests_none u (hrequests.trans hq),
    State.transmit_quiet u (.inl hsend)]

/-! ## A FAULTED lane with one entry -/

/-- A lane that becomes FAULTED with one entry waiting for it dispatches the entry. -/
theorem State.whenAlive_dispatched {err : LaneError} {e : QueueEntry} {before after : List QueueEntry} {d : Definition}
    (h : s.calm = true) (hpending : s.pendingProfile = none)
    (hf : f s = ((s.setLane d.lane r).reportFault d.lane).laneSettled d.lane) (hr : r.state = .faulted)
    (herr : r.lastError = some err) (hq : s.queue = before ++ e :: after)
    (hothers : ∀ x ∈ before ++ after, (s.circuit x.circuit).definition.map (·.lane) ≠ some d.lane)
    (hother : ∀ x ∈ before ++ after, x.circuit ≠ e.circuit) (hd : (s.circuit e.circuit).definition = some d)
    (htag : e.tag = none) (hidle : s.campaign.state = .idle) (hsend : s.transmitter ≠ .idle) (hfree : s.occupied < 31) :
    s.whenAlive f =
      { (s.judged e.circuit (s.unmeasurableOf e d.lane)).setLane d.lane r with
        queue := before ++ after
        notices := s.notices ++
          [.laneFault d.lane err.kind err.circuit s.clock, .verdict e.circuit (s.unmeasurableOf e d.lane)] } := by
  obtain ⟨-, -, -, hreq, -, -, -, hrest, -⟩ := s.calm_iff.mp h
  have hlooks := State.looks_of_atRest hrest
  let n : Notice := .laneFault d.lane err.kind err.circuit s.clock
  let t : State := { s.setLane d.lane r with looks := [d.lane], notices := s.notices ++ [n] }
  have hqueued : State.queueUnreserved { s.setLane d.lane r with looks := [d.lane] } n = t :=
    if_pos (s.hasFree_iff.mpr (by omega))
  have hlane : t.lane d.lane = r := State.lane_setLane_self s d.lane r
  have hserved : t.served d.lane = true := State.served_settled hpending (.inl (by rw [hlane, hr]))
  have htfree : t.hasFree = true := by
    refine t.hasFree_iff.mpr ?_
    have : t.occupied = s.occupied + 1 := by
      show s.reserved.total + (s.notices ++ [n]).length + s.transmitter.sendingCount = _
      rw [List.length_append]
      simp [State.occupied]
      omega
    omega
  let u : State := t.dispatchFaulted d.lane e
  have hu : u = { t.judged e.circuit (s.unmeasurableOf e d.lane) with
      queue := t.queue.filter fun x => x.circuit != e.circuit
      notices := t.notices ++ [.verdict e.circuit (s.unmeasurableOf e d.lane)] } :=
    State.dispatchFaulted_eq (s := t) hidle htag
  have hulane : ∀ j, u.lane j = t.lane j := fun j => by rw [hu]; rfl
  have hulaneOf : ∀ c, u.laneOf c = s.laneOf c := fun c => by
    rw [hu]
    exact State.laneOf_setCircuit (s := s) e.circuit
      { s.circuit e.circuit with lastVerdict := some (s.unmeasurableOf e d.lane), state := .idle } rfl c
  have hoffer : t.offerQueue = u := by
    have htq : t.queue = before ++ e :: after := hq
    have hbefore : before.foldl (State.offerEntry t.looks) (t, []) = (t, []) :=
      State.foldl_offerEntry_passed fun x hx j hj => by
        rw [List.mem_singleton.mp hj]
        exact hothers x (by simp [hx])
    have hafter : after.foldl (State.offerEntry t.looks) (u, []) = (u, []) :=
      State.foldl_offerEntry_passed fun x hx j hj => by
        rw [List.mem_singleton.mp hj, hulaneOf]
        exact hothers x (by simp [hx])
    have he : State.offerEntry t.looks (t, []) e = (u, []) :=
      State.offerEntry_faulted (s := t) hd (by simp [t]) (by simp) hserved htfree (by rw [hlane, hr])
    rw [State.offerQueue, htq, List.foldl_append, hbefore, List.foldl_cons, he, hafter]
  have hidleu : u.campaign.state ≠ .running := by
    rw [hu]
    show s.campaign.state ≠ .running
    rw [hidle]
    nofun
  have hlanes : ∀ j, (u.lane j).tunedAtEnd = false := fun j => by
    rw [hulane]
    exact State.tunedAtEnd_setLane h (Lane.tunedAtEnd_of_state (by rw [hr]; nofun)) j
  have harb : t.arbitrate = { u with looks := [] } := by
    rw [State.arbitrate, hoffer, State.offerCaptures_idle hidleu]
    exact congrArg (fun v : State => { v with looks := [] }) (State.parkIfIdle_none _ u hlanes)
  have hdrop : t.queue.filter (fun x => x.circuit != e.circuit) = before ++ after := by
    have hq' : t.queue = before ++ e :: after := hq
    rw [hq', filter_dropped hother]
  have hend := State.whenAlive_arbitrated_busy h ((State.faulted_eq h hpending hf hr herr).trans hqueued) harb
    (by rw [hu]; rfl) (by rw [hu]; exact hsend)
  rw [hend, hu, hdrop, ← hlooks]
  have hnotices : t.notices ++ [.verdict e.circuit (s.unmeasurableOf e d.lane)] =
      s.notices ++ [n, .verdict e.circuit (s.unmeasurableOf e d.lane)] := List.append_assoc ..
  rw [hnotices]
  rfl

/-! ## A pending profile applied -/

/-- The last lane that settles has the pending profile applied, and the PARKED lanes that are due under it start their
runs. -/
theorem State.whenAlive_applied {p : Profile} (h : s.calm = true) (hpending : s.pendingProfile = some p)
    (hf : f s = ((s.setLane l r).reportFault l).laneSettled l) (hr : r.state = .parked)
    (hsettled : ∀ j, j ≠ l → (s.lane j).state = .parked ∨ (s.lane j).state = .faulted) (hq : s.queue = [])
    (hc : s.campaign.state ≠ .running) (hsend : s.transmitter ≠ .idle) (hreserved : 1 ≤ s.reserved.profileApplied) :
    s.whenAlive f =
      { s with
        profile := p
        pendingProfile := none
        lanes := (s.setLane l r).lanes.map (Lane.startedIfDue p)
        reserved := { s.reserved with profileApplied := s.reserved.profileApplied - 1 }
        notices := s.notices ++ [.profileApplied p] } := by
  obtain ⟨-, -, -, -, -, -, -, hrest, -⟩ := s.calm_iff.mp h
  have hlooks := State.looks_of_atRest hrest
  let parked : State := s.setLane l r
  have hlane : parked.lane l = r := State.lane_setLane_self s l r
  have hall : parked.lanesSettled = true := (State.lanesSettled_iff _).mpr fun j => by
    by_cases hj : j = l
    · rw [hj, hlane]
      exact .inl hr
    · have hj' : parked.lane j = s.lane j := State.lane_setLane_other s hj r
      rw [hj']
      exact hsettled j hj
  let told : State := { parked with
    profile := p, pendingProfile := none, notices := s.notices ++ [.profileApplied p]
    reserved := { s.reserved with profileApplied := s.reserved.profileApplied - 1 } }
  let started : State := { told with lanes := parked.lanes.map (Lane.startedIfDue p) }
  have hqueued : State.queueReserved { parked with profile := p, pendingProfile := none } .profileApplied
      (.profileApplied p) = told :=
    State.queueReserved_reserved _ .profileApplied _ (show s.reserved.profileApplied ≠ 0 by omega)
  have hstarted : allLanes.foldl State.startRunIfDue told = started := State.startRuns_eq (s := told) rfl
  obtain ⟨ls, hls⟩ := State.lookAtAll_eq started
  obtain ⟨ls', hls'⟩ := State.lookAt_eq { started with looks := ls } l
  have happly : parked.applyPending p = { started with looks := ls } := by
    unfold State.applyPending
    dsimp only
    rw [hqueued, hstarted, hls]
  have hset : f s = { started with looks := ls' } := by
    rw [hf, State.reportFault_parked (by rw [hlane, hr]; nofun)]
    have hpend : parked.pendingProfile = some p := hpending
    unfold State.laneSettled
    rw [hpend]
    dsimp only
    rw [hall, if_pos rfl, happly, hls']
  have hlanes : ∀ j, (started.lane j).tunedAtEnd = false := fun j => by
    have hj : started.lane j = (parked.lane j).startedIfDue p := by simp [State.lane, started]
    rw [hj]
    exact Lane.startedIfDue_tunedAtEnd (State.tunedAtEnd_setLane h (Lane.tunedAtEnd_of_state (by rw [hr]; nofun)) j)
  have hwork : State.NoWork { started with looks := ls' } := State.noWork_of_idle hq hc hlanes
  refine (State.whenAlive_arbitrated_busy h hset hwork.arbitrate rfl hsend).trans ?_
  rw [← hlooks]
  rfl

/-! ## The campaign's entries for a settled lane -/

/-- The lane of a settled part that has nothing queued asks the campaign. -/
theorem State.asks (hpending : t.pendingProfile = none) (hq : ∀ e ∈ t.queue, t.laneOf e.circuit ≠ some l)
    (hlane : t.lane l = r) (hr : r.state = .faulted ∨ (r.state = .parked ∧ r.due t.profile = false)) :
    t.served l = true ∧ t.hasEntry l = false :=
  ⟨State.served_settled hpending (by rwa [hlane]), State.hasEntry_eq_false hq⟩

/-- The record of a PARKED lane that begins a capture (R128). -/
def Lane.capturing (r : Lane) (p : Profile) (c channel : Nat) : Lane :=
  { r with
    state := .tuning, channel := channel, headCommand := .tune channel, burstLength := p.burstLength
    work := .capture c, capture := some ⟨c, p.burstLength, p.captureBursts, p.spreadLimit, []⟩ }

theorem State.grantCapture_parked {c channel : Nat} (hr : (t.lane l).state = .parked) :
    t.grantCapture l c channel =
      { (t.setCircuit c { t.circuit c with state := .capturing }).setLane l ((t.lane l).capturing t.profile c channel) with
        campaign := { t.campaign with
          entries := t.campaign.entries.map fun e => if e.circuit = c then { e with status := .measuring l } else e } } := by
  have hbegin : { (t.lane l).begin channel t.profile.burstLength with
        work := .capture c
        capture := some (CaptureWork.mk c t.profile.burstLength t.profile.captureBursts t.profile.spreadLimit []) } =
      (t.lane l).capturing t.profile c channel := by
    simp [Lane.begin, hr, Lane.capturing]
  rw [← hbegin]
  rfl

/-- A lane that has parked is given the earliest entry that it reaches. -/
theorem State.whenAlive_captured {before after : List Nat} {c : Nat} {d : Definition} (h : s.calm = true)
    (hpending : s.pendingProfile = none) (hf : f s = ((s.setLane l r).reportFault l).laneSettled l)
    (hr : r.state = .parked) (hdue : r.due s.profile = false) (hfresh : r.fresh = true)
    (hq : ∀ e ∈ s.queue, (s.circuit e.circuit).definition.map (·.lane) ≠ some l)
    (hrunning : s.campaign.state = .running) (hentries : s.campaign.entries.map (·.circuit) = before ++ c :: after)
    (hbefore : ∀ x ∈ before, s.reachable l x = false) (hc : s.reachable l c = true)
    (hd : (s.circuit c).definition = some d) (hregion : s.insideRegion c = false)
    (hcommits : s.campaign.pendingCommits < 8) :
    s.whenAlive f =
      { (s.setCircuit c { s.circuit c with state := .capturing }).setLane l (r.capturing s.profile c d.channel) with
        campaign := { s.campaign with
          entries := s.campaign.entries.map fun e => if e.circuit = c then { e with status := .measuring l } else e } } := by
  obtain ⟨-, -, -, -, -, -, -, hrest, -⟩ := s.calm_iff.mp h
  have hlooks := State.looks_of_atRest hrest
  let t : State := { s.setLane l r with looks := [l] }
  have hlane : t.lane l = r := State.lane_setLane_self s l r
  obtain ⟨hserved, hentry⟩ := State.asks (t := t) hpending hq hlane (.inr ⟨hr, hdue⟩)
  have hask : State.askCapture l (t.campaign.entries.map (·.circuit)) t = (t, some c) := by
    have he : t.campaign.entries.map (·.circuit) = before ++ c :: after := hentries
    rw [he, State.askCapture_passed (s := t) hrunning hbefore]
    exact State.askCapture_offers hrunning hc hregion (by rw [hlane, hr]; nofun) (by rw [hlane]; exact hfresh) hcommits
  have hoffer := State.offerCapture_granted hserved hentry hask hd (by rw [hlane]; simp [Lane.takes, hr])
  rw [State.grantCapture_parked (by rw [hlane, hr]), hlane] at hoffer
  have hset : (t.setCircuit c { t.circuit c with state := .capturing }).setLane l (r.capturing t.profile c d.channel) =
      { (s.setCircuit c { s.circuit c with state := .capturing }).setLane l (r.capturing s.profile c d.channel) with
        looks := [l] } := by
    have hlanes : (s.lanes.set l r).set l (r.capturing s.profile c d.channel) =
        s.lanes.set l (r.capturing s.profile c d.channel) := Vector.set_set ..
    exact congrArg (fun v => ({ s.setCircuit c { s.circuit c with state := .capturing } with
      lanes := v, looks := [l] } : State)) hlanes
  rw [hset] at hoffer
  have harb := State.arbitrate_capture (s := t) rfl hq hoffer
    fun j => State.tunedAtEnd_setLane (l := l) (r := r.capturing s.profile c d.channel) h rfl j
  refine (State.whenAlive_arbitrated h (State.parked_eq h hpending hf hr hdue) harb rfl).trans ?_
  rw [← hlooks]
  rfl

/-- The one entry of a circuit is MEASURING. -/
theorem measuring_entries {entries before after : List CaptureEntry} {c : Nat} (hnd : (entries.map (·.circuit)).Nodup)
    (hentries : entries = before ++ ⟨c, .unprocessed⟩ :: after) :
    (entries.map fun e => if e.circuit = c then { e with status := .measuring l } else e) =
      before ++ ⟨c, .measuring l⟩ :: after := by
  rw [hentries, List.map_append, List.map_cons, List.nodup_append, List.nodup_cons] at hnd
  obtain ⟨-, ⟨hafter, -⟩, hbefore⟩ := hnd
  have hkeep : ∀ es : List CaptureEntry, (∀ x ∈ es, x.circuit ≠ c) →
      (es.map fun e => if e.circuit = c then { e with status := .measuring l } else e) = es := fun es hes => by
    refine (List.map_congr_left fun x hx => if_neg (hes x hx)).trans (List.map_id es)
  rw [hentries, List.map_append, List.map_cons,
    hkeep before fun x hx he => hbefore _ (List.mem_map_of_mem hx) c (by simp) he,
    hkeep after fun x hx he => hafter (List.mem_map.mpr ⟨x, hx, he⟩), if_pos rfl]

/-- A lane that has parked, STALE or with 8 commits pending, leaves the entries that it reaches waiting. -/
theorem State.whenAlive_waiting (h : s.calm = true)
    (hpending : s.pendingProfile = none) (hf : f s = ((s.setLane l r).reportFault l).laneSettled l)
    (hr : r.state = .parked) (hdue : r.due s.profile = false)
    (hq : ∀ e ∈ s.queue, (s.circuit e.circuit).definition.map (·.lane) ≠ some l)
    (hrunning : s.campaign.state = .running) (hwait : r.fresh = false ∨ 8 ≤ s.campaign.pendingCommits)
    (hregion : ∀ c ∈ s.campaign.entries.map (·.circuit), s.reachable l c = true → s.insideRegion c = false) :
    s.whenAlive f = s.setLane l r := by
  obtain ⟨-, -, -, -, -, -, -, hrest, -⟩ := s.calm_iff.mp h
  have hlooks := State.looks_of_atRest hrest
  let t : State := { s.setLane l r with looks := [l] }
  have hlane : t.lane l = r := State.lane_setLane_self s l r
  obtain ⟨hserved, hentry⟩ := State.asks (t := t) hpending hq hlane (.inr ⟨hr, hdue⟩)
  have hask := State.askCapture_waits (s := t) hrunning hregion (by rw [hlane, hr]; nofun) (by rwa [hlane])
  have harb := State.arbitrate_capture (s := t) rfl hq (State.offerCapture_none hserved hentry hask)
    fun j => State.tunedAtEnd_setLane (l := l) (r := r) h (Lane.tunedAtEnd_of_state (by rw [hr]; nofun)) j
  refine (State.whenAlive_arbitrated h (State.parked_eq h hpending hf hr hdue) harb rfl).trans ?_
  exact State.forget_looks (s := s.setLane l r) hlooks

/-- What each reached entry ends with: PROTECTED inside the region, and LANE_FAULT on a FAULTED lane outside it. -/
def State.reachedResult (s : State) (c : Nat) : CaptureResult := if s.insideRegion c then .insideRegion else .laneFault

/-- The capture work of a lane whose entries all end where they are reached. -/
theorem State.offerCapture_concludes (hpending : t.pendingProfile = none)
    (hq : ∀ e ∈ t.queue, t.laneOf e.circuit ≠ some l) (hlane : t.lane l = r)
    (hr : r.state = .faulted ∨ (r.state = .parked ∧ r.due t.profile = false))
    (hrunning : t.campaign.state = .running) (hnd : (t.campaign.entries.map (·.circuit)).Nodup)
    (hreasons : t.campaign.host = false ∧ t.campaign.window = false) (hdeferred : t.campaign.deferredSuspend = false)
    (hgoes : ∃ x ∈ t.campaign.entries, t.reachable l x.circuit = false ∧ x.status.isFinished = false)
    (hends : ∀ c ∈ t.campaign.entries.map (·.circuit), t.reachable l c = true →
      t.insideRegion c = true ∨ r.state = .faulted) :
    t.offerCapture l = t.concluded l t.reachedResult (t.campaign.entries.map (·.circuit)) := by
  obtain ⟨hserved, hentry⟩ := State.asks hpending hq hlane hr
  refine State.offerCapture_none hserved hentry ?_
  have hask := State.askCapture_concludes (s := t) (l := l) (result := t.reachedResult) (done := [])
    (cs := t.campaign.entries.map (·.circuit)) (by rwa [List.nil_append]) hrunning hdeferred hreasons hgoes fun c hc hreach => by
      unfold State.reachedResult
      rw [hlane]
      cases hin : t.insideRegion c with
      | true => exact .inl ⟨rfl, rfl⟩
      | false =>
        refine .inr ⟨rfl, (hends c hc hreach).resolve_left (by simp [hin]), rfl⟩
  rwa [State.concluded_nil, List.nil_append] at hask

/-- The campaign after every entry that the lane reaches has ended, by the entries themselves. -/
theorem State.concluded_all {result : Nat → CaptureResult} {waits : CaptureEntry → Bool}
    {ended : CaptureEntry → CaptureResult} (hreach : ∀ x ∈ s.campaign.entries, s.reachable l x.circuit = waits x)
    (hsome : ∃ x ∈ s.campaign.entries, waits x = true)
    (hresult : ∀ x ∈ s.campaign.entries, waits x = true → result x.circuit = ended x) :
    s.concluded l result (s.campaign.entries.map (·.circuit)) =
      { s with campaign := { s.campaign with
          progressOwed := false
          entries := s.campaign.entries.map fun x =>
            if waits x then { x with status := .finished (ended x) } else x } } := by
  refine (State.concluded_campaign ?_ (List.map_congr_left fun x hx => ?_)).symm
  · obtain ⟨x, hx, hw⟩ := hsome
    have hany : (s.campaign.entries.map (·.circuit)).any (s.reachable l) = true :=
      List.any_eq_true.mpr ⟨x.circuit, List.mem_map_of_mem hx, by rw [hreach x hx, hw]⟩
    simp [hany]
  · rw [hreach x hx]
    by_cases hw : waits x = true
    · rw [if_pos hw, if_pos ⟨List.mem_map_of_mem hx, hw⟩, hresult x hx hw]
    · rw [if_neg hw, if_neg fun hc => hw hc.2]

/-- A lane that has parked ends the entries that it reaches, all inside the region, while others go on. -/
theorem State.whenAlive_protected {waits : CaptureEntry → Bool} (h : s.calm = true) (hpending : s.pendingProfile = none)
    (hf : f s = ((s.setLane l r).reportFault l).laneSettled l) (hr : r.state = .parked) (hdue : r.due s.profile = false)
    (hq : ∀ e ∈ s.queue, (s.circuit e.circuit).definition.map (·.lane) ≠ some l)
    (hrunning : s.campaign.state = .running) (hnd : (s.campaign.entries.map (·.circuit)).Nodup)
    (hreasons : s.campaign.host = false ∧ s.campaign.window = false) (hdeferred : s.campaign.deferredSuspend = false)
    (hreach : ∀ x ∈ s.campaign.entries, s.reachable l x.circuit = waits x)
    (hopen : ∃ x ∈ s.campaign.entries, waits x = false ∧ x.status.isFinished = false)
    (hsome : ∃ x ∈ s.campaign.entries, waits x = true)
    (hinside : ∀ x ∈ s.campaign.entries, waits x = true → s.insideRegion x.circuit = true) :
    s.whenAlive f =
      { s.setLane l r with
        campaign := { s.campaign with
          progressOwed := false
          entries := s.campaign.entries.map fun x =>
            if waits x then { x with status := .finished .insideRegion } else x } } := by
  obtain ⟨-, -, -, -, -, -, -, hrest, -⟩ := s.calm_iff.mp h
  have hlooks := State.looks_of_atRest hrest
  let t : State := { s.setLane l r with looks := [l] }
  have hlane : t.lane l = r := State.lane_setLane_self s l r
  have hoffer := State.offerCapture_concludes (t := t) hpending hq hlane (.inr ⟨hr, hdue⟩) hrunning hnd hreasons hdeferred
    (by obtain ⟨x, hx, hw, hfin⟩ := hopen; exact ⟨x, hx, (hreach x hx).trans hw, hfin⟩)
    (fun c hc hreached => by
      obtain ⟨x, hx, rfl⟩ := List.mem_map.mp hc
      exact .inl (hinside x hx ((hreach x hx).symm.trans hreached)))
  rw [State.concluded_all (s := t) (ended := fun _ => .insideRegion) hreach hsome
    fun x hx hw => if_pos (hinside x hx hw)] at hoffer
  have harb := State.arbitrate_capture (s := t) rfl hq hoffer
    fun j => State.tunedAtEnd_setLane (l := l) (r := r) h (Lane.tunedAtEnd_of_state (by rw [hr]; nofun)) j
  refine (State.whenAlive_arbitrated h (State.parked_eq h hpending hf hr hdue) harb rfl).trans ?_
  rw [← hlooks]
  rfl

theorem State.queueUnreserved_eq (n : Notice) :
    ∃ ns discarded, t.queueUnreserved n = { t with notices := ns, discarded := discarded } := by
  unfold State.queueUnreserved
  split
  · exact ⟨_, t.discarded, rfl⟩
  · exact ⟨t.notices, _, rfl⟩

theorem State.queueUnreserved_setCampaign (n : Notice) (c : Campaign) :
    { t.queueUnreserved n with campaign := c } = State.queueUnreserved { t with campaign := c } n := by
  have hfree : State.hasFree { t with campaign := c } = t.hasFree := rfl
  unfold State.queueUnreserved
  rw [hfree]
  split <;> rfl

/-- A lane that has become FAULTED ends every entry that it reaches, while others go on. -/
theorem State.whenAlive_faulted_entries {waits : CaptureEntry → Bool} {err : LaneError} (h : s.calm = true)
    (hpending : s.pendingProfile = none) (hf : f s = ((s.setLane l r).reportFault l).laneSettled l)
    (hr : r.state = .faulted) (herr : r.lastError = some err)
    (hq : ∀ e ∈ s.queue, (s.circuit e.circuit).definition.map (·.lane) ≠ some l)
    (hrunning : s.campaign.state = .running) (hnd : (s.campaign.entries.map (·.circuit)).Nodup)
    (hreasons : s.campaign.host = false ∧ s.campaign.window = false) (hdeferred : s.campaign.deferredSuspend = false)
    (hreach : ∀ x ∈ s.campaign.entries, s.reachable l x.circuit = waits x)
    (hopen : ∃ x ∈ s.campaign.entries, waits x = false ∧ x.status.isFinished = false)
    (hsome : ∃ x ∈ s.campaign.entries, waits x = true) :
    s.whenAlive f =
      State.noticed
        { s.setLane l r with
          campaign := { s.campaign with
            progressOwed := false
            entries := s.campaign.entries.map fun x =>
              if waits x then { x with status := .finished (s.reachedResult x.circuit) } else x } }
        (.laneFault l err.kind err.circuit s.clock) := by
  obtain ⟨-, -, -, -, -, -, -, hrest, -⟩ := s.calm_iff.mp h
  have hlooks := State.looks_of_atRest hrest
  let n : Notice := .laneFault l err.kind err.circuit s.clock
  let base : State := { s.setLane l r with looks := [l] }
  let ended : Campaign := { s.campaign with
    progressOwed := false
    entries := s.campaign.entries.map fun x =>
      if waits x then { x with status := .finished (s.reachedResult x.circuit) } else x }
  have hset := State.faulted_eq h hpending hf hr herr
  have harb : (base.queueUnreserved n).arbitrate =
      State.queueUnreserved { s.setLane l r with campaign := ended, looks := [] } n := by
    have hcomm : { base.queueUnreserved n with campaign := ended } =
        State.queueUnreserved { base with campaign := ended } n := State.queueUnreserved_setCampaign n ended
    have hforget := State.queueUnreserved_looks { base with campaign := ended } n []
    obtain ⟨ns, discarded, hns⟩ := State.queueUnreserved_eq (t := base) n
    rw [hns] at hcomm ⊢
    let t : State := { base with notices := ns, discarded := discarded }
    have hlane : t.lane l = r := State.lane_setLane_self s l r
    have hoffer := State.offerCapture_concludes (t := t) hpending hq hlane (.inl hr) hrunning hnd hreasons hdeferred
      (by obtain ⟨x, hx, hw, hfin⟩ := hopen; exact ⟨x, hx, (hreach x hx).trans hw, hfin⟩) fun _ _ _ => .inr hr
    rw [State.concluded_all (s := t) (result := t.reachedResult) (ended := fun x => s.reachedResult x.circuit) hreach hsome fun _ _ _ => rfl]
      at hoffer
    have harb := State.arbitrate_capture (s := t) rfl hq hoffer
      fun j => State.tunedAtEnd_setLane (l := l) (r := r) h (Lane.tunedAtEnd_of_state (by rw [hr]; nofun)) j
    refine harb.trans (Eq.trans ?_ hforget)
    exact congrArg (fun v : State => { v with looks := [] }) hcomm
  refine (State.whenAlive_arbitrated_noticed h hset harb rfl rfl rfl).trans ?_
  rw [← hlooks]
  rfl

end

end Sys2Proof.Machine

namespace Sys2Proof.Proofs
open Sys2Proof.Machine

/-- Settles O41, by what the lane finds once it has settled: its own reference run, a queue entry, a pending profile, or the
campaign's entries. -/
theorem parkEnds : Obligations.ParkEnds := by
  refine ⟨?_, ?_, ?_, ?_, ?_, ?_, ?_, ?_, ?_, ?_, ?_⟩
  · intro s l h hp hc
    exact congrArg Host.Outcome.next (State.whenAlive_same h (State.parkEnd_other hp hc))
  · intro s l h hstate hpending herrors hdue hq hc
    have hend := State.parkEnd_parking hstate
    rw [Lane.endPark_parked herrors] at hend
    exact congrArg Host.Outcome.next
      (State.whenAlive_parked h hpending hend rfl ((Lane.due_eq_false_iff _ _).mpr hdue) hq hc)
  · intro s l h hstate hpending herrors hdue
    have hend := State.parkEnd_parking hstate
    rw [Lane.endPark_parked herrors] at hend
    exact congrArg Host.Outcome.next (State.whenAlive_due (r := { s.lane l with state := .parked }) h hpending hend rfl (by simpa [Lane.due] using hdue))
  · intro s l err h hstate hpending herrors herr hq hc
    have hend := State.parkEnd_parking hstate
    rw [Lane.endPark_faulted herrors] at hend
    exact congrArg Host.Outcome.next (State.whenAlive_faulted h hpending hend rfl herr hq hc)
  · intro s l e before after d h hstate hpending herrors hdue hq hbefore hother hd hl hfree
    subst hl
    have hend := State.parkEnd_parking hstate
    rw [Lane.endPark_parked herrors] at hend
    exact congrArg Host.Outcome.next (State.whenAlive_granted (r := { s.lane d.lane with state := .parked }) h hpending hend rfl ((Lane.due_eq_false_iff _ _).mpr hdue)
      hq hbefore hother hd hfree)
  · intro s l err e before after d v h hstate hpending herrors herr hq hothers hother hd hl htag hidle hsend hfree
    subst hl
    have hend := State.parkEnd_parking hstate
    rw [Lane.endPark_faulted herrors] at hend
    have hv : s.unmeasurableOf e d.lane = v := by
      unfold State.unmeasurableOf
      rw [htag]
    have hdone := State.whenAlive_dispatched (f := fun s => s.parkEnd d.lane) (r := { s.lane d.lane with state := .faulted }) h hpending hend rfl herr hq hothers hother hd htag hidle hsend hfree
    rw [hv] at hdone
    exact congrArg Host.Outcome.next hdone
  · intro s l p h hstate hpending herrors hsettled hq hc hsend hreserved
    have hend := State.parkEnd_parking hstate
    rw [Lane.endPark_parked herrors] at hend
    exact congrArg Host.Outcome.next (State.whenAlive_applied h hpending hend rfl hsettled hq hc hsend hreserved)
  · intro s l before after c d waits h hstate hpending herrors hdue hq hrunning hnd hfresh hentries hbefore hwaits hd
      hregion hcommits
    have hend := State.parkEnd_parking hstate
    rw [Lane.endPark_parked herrors] at hend
    have hreach : ∀ x ∈ s.campaign.entries, s.reachable l x.circuit = waits x := fun x hx =>
      State.reachable_entry hrunning hnd hx
    have hmem : ⟨c, .unprocessed⟩ ∈ s.campaign.entries := by simp [hentries]
    have hgranted := State.whenAlive_captured (f := fun s => s.parkEnd l) (before := before.map (·.circuit))
      (after := after.map (·.circuit)) (c := c) h hpending hend rfl ((Lane.due_eq_false_iff _ _).mpr hdue) hfresh hq
      hrunning (by simp [hentries])
      (fun n hn => by
        obtain ⟨x, hx, rfl⟩ := List.mem_map.mp hn
        rw [hreach x (by simp [hentries, hx]), hbefore x hx])
      ((hreach _ hmem).trans hwaits) hd hregion hcommits
    rw [measuring_entries hnd hentries] at hgranted
    exact congrArg Host.Outcome.next hgranted
  · intro s l waits h hstate hpending herrors hdue hq hrunning hnd hreasons hopen hsome hinside
    have hend := State.parkEnd_parking hstate
    rw [Lane.endPark_parked herrors] at hend
    obtain ⟨hhost, hwindow, hdeferred⟩ := hreasons
    exact congrArg Host.Outcome.next (State.whenAlive_protected h hpending hend rfl ((Lane.due_eq_false_iff _ _).mpr hdue)
      hq hrunning hnd ⟨hhost, hwindow⟩ hdeferred (fun x hx => State.reachable_entry hrunning hnd hx) hopen hsome hinside)
  · intro s l err waits h hstate hpending herrors herr hq hrunning hnd hreasons hopen hsome
    have hend := State.parkEnd_parking hstate
    rw [Lane.endPark_faulted herrors] at hend
    obtain ⟨hhost, hwindow, hdeferred⟩ := hreasons
    exact congrArg Host.Outcome.next (State.whenAlive_faulted_entries h hpending hend rfl herr
      hq hrunning hnd ⟨hhost, hwindow⟩ hdeferred (fun x hx => State.reachable_entry hrunning hnd hx) hopen hsome)
  · intro s l waits h hstate hpending herrors hdue hq hrunning hwait hregion hnd
    have hend := State.parkEnd_parking hstate
    rw [Lane.endPark_parked herrors] at hend
    refine congrArg Host.Outcome.next (State.whenAlive_waiting h hpending hend rfl ((Lane.due_eq_false_iff _ _).mpr hdue)
      hq hrunning hwait fun c hc hreach => ?_)
    obtain ⟨x, hx, rfl⟩ := List.mem_map.mp hc
    exact hregion x hx ((State.reachable_entry hrunning hnd hx).symm.trans hreach)

end Sys2Proof.Proofs


/-! # The last attempt of a grant (6.5) -/

namespace Sys2Proof.Machine

section
variable {s t : State} {l : LaneId} {g : Grant}

/-! ## The verdict record -/

theorem AttemptClass.ends_iff (c : AttemptClass) : c.ends = true ↔ c = .pass ∨ c = .continuityOnly := by
  cases c <;> simp [AttemptClass.ends]

/-- The last attempt ends the grant (R62). -/
theorem State.takeAttempt_ends {d : Definition} {b : HandedBurst}
    (h : (classify s.profile d (s.circuit g.entry.circuit).baseline b).cls = .pass ∨
      (classify s.profile d (s.circuit g.entry.circuit).baseline b).cls = .continuityOnly ∨
      g.retries ≤ g.attempts.length) :
    s.takeAttempt l g d b = s.endGrant l g g.attempts (classify s.profile d (s.circuit g.entry.circuit).baseline b) := by
  unfold State.takeAttempt
  dsimp only
  rw [if_pos]
  rcases h with h | h | h
  · exact .inl ((AttemptClass.ends_iff _).mpr (.inl h))
  · exact .inl ((AttemptClass.ends_iff _).mpr (.inr h))
  · exact .inr h

/-- The verdict record, its qualifiers and classes by the earlier attempts and the last (R111 to R114). -/
theorem State.verdictOf_eq (s : State) (e : QueueEntry) (l : LaneId) (earlier : List Attempt) (a : Attempt) :
    s.verdictOf e l earlier a =
      { kind := combine (earlier.map (·.cls)) a.cls
        qualifiers :=
          { clipped := earlier.any (·.clipped) || a.clipped
            degraded := earlier.any (·.stale) || a.stale
            expiredWindow := e.expired
            spanEvent := e.spanEvent
            laneFault := false }
        cause := e.cause
        closureId := e.tag
        classes := earlier.map (·.cls) ++ [a.cls]
        lane := l
        time := s.clock
        level := a.level
        deltaLevel := a.deltaLevel
        delay := a.delay
        deltaDelay := a.deltaDelay
        found := if combine (earlier.map (·.cls)) a.cls = .misrouted then a.found else none
        otherCircuit := (if combine (earlier.map (·.cls)) a.cls = .misrouted then a.found else none).bind s.codeOwner
        generation := (s.circuit e.circuit).baseline.map (·.generation) } := by
  have hclipped : (earlier ++ [a]).any (·.clipped) = (earlier.any (·.clipped) || a.clipped) := by simp
  have hstale : (earlier ++ [a]).any (·.stale) = (earlier.any (·.stale) || a.stale) := by simp
  have hclasses : (earlier ++ [a]).map (·.cls) = earlier.map (·.cls) ++ [a.cls] := by simp
  unfold State.verdictOf qualifiersOf
  rw [hclipped, hstale, hclasses]

/-! ## The end of a grant -/

theorem State.lookAt_mem (s : State) (l : LaneId) : ∃ ls, l ∈ ls ∧ s.lookAt l = { s with looks := ls } := by
  unfold State.lookAt
  by_cases h : s.looks.contains l = true
  · exact ⟨s.looks, by simpa using h, if_pos h⟩
  · exact ⟨s.looks ++ [l], by simp, if_neg h⟩

/-- The verdict notice, or nothing where quiet pass withholds it (R117). -/
def State.verdictNotices (s : State) (c : Nat) (v : Verdict) : List Notice :=
  if s.profile.quietPass = true ∧ (v.kind = .pass ∨ v.kind = .continuityOnly) then [] else [.verdict c v]

/-- The part once the verdict `v` has ended a grant and left lane `l` as `r`, with the closure list `cs`, the reservations
`rv` and the notices `ns` that its counting leaves. -/
def State.verified (s : State) (l : LaneId) (r : Lane) (c : Nat) (v : Verdict) (cs : List Closure) (rv : ReservedCounts)
    (ns : List Notice) : State :=
  { (s.judged c v).setLane l r with
    closures := cs
    reserved := { rv with verdict := rv.verdict - 1 }
    notices := ns ++ s.verdictNotices c v }

/-- A final verdict ends the grant, and its lane is looked at. -/
theorem State.endGrant_eq {earlier : List Attempt} {last : Attempt} {v : Verdict} {cs : List Closure}
    {rv : ReservedCounts} {ns : List Notice} (hv : s.verdictOf g.entry l earlier last = v)
    (hidle : s.campaign.state = .idle)
    (hcount : (s.judged g.entry.circuit v).countVerdict v.closureId v.kind v.qualifiers.spanEvent =
      { s.judged g.entry.circuit v with closures := cs, reserved := rv, notices := ns })
    (hreserved : 1 ≤ rv.verdict) :
    ∃ ls, l ∈ ls ∧ s.endGrant l g earlier last =
      { s.verified l (s.lane l).endWork g.entry.circuit v cs rv ns with looks := ls } := by
  let counted : State := { s.judged g.entry.circuit v with closures := cs, reserved := rv, notices := ns }
  obtain ⟨ls, hls⟩ := State.sent_eq (s := counted) (c := g.entry.circuit) (v := v) hreserved
  have hconclude : s.concludeVerdict g.entry.circuit v =
      { counted with
        reserved := { rv with verdict := rv.verdict - 1 }
        notices := ns ++ s.verdictNotices g.entry.circuit v
        looks := ls } := by
    rw [State.concludeVerdict_eq hidle, hcount]
    exact hls
  have hend : s.endGrant l g earlier last =
      ((s.concludeVerdict g.entry.circuit v).modifyLane l Lane.endWork).lookAt l := by
    rw [← hv]
    rfl
  obtain ⟨ls', hmem, hls'⟩ := State.lookAt_mem
    (State.modifyLane { counted with
        reserved := { rv with verdict := rv.verdict - 1 }
        notices := ns ++ s.verdictNotices g.entry.circuit v
        looks := ls } l Lane.endWork) l
  refine ⟨ls', hmem, ?_⟩
  rw [hend, hconclude, hls']
  rfl

/-! ## The lane after its verdict -/

section
variable {c : Nat} {v : Verdict} {cs : List Closure} {rv : ReservedCounts} {ns : List Notice} {r : Lane}

theorem State.laneOf_judged (x : Nat) : (s.judged c v).laneOf x = s.laneOf x :=
  State.laneOf_setCircuit c { s.circuit c with lastVerdict := some v, state := .idle } rfl x

theorem State.circuit_judged_other {x : Nat} (hx : x ≠ c) : (s.judged c v).circuit x = s.circuit x :=
  State.circuit_setCircuit_other s hx { s.circuit c with lastVerdict := some v, state := .idle }

/-- A burst taken from the lane before makes no difference. -/
theorem State.verified_setLane (r' : Lane) : (s.setLane l r').verified l r c v cs rv ns = s.verified l r c v cs rv ns :=
  congrArg (fun x => ({ s.verified l r c v cs rv ns with lanes := x } : State)) (Vector.set_set (hi := l.isLt) ..)

/-- With nothing queued for the lane it parks after its verdict. -/
theorem State.arbitrate_verified {ls : List LaneId} (hbusy : ∀ j, j ≠ l → (s.lane j).ready = false)
    (hidle : s.campaign.state = .idle) (hq : ∀ e ∈ s.queue, s.laneOf e.circuit ≠ some l) (hr : r.tunedAtEnd = true) :
    State.arbitrate { s.verified l r c v cs rv ns with looks := ls } = { s.verified l r.park c v cs rv ns with looks := [] } := by
  let t : State := { s.verified l r c v cs rv ns with looks := ls }
  have hself : t.lane l = r := State.lane_setLane_self (s.judged c v) l r
  have hother : ∀ j, j ≠ l → t.lane j = s.lane j := fun j hj => State.lane_setLane_other (s.judged c v) hj r
  have hoffer : t.offerQueue = t := State.offerQueue_unserved fun e he j _ hj => by
    have hlane : s.laneOf e.circuit = some j := (State.laneOf_judged (c := c) (v := v) e.circuit).symm.trans hj
    have hne : j ≠ l := fun hjl => hq e he (hjl ▸ hlane)
    exact State.served_of_not_ready (by rw [hother j hne]; exact hbusy j hne)
  have hrun : t.campaign.state ≠ .running := by
    show s.campaign.state ≠ .running
    rw [hidle]
    nofun
  have harb := State.arbitrate_parks (s := t) (l := l) hoffer hrun (by rw [hself]; exact hr) fun j hj => by
    rw [hother j hj]
    exact Lane.tunedAtEnd_of_not_ready (hbusy j hj)
  rw [hself] at harb
  refine harb.trans ?_
  exact congrArg (fun x => ({ s.verified l r.park c v cs rv ns with lanes := x, looks := [] } : State))
    (Vector.set_set (hi := l.isLt) ..)

/-! ### The oldest entry for the lane -/

/-- A lane TUNED at the end of its work is served while no profile is pending and its reference run is not due. -/
theorem State.served_tuned (hpending : s.pendingProfile = none) (h : (s.lane l).tunedAtEnd = true)
    (hdue : (s.lane l).due s.profile = false) : s.served l = true := by
  have hstate : (s.lane l).state = .tuned := by
    simp only [Lane.tunedAtEnd, Bool.and_eq_true, beq_iff_eq] at h
    exact h.1
  unfold State.served State.withheldByLane Lane.ready
  simp [hpending, h, hdue, hstate]

/-- A lane TUNED at the end of its work is offered the oldest entry for it, takes it on its channel, and is offered no other. -/
theorem State.offerQueue_tuned {before after : List QueueEntry} {e : QueueEntry} {d : Definition} (hl : d.lane = l)
    (hq : s.queue = before ++ e :: after) (hlook : l ∈ s.looks) (hd : (s.circuit e.circuit).definition = some d)
    (hbefore : ∀ x ∈ before, s.laneOf x.circuit ≠ some l) (hbusy : ∀ j, j ≠ l → (s.lane j).ready = false)
    (hserved : s.served l = true) (hfree : s.hasFree = true) (hend : (s.lane l).tunedAtEnd = true) :
    s.offerQueue = if d.channel = (s.lane l).channel then s.grantVerification l e d.channel else s := by
  have hstate : (s.lane l).state = .tuned := by
    simp only [Lane.tunedAtEnd, Bool.and_eq_true, beq_iff_eq] at hend
    exact hend.1
  have hpassed : before.foldl (State.offerEntry s.looks) (s, []) = (s, []) :=
    State.foldl_offerEntry_unserved fun x hx j _ hj => by
      have hne : j ≠ l := fun hjl => hbefore x hx (hjl ▸ hj)
      exact State.served_of_not_ready (hbusy j hne)
  have hrest : ∀ u : State, (∀ j, j ≠ l → (u.lane j).ready = false) →
      after.foldl (State.offerEntry s.looks) (u, [l]) = (u, [l]) := by
    intro u hu
    generalize after = q
    induction q with
    | nil => rfl
    | cons x q ih =>
      have hx : State.offerEntry s.looks (u, [l]) x = (u, [l]) := by
        unfold State.offerEntry
        dsimp only
        split
        · next j channel _ _ =>
          by_cases hj : j = l
          · simp [hj]
          · simp [State.served_of_not_ready (hu j hj)]
        · rfl
      rw [List.foldl_cons, hx, ih]
  have hlane : s.laneOf e.circuit = some l := by rw [State.laneOf, hd, ← hl]; rfl
  have hchannel : s.channelOf e.circuit = some d.channel := by rw [State.channelOf, hd]; rfl
  have he : State.offerEntry s.looks (s, []) e =
      (if d.channel = (s.lane l).channel then s.grantVerification l e d.channel else s, [l]) := by
    unfold State.offerEntry
    simp only [hlane, hchannel]
    rw [if_pos (by simp [hlook, hserved]), if_neg (by simp [hfree]), if_neg (by simp [hstate])]
    by_cases hc : d.channel = (s.lane l).channel
    · rw [if_pos (by simp [Lane.takes, hend, hc]), if_pos hc]
    · rw [if_neg (by simp [Lane.takes, hstate, Ne.symm hc]), if_neg hc]
  rw [State.offerQueue, hq, List.foldl_append, hpassed, List.foldl_cons, he, hrest]
  intro j hj
  split
  · rw [show (s.grantVerification l e d.channel).lane j = s.lane j from by
      unfold State.grantVerification
      exact State.lane_modifyLane_other _ hj _]
    exact hbusy j hj
  · exact hbusy j hj

/-- The record of a TUNED lane that begins a verification on the channel it holds (R61). -/
def Lane.reused (r : Lane) (p : Profile) (e : QueueEntry) : Lane :=
  { r with
    state := .measuring, samples := [], burstLength := p.burstLength, headCommand := .burst p.burstLength
    work := .verification e.circuit, grant := some ⟨e, p.burstLength, p.retries, [], .measuring⟩ }

theorem State.grantVerification_tuned {e : QueueEntry} {channel : Nat} (hr : (t.lane l).state = .tuned) :
    t.grantVerification l e channel =
      { (t.setCircuit e.circuit { t.circuit e.circuit with state := .probing }).setLane l
          ((t.lane l).reused t.profile e) with
        queue := t.queue.filter fun x => x.circuit != e.circuit
        reserved := { t.reserved with verdict := t.reserved.verdict + 1 } } := by
  have hbegin : { (t.lane l).begin channel t.profile.burstLength with
        work := .verification e.circuit
        grant := some (Grant.mk e t.profile.burstLength t.profile.retries []
          (if (t.lane l).state = .tuned then GrantPhase.measuring else .tuning)) } =
      (t.lane l).reused t.profile e := by
    simp [Lane.begin, hr, Lane.reused, Lane.burst]
  rw [← hbegin]
  rfl

theorem State.lane_grantVerification_other {e : QueueEntry} {channel : Nat} {j : LaneId} (hj : j ≠ l) :
    (t.grantVerification l e channel).lane j = t.lane j := by
  unfold State.grantVerification
  exact State.lane_modifyLane_other _ hj _

/-- The look at a lane TUNED at the end of its work, no other being ready: it takes the oldest entry for it on the channel
it holds, and else it parks. -/
theorem State.arbitrate_tuned {before after : List QueueEntry} {e : QueueEntry} {d : Definition} (hl : d.lane = l)
    (hq : t.queue = before ++ e :: after) (hlook : l ∈ t.looks) (hd : (t.circuit e.circuit).definition = some d)
    (hbefore : ∀ x ∈ before, t.laneOf x.circuit ≠ some l) (hbusy : ∀ j, j ≠ l → (t.lane j).ready = false)
    (hserved : t.served l = true) (hfree : t.hasFree = true) (hend : (t.lane l).tunedAtEnd = true)
    (hrun : t.campaign.state ≠ .running) :
    t.arbitrate = if d.channel = (t.lane l).channel then { t.grantVerification l e d.channel with looks := [] }
      else { t.setLane l (t.lane l).park with looks := [] } := by
  have hoffer := State.offerQueue_tuned hl hq hlook hd hbefore hbusy hserved hfree hend
  by_cases hc : d.channel = (t.lane l).channel
  · rw [if_pos hc] at hoffer ⊢
    have hstate : (t.lane l).state = .tuned := by
      simp only [Lane.tunedAtEnd, Bool.and_eq_true, beq_iff_eq] at hend
      exact hend.1
    have hrun' : (t.grantVerification l e d.channel).campaign.state ≠ .running := hrun
    have hlanes : ∀ j, ((t.grantVerification l e d.channel).lane j).tunedAtEnd = false := by
      intro j
      by_cases hj : j = l
      · rw [hj, State.grantVerification_tuned hstate]
        show ((State.setLane _ l _).lane l).tunedAtEnd = false
        rw [State.lane_setLane_self]
        rfl
      · rw [State.lane_grantVerification_other hj]
        exact Lane.tunedAtEnd_of_not_ready (hbusy j hj)
    rw [State.arbitrate, hoffer, State.offerCaptures_idle hrun', State.parkIdle, State.parkIfIdle_none _ _ hlanes]
  · rw [if_neg hc] at hoffer ⊢
    exact State.arbitrate_parks hoffer hrun hend fun j hj => Lane.tunedAtEnd_of_not_ready (hbusy j hj)

/-- The part once the lane of a verdict has been granted its next entry `e`, the rest of the queue being `q`. -/
def State.verifying (s : State) (l : LaneId) (r : Lane) (c : Nat) (v : Verdict) (cs : List Closure) (rv : ReservedCounts)
    (ns : List Notice) (e : QueueEntry) (q : List QueueEntry) : State :=
  { ((s.judged c v).setCircuit e.circuit { s.circuit e.circuit with state := .probing }).setLane l
      (r.reused s.profile e) with
    queue := q
    closures := cs
    reserved := { rv with verdict := rv.verdict - 1 + 1 }
    notices := ns ++ s.verdictNotices c v }

theorem State.grantVerification_verified {ls : List LaneId} {e : QueueEntry} {q : List QueueEntry} {channel : Nat}
    (hr : r.state = .tuned) (hne : e.circuit ≠ c) (hq : s.queue.filter (fun x => x.circuit != e.circuit) = q) :
    State.grantVerification { s.verified l r c v cs rv ns with looks := ls } l e channel =
      { s.verifying l r c v cs rv ns e q with looks := ls } := by
  have hself : State.lane { s.verified l r c v cs rv ns with looks := ls } l = r :=
    State.lane_setLane_self (s.judged c v) l r
  have hcircuit : State.circuit { s.verified l r c v cs rv ns with looks := ls } e.circuit = s.circuit e.circuit :=
    State.circuit_judged_other hne
  have hlanes : (s.lanes.set l r).set l (r.reused s.profile e) = s.lanes.set l (r.reused s.profile e) :=
    Vector.set_set (hi := l.isLt) ..
  rw [State.grantVerification_tuned (by rw [hself]; exact hr), hself, hcircuit, ← hq]
  exact congrArg (fun x => ({ s.verifying l r c v cs rv ns e (s.queue.filter fun x => x.circuit != e.circuit) with
    lanes := x, looks := ls } : State)) hlanes

/-- After the verdict the lane is granted the oldest entry for it on the channel it holds, and else it parks. -/
theorem State.arbitrate_verified_next {ls : List LaneId} {before after : List QueueEntry} {e : QueueEntry}
    {d : Definition} (hl : d.lane = l) (hbusy : ∀ j, j ≠ l → (s.lane j).ready = false) (hidle : s.campaign.state = .idle)
    (hend : r.tunedAtEnd = true) (hlook : l ∈ ls) (hpending : s.pendingProfile = none) (hdue : r.due s.profile = false)
    (hq : s.queue = before ++ e :: after) (hbefore : ∀ x ∈ before, s.laneOf x.circuit ≠ some l)
    (hother : ∀ x ∈ before ++ after, x.circuit ≠ e.circuit) (hne : e.circuit ≠ c)
    (hd : (s.circuit e.circuit).definition = some d) (hfree : (s.verified l r c v cs rv ns).hasFree = true) :
    State.arbitrate { s.verified l r c v cs rv ns with looks := ls } =
      if d.channel = r.channel then { s.verifying l r c v cs rv ns e (before ++ after) with looks := [] }
      else { s.verified l r.park c v cs rv ns with looks := [] } := by
  have hself : State.lane { s.verified l r c v cs rv ns with looks := ls } l = r :=
    State.lane_setLane_self (s.judged c v) l r
  have hothers : ∀ j, j ≠ l → State.lane { s.verified l r c v cs rv ns with looks := ls } j = s.lane j := fun j hj =>
    State.lane_setLane_other (s.judged c v) hj r
  have hlaneOf : ∀ x, State.laneOf { s.verified l r c v cs rv ns with looks := ls } x = s.laneOf x := fun x =>
    State.laneOf_judged (c := c) (v := v) x
  have hcircuit : State.circuit { s.verified l r c v cs rv ns with looks := ls } e.circuit = s.circuit e.circuit :=
    State.circuit_judged_other hne
  have hrun : s.campaign.state ≠ .running := by
    rw [hidle]
    nofun
  have hstate : r.state = .tuned := by
    simp only [Lane.tunedAtEnd, Bool.and_eq_true, beq_iff_eq] at hend
    exact hend.1
  have harb := State.arbitrate_tuned (t := { s.verified l r c v cs rv ns with looks := ls }) hl hq hlook
    (by rw [hcircuit]; exact hd) (fun x hx => by rw [hlaneOf]; exact hbefore x hx)
    (fun j hj => by rw [hothers j hj]; exact hbusy j hj)
    (State.served_tuned hpending (by rw [hself]; exact hend) (by rw [hself]; exact hdue)) hfree
    (by rw [hself]; exact hend) hrun
  have hdrop : s.queue.filter (fun x => x.circuit != e.circuit) = before ++ after := by
    rw [hq, filter_dropped hother]
  rw [harb, hself, State.grantVerification_verified hstate hne hdrop]
  exact congrArg (fun x => if d.channel = r.channel then { s.verifying l r c v cs rv ns e (before ++ after) with looks := [] }
      else ({ s.verified l r.park c v cs rv ns with lanes := x, looks := [] } : State))
    (Vector.set_set (hi := l.isLt) ..)

/-- A verdict that is sent or withheld leaves no fewer notice entries FREE. -/
theorem State.hasFree_verified (h : s.occupied < 32) (hreserved : 1 ≤ s.reserved.verdict) :
    (s.verified l r c v cs s.reserved s.notices).hasFree = true := by
  refine (State.hasFree_iff _).mpr ?_
  have hsent : (s.verdictNotices c v).length ≤ 1 := by
    unfold State.verdictNotices
    split <;> simp
  have hafter : (s.verified l r c v cs s.reserved s.notices).occupied =
      (s.reserved.verdict - 1 + s.reserved.summary + s.reserved.captureDone + s.reserved.profileApplied) +
        (s.notices ++ s.verdictNotices c v).length + s.transmitter.sendingCount := rfl
  have hbefore : s.occupied = (s.reserved.verdict + s.reserved.summary + s.reserved.captureDone +
      s.reserved.profileApplied) + s.notices.length + s.transmitter.sendingCount := rfl
  rw [List.length_append] at hafter
  omega

/-- BURST_RESULT of a lane's last attempt ends the grant. -/
theorem State.reduceHanded_last {b : HandedBurst} {d : Definition} (hb : (s.lane l).handed = some b)
    (hp : b.purpose = .attempt) (hg : (s.lane l).grant = some g) (hd : (s.circuit g.entry.circuit).definition = some d)
    (hlast : (classify s.profile d (s.circuit g.entry.circuit).baseline b).cls = .pass ∨
      (classify s.profile d (s.circuit g.entry.circuit).baseline b).cls = .continuityOnly ∨
      g.retries ≤ g.attempts.length)
    (hv : s.verdictOf g.entry l g.attempts (classify s.profile d (s.circuit g.entry.circuit).baseline b) = v)
    (hidle : s.campaign.state = .idle)
    (hcount : ∀ u : State, u.closures = s.closures → u.reserved = s.reserved → u.notices = s.notices →
      u.countVerdict v.closureId v.kind v.qualifiers.spanEvent = { u with closures := cs, reserved := rv, notices := ns })
    (hreserved : 1 ≤ rv.verdict) :
    ∃ ls, l ∈ ls ∧ s.reduceHanded l =
      { s.verified l (s.lane l).endWork g.entry.circuit v cs rv ns with looks := ls } := by
  let taken : State := s.setLane l { s.lane l with handed := none }
  have hlane : taken.lane l = { s.lane l with handed := none } := State.lane_setLane_self s l _
  have htake := State.takeResult_attempt (s := taken) (l := l) hp (by rw [hlane]; exact hg) hd
  have hends := State.takeAttempt_ends (s := taken) (l := l) (g := g) (d := d) (b := b) hlast
  obtain ⟨ls, hmem, hls⟩ := State.endGrant_eq (s := taken) (l := l) (g := g) (v := v) (cs := cs) (rv := rv) (ns := ns)
    hv hidle (hcount _ rfl rfl rfl) hreserved
  refine ⟨ls, hmem, (State.reduceHanded_some hb).trans (htake.trans (hends.trans (hls.trans ?_)))⟩
  rw [hlane]
  exact congrArg (fun x : State => { x with looks := ls }) (State.verified_setLane (s := s) _)

end

end

end Sys2Proof.Machine

namespace Sys2Proof.Proofs
open Sys2Proof.Machine

/-- The end of a grant with nothing queued for its lane, on a part with no other lane ready and a busy transmitter. -/
theorem burstResult_last {s : State} {l : LaneId} {b : HandedBurst} {g : Grant} {d : Definition} {v : Verdict}
    {cs : List Closure} {rv : ReservedCounts} {ns : List Notice} (h : s.calm = true)
    (hbusy : ∀ j, j ≠ l → (s.lane j).ready = false)
    (hq : ∀ e ∈ s.queue, (s.circuit e.circuit).definition.map (·.lane) ≠ some l)
    (hidle : s.campaign.state = .idle) (hsend : s.transmitter ≠ .idle) (hstate : (s.lane l).state = .tuned)
    (hb : (s.lane l).handed = some b) (hp : b.purpose = .attempt) (hg : (s.lane l).grant = some g)
    (hd : (s.circuit g.entry.circuit).definition = some d)
    (hlast : (classify s.profile d (s.circuit g.entry.circuit).baseline b).cls = .pass ∨
      (classify s.profile d (s.circuit g.entry.circuit).baseline b).cls = .continuityOnly ∨
      g.retries ≤ g.attempts.length)
    (hv : s.verdictOf g.entry l g.attempts (classify s.profile d (s.circuit g.entry.circuit).baseline b) = v)
    (hcount : ∀ u : State, u.closures = s.closures → u.reserved = s.reserved → u.notices = s.notices →
      u.countVerdict v.closureId v.kind v.qualifiers.spanEvent = { u with closures := cs, reserved := rv, notices := ns })
    (hreserved : 1 ≤ rv.verdict) :
    exec (.burstResult l) s = .next (s.verified l (s.lane l).endWork.park g.entry.circuit v cs rv ns) := by
  obtain ⟨-, -, -, -, -, -, -, hrest, -⟩ := s.calm_iff.mp h
  obtain ⟨ls, -, hls⟩ := State.reduceHanded_last hb hp hg hd hlast hv hidle hcount hreserved
  have hend : (s.lane l).endWork.tunedAtEnd = true := by simp [Lane.tunedAtEnd, Lane.endWork, hstate]
  have harb := State.arbitrate_verified (s := s) (c := g.entry.circuit) (v := v) (cs := cs) (rv := rv) (ns := ns)
    (ls := ls) hbusy hidle hq hend
  have hrun := State.whenAlive_arbitrated_busy (f := fun s => s.reduceHanded l) h hls harb rfl hsend
  rw [← State.looks_of_atRest hrest] at hrun
  exact congrArg Host.Outcome.next hrun

theorem append_verdictNotices (s : State) (c : Nat) (v : Verdict) (ns : List Notice) :
    ns ++ s.verdictNotices c v =
      if s.profile.quietPass = true ∧ (v.kind = .pass ∨ v.kind = .continuityOnly) then ns else ns ++ [.verdict c v] := by
  unfold State.verdictNotices
  split
  · exact List.append_nil ns
  · rfl

/-- Settles O38: the verdict is recorded, counted and sent or withheld (`State.endGrant_eq`), and the arbiter's look at the
lane grants the oldest entry on its channel or parks it. -/
theorem verdictConcludes : Obligations.VerdictConcludes := by
  refine ⟨?_, ?_, ?_, fun s t r kind spanEvent hr hsummary => State.countVerdict_some kind spanEvent hr hsummary⟩
  · intro s l b g d a classes kind found v h hbusy hq hidle hsend hreserved hstate hb hp hg htag hd hlast
    have hend := burstResult_last (cs := s.closures) (rv := s.reserved) (ns := s.notices) h hbusy hq hidle hsend hstate hb
      hp hg hd hlast (State.verdictOf_eq ..)
      (fun u hc hr hn => by
        show u.countVerdict g.entry.tag _ _ = _
        rw [htag, State.countVerdict_none, ← hc, ← hr, ← hn])
      hreserved
    refine hend.trans (congrArg Host.Outcome.next ?_)
    exact congrArg (fun ns => ({ s.verified l (s.lane l).endWork.park g.entry.circuit v s.closures s.reserved s.notices with
      notices := ns } : State)) (append_verdictNotices s g.entry.circuit v s.notices)
  · intro s l b g d tag r a classes kind found v r' h hbusy hidle hsend hreserved hstate hb hp hg htag hr hsummary hd hlast hq
    have hend := burstResult_last
      (cs := if 1 < r.outstanding then s.closures.map fun x => if x.windowId = tag then r' else x
        else s.closures.filter fun x => x.windowId != tag)
      (rv := if 1 < r.outstanding then s.reserved else { s.reserved with summary := s.reserved.summary - 1 })
      (ns := if 1 < r.outstanding then s.notices else s.notices ++ [.windowSummary r' false])
      h hbusy hq hidle hsend hstate hb hp hg hd hlast (State.verdictOf_eq ..)
      (fun u hc hru hn => by
        show u.countVerdict g.entry.tag kind g.entry.spanEvent = _
        rw [htag, State.countVerdict_some kind g.entry.spanEvent (by rw [hc]; exact hr) (by rw [hru]; exact hsummary),
          hc, hru, hn]
        split
        · rw [← hru, ← hn]
          rfl
        · rfl)
      (by split <;> exact hreserved)
    refine hend.trans (congrArg Host.Outcome.next ?_)
    by_cases ho : 1 < r.outstanding
    · rw [if_pos ho, if_pos ho, if_pos ho, if_pos ho, if_pos ho, List.append_nil]
      rfl
    · rw [if_neg ho, if_neg ho, if_neg ho, if_neg ho, if_neg ho]
      rfl
  · intro s l b g d d' e before after a classes kind found v sent h hbusy hidle hsend hreserved hstate hb hp hg htag hd hlast
      hpending hdue hq hbefore hother hne hd' hl hfree
    obtain ⟨-, -, -, -, -, -, -, hrest, -⟩ := s.calm_iff.mp h
    have hlooks := State.looks_of_atRest hrest
    obtain ⟨ls, hmem, hls⟩ := State.reduceHanded_last (cs := s.closures) (rv := s.reserved) (ns := s.notices) hb hp hg hd
      hlast (State.verdictOf_eq ..) hidle
      (fun u hc hr hn => by
        show u.countVerdict g.entry.tag _ _ = _
        rw [htag, State.countVerdict_none, ← hc, ← hr, ← hn])
      hreserved
    have hend : (s.lane l).endWork.tunedAtEnd = true := by simp [Lane.tunedAtEnd, Lane.endWork, hstate]
    have harb := State.arbitrate_verified_next (ls := ls) (v := v) (cs := s.closures) hl hbusy hidle hend hmem hpending
      ((Lane.due_eq_false_iff (s.lane l).endWork _).mpr hdue) hq hbefore hother hne hd'
      (State.hasFree_verified hfree hreserved)
    have hchannel : (s.lane l).endWork.channel = (s.lane l).channel := rfl
    by_cases hc : d'.channel = (s.lane l).channel
    · rw [hchannel, if_pos hc] at harb
      rw [if_pos hc]
      have hrun := State.whenAlive_arbitrated_busy (f := fun s => s.reduceHanded l) h hls harb rfl hsend
      rw [← hlooks] at hrun
      exact congrArg Host.Outcome.next hrun
    · rw [hchannel, if_neg hc] at harb
      rw [if_neg hc]
      have hrun := State.whenAlive_arbitrated_busy (f := fun s => s.reduceHanded l) h hls harb rfl hsend
      rw [← hlooks] at hrun
      exact congrArg Host.Outcome.next hrun

end Sys2Proof.Proofs


/-! # The bursts of a capture (7.5, 7.6) -/

namespace Sys2Proof.Machine

section
variable {s t : State} {l : LaneId}

/-! ## A lane that ends its work with nothing left to reach -/

/-- A lane reaches no entry where none is UNPROCESSED. -/
theorem State.reachable_none (h : ∀ e ∈ t.campaign.entries, e.status ≠ .unprocessed) (c : Nat) :
    t.reachable l c = false := by
  have hnamed : t.namedUnprocessed c = false := by
    unfold State.namedUnprocessed State.entryIs
    cases he : t.campaign.entryFor c with
    | none => simp
    | some e => simp [h e (Campaign.entryFor_mem he).1]
  simp [State.reachable, hnamed]

theorem State.offerCapture_unreached (h : ∀ e ∈ t.campaign.entries, e.status ≠ .unprocessed) (j : LaneId) :
    t.offerCapture j = t := by
  by_cases hrunning : t.campaign.state = .running
  · have hask : State.askCapture j (t.campaign.entries.map (·.circuit)) t = (t, none) := by
      have hpass := State.askCapture_passed (s := t) (l := j) (cs := t.campaign.entries.map (·.circuit)) (rest := [])
        hrunning fun c _ => State.reachable_none h c
      rw [List.append_nil] at hpass
      exact hpass
    unfold State.offerCapture
    rw [hask]
    exact ite_self t
  · exact State.offerCapture_idle j hrunning

/-- A lane TUNED at the end of its work parks, where no other is ready, nothing is queued for it and no entry is
UNPROCESSED. -/
theorem State.arbitrate_spent (hq : ∀ e ∈ t.queue, t.laneOf e.circuit ≠ some l)
    (hbusy : ∀ j, j ≠ l → (t.lane j).ready = false) (hend : (t.lane l).tunedAtEnd = true)
    (hentries : ∀ e ∈ t.campaign.entries, e.status ≠ .unprocessed) :
    t.arbitrate = { t.setLane l (t.lane l).park with looks := [] } := by
  have hoffer : t.offerQueue = t := State.offerQueue_unserved fun e he j _ hj => by
    have hne : j ≠ l := fun hjl => hq e he (hjl ▸ hj)
    exact State.served_of_not_ready (hbusy j hne)
  have hcaptures : t.offerCaptures = t := State.offerCaptures_none fun j _ => State.offerCapture_unreached hentries j
  rw [State.arbitrate, hoffer, hcaptures,
    State.parkIdle_one hend fun j hj => Lane.tunedAtEnd_of_not_ready (hbusy j hj)]

/-! ## A capture burst by its result (R129) -/

section
variable {w : CaptureWork} {d : Definition} {b : HandedBurst}

theorem State.takeResult_capture (h : b.purpose = .capture) (hw : (s.lane l).capture = some w)
    (hd : (s.circuit w.circuit).definition = some d) : s.takeResult l b = s.takeCaptureBurst l w d b := by
  unfold State.takeResult
  simp only [h, hw, hd]

theorem State.takeCaptureBurst_noReturn (h : b.reduce.returned = none) :
    s.takeCaptureBurst l w d b = s.failCapture l w.circuit (.noReturn (w.kept.length + 1) b.reduce.mean) := by
  unfold State.takeCaptureBurst
  dsimp only
  rw [h]

variable {r : Returned}

theorem State.takeCaptureBurst_wrongCode (h : b.reduce.returned = some r) (hcode : r.code ≠ d.code) :
    s.takeCaptureBurst l w d b = s.failCapture l w.circuit (.wrongCode (w.kept.length + 1) r.code) := by
  unfold State.takeCaptureBurst
  dsimp only
  rw [h]
  exact if_pos hcode

theorem State.takeCaptureBurst_clipped (h : b.reduce.returned = some r) (hcode : r.code = d.code)
    (hclipped : b.reduce.clipped = true) :
    s.takeCaptureBurst l w d b = s.failCapture l w.circuit (.clipped (w.kept.length + 1)) := by
  unfold State.takeCaptureBurst
  dsimp only
  rw [h]
  dsimp only
  rw [if_neg (not_not.mpr hcode), if_pos hclipped]

/-- The work with one burst more kept. -/
def CaptureWork.keeping (w : CaptureWork) (r : Returned) (b : HandedBurst) : CaptureWork :=
  { w with kept := w.kept ++ [(levelOf r b.trim, pathDelay r.rawDelay b.offset)] }

theorem State.takeCaptureBurst_more (h : b.reduce.returned = some r) (hcode : r.code = d.code)
    (hclipped : b.reduce.clipped = false) (hmore : w.kept.length + 1 < w.bursts) :
    s.takeCaptureBurst l w d b = s.setLane l { (s.lane l).burst with capture := some (w.keeping r b) } := by
  unfold State.takeCaptureBurst
  dsimp only
  rw [h]
  dsimp only
  rw [if_neg (not_not.mpr hcode), if_neg (by simp [hclipped]), if_pos (by simpa using hmore)]
  rfl

theorem State.takeCaptureBurst_complete (h : b.reduce.returned = some r) (hcode : r.code = d.code)
    (hclipped : b.reduce.clipped = false) (hlast : w.bursts ≤ w.kept.length + 1) :
    s.takeCaptureBurst l w d b = s.completeCapture l (w.keeping r b) d := by
  unfold State.takeCaptureBurst
  dsimp only
  rw [h]
  dsimp only
  rw [if_neg (not_not.mpr hcode), if_neg (by simp [hclipped]), if_neg (by simpa using hlast)]
  rfl

end

/-! ## A capture that fails, and one that is complete -/

/-- The campaign with the entry of circuit `c` in another status. -/
def Campaign.restatus (k : Campaign) (c : Nat) (st : EntryStatus) : Campaign :=
  { k with entries := k.entries.map fun e => if e.circuit = c then { e with status := st } else e }

theorem Campaign.restatus_unprocessed {k : Campaign} {c : Nat} {st : EntryStatus} (hst : st ≠ .unprocessed)
    (h : ∀ e ∈ k.entries, e.status ≠ .unprocessed) : ∀ e ∈ (k.restatus c st).entries, e.status ≠ .unprocessed := by
  intro e he
  obtain ⟨x, hx, rfl⟩ := List.mem_map.mp he
  split
  · exact hst
  · exact h x hx

/-- A capture that fails in a campaign that goes on: its circuit is IDLE, its entry has the result, and its lane is looked
at. -/
theorem State.failCapture_eq {c : Nat} {result : CaptureResult} (hdeferred : s.campaign.deferredSuspend = false)
    (hreasons : s.campaign.host = false ∧ s.campaign.window = false)
    (hgoes : ∃ x ∈ s.campaign.entries, x.circuit ≠ c ∧ x.status.isFinished = false) :
    ∃ ls, s.failCapture l c result =
      { (s.setCircuit c { s.circuit c with state := .idle }).setLane l (s.lane l).endWork with
        campaign := { s.campaign.restatus c (.finished result) with progressOwed := false }
        looks := ls } := by
  obtain ⟨ls, hls⟩ := State.lookAt_eq (s.setLane l (s.lane l).endWork) l
  have hrelease : s.releaseLane l = { s.setLane l (s.lane l).endWork with looks := ls } := hls
  have hfinish := State.finishEntry_goes (s := { s.setLane l (s.lane l).endWork with looks := ls }) (c := c) (r := result)
    hdeferred hreasons hgoes
  let t : State := { s.setLane l (s.lane l).endWork with
    campaign := { s.campaign.restatus c (.finished result) with progressOwed := false }, looks := ls }
  have hmake : ∃ ls', t.makeIdle c = { t.setCircuitState c .idle with looks := ls' } := by
    unfold State.makeIdle
    dsimp only
    split
    · exact State.lookAtCircuit_eq _ _
    · exact ⟨_, rfl⟩
  obtain ⟨ls', hls'⟩ := hmake
  refine ⟨ls', ?_⟩
  rw [State.failCapture, hrelease, hfinish]
  exact hls'

/-- The last burst within the spread limit: the entry is COMMITTING, and the baseline is handed to the free commit queue. -/
theorem State.completeCapture_eq {w : CaptureWork} {d : Definition} (hspread : spreadOf (w.kept.map (·.1)) ≤ w.spreadLimit)
    (hregion : s.insideRegion w.circuit = false) (hhand : s.campaign.handOff = []) (hcommits : s.commits = [])
    (hwriting : s.writing = none) (hrestart : s.restartTaken = false) :
    ∃ ls, s.completeCapture l w d =
      { s.setLane l (s.lane l).endWork with
        campaign := s.campaign.restatus w.circuit (.committing l)
        commits := [⟨.writeBaseline w.circuit (s.formedBaseline w.circuit d w.kept), .capture w.circuit⟩]
        writing := some ⟨.write, .baseline w.circuit (tableRead .erased s.baseSlots w.circuit)⟩
        baseSlots := tableWrite .erased s.baseSlots w.circuit .damaged
        looks := ls } := by
  obtain ⟨ls, hls⟩ := State.lookAt_eq (s.setLane l (s.lane l).endWork) l
  have hrelease : s.releaseLane l = { s.setLane l (s.lane l).endWork with looks := ls } := hls
  let base := s.formedBaseline w.circuit d w.kept
  let k := s.campaign.restatus w.circuit (.committing l)
  let t : State := { s.setLane l (s.lane l).endWork with campaign := k, looks := ls }
  have hcomplete : s.completeCapture l w d =
      State.handOnAll { t with campaign := { k with handOff := s.campaign.handOff ++ [⟨w.circuit, base⟩] } } := by
    unfold State.completeCapture
    dsimp only
    rw [if_neg (Nat.not_lt.mpr hspread), hrelease]
    rfl
  have hroom : t.captureCommits < Config.captureCommits := by
    show s.commits.countP _ < _
    rw [hcommits]
    decide
  have hhanded : State.handOnAll { t with campaign := { k with handOff := [⟨w.circuit, base⟩] } } =
      State.handCommit { t with campaign := { k with handOff := [] } } (.writeBaseline w.circuit base)
        (.capture w.circuit) := by
    show State.handOn 1 { t with campaign := { k with handOff := [⟨w.circuit, base⟩] } } = _
    unfold State.handOn
    dsimp only
    rw [if_pos (by exact hroom), if_neg (by
      show ¬s.insideRegion w.circuit = true
      simp [hregion])]
    rfl
  have hsame : { t with campaign := { k with handOff := [] } } = t := by
    have hk : k.handOff = [] := hhand
    have hke : { k with handOff := [] } = k := by rw [← hk]
    rw [hke]
  refine ⟨ls, ?_⟩
  rw [hcomplete, hhand, List.nil_append, hhanded, hsame, State.handCommit_first (s := t) hcommits hwriting hrestart]
  rfl

end

end Sys2Proof.Machine


/-! # A capture's burst on a calm part -/

namespace Sys2Proof.Machine

section
variable {s t : State} {l : LaneId}

/-- An event of a calm part that leaves lane `l` TUNED at the end of its work with nothing to take ends with its park. -/
theorem State.whenAlive_spent {f : State → State} (h : s.calm = true) (hf : f s = t) (hframes : t.frames = s.frames)
    (hq : ∀ e ∈ t.queue, t.laneOf e.circuit ≠ some l) (hbusy : ∀ j, j ≠ l → (t.lane j).ready = false)
    (hend : (t.lane l).tunedAtEnd = true) (hentries : ∀ e ∈ t.campaign.entries, e.status ≠ .unprocessed) :
    s.whenAlive f = { t.setLane l (t.lane l).park with looks := s.looks } := by
  obtain ⟨-, -, -, -, -, -, -, hrest, -⟩ := s.calm_iff.mp h
  rw [State.looks_of_atRest hrest]
  exact State.whenAlive_arbitrated h hf (State.arbitrate_spent hq hbusy hend hentries) hframes

/-- The part after a capture has failed and left its lane as `r`. -/
def State.captureFailed (s : State) (l : LaneId) (r : Lane) (c : Nat) (result : CaptureResult) : State :=
  { (s.setCircuit c { s.circuit c with state := .idle }).setLane l r with
    campaign := { s.campaign.restatus c (.finished result) with progressOwed := false } }

/-- The part after a capture's last burst has been handed on and left its lane as `r`. -/
def State.captureHanded (s : State) (l : LaneId) (r : Lane) (c : Nat) (b : Baseline) : State :=
  { s.setLane l r with
    campaign := s.campaign.restatus c (.committing l)
    commits := [⟨.writeBaseline c b, .capture c⟩]
    writing := some ⟨.write, .baseline c (tableRead .erased s.baseSlots c)⟩
    baseSlots := tableWrite .erased s.baseSlots c .damaged }

/-- A part that holds lane `l` as `r`, its other lanes, queue, definitions and frames being those of `s`, and whose entries
are none of them UNPROCESSED, ends an event with the lane's park. -/
theorem State.whenAlive_handed {f : State → State} {ls : List LaneId} {r : Lane} (h : s.calm = true)
    (hf : f s = { t with looks := ls }) (hframes : t.frames = s.frames) (hqueue : t.queue = s.queue)
    (hlaneOf : ∀ c, t.laneOf c = s.laneOf c) (hlanes : t.lanes = s.lanes.set l r)
    (hq : ∀ e ∈ s.queue, s.laneOf e.circuit ≠ some l) (hbusy : ∀ j, j ≠ l → (s.lane j).ready = false)
    (hend : r.tunedAtEnd = true) (hentries : ∀ e ∈ t.campaign.entries, e.status ≠ .unprocessed) :
    s.whenAlive f = { t with lanes := s.lanes.set l r.park, looks := s.looks } := by
  have hself : State.lane { t with looks := ls } l = r := by
    show t.lanes[l] = r
    rw [hlanes]
    exact State.lane_setLane_self s l r
  have hother : ∀ j, j ≠ l → State.lane { t with looks := ls } j = s.lane j := fun j hj => by
    show t.lanes[j] = s.lane j
    rw [hlanes]
    exact State.lane_setLane_other s hj r
  have hrun := State.whenAlive_spent (l := l) h hf hframes
    (fun e he => by
      show t.laneOf e.circuit ≠ some l
      rw [hlaneOf]
      exact hq e (hqueue ▸ he))
    (fun j hj => by rw [hother j hj]; exact hbusy j hj) (by rw [hself]; exact hend) hentries
  rw [hself] at hrun
  refine hrun.trans (congrArg (fun v => ({ t with lanes := v, looks := s.looks } : State)) ?_)
  show t.lanes.set l r.park = _
  rw [hlanes]
  exact Vector.set_set (hi := l.isLt) ..

end

end Sys2Proof.Machine

namespace Sys2Proof.Proofs
open Sys2Proof.Machine

/-- The failing end of a capture, on a part with no other lane ready, nothing queued for the lane and no entry left to
reach. -/
theorem burstResult_fails {s : State} {l : LaneId} {b : HandedBurst} {w : CaptureWork} {d : Definition}
    {result : CaptureResult} (h : s.calm = true) (hb : (s.lane l).handed = some b) (hp : b.purpose = .capture)
    (hw : (s.lane l).capture = some w) (hd : (s.circuit w.circuit).definition = some d)
    (hbusy : ∀ j, j ≠ l → (s.lane j).ready = false)
    (hq : ∀ e ∈ s.queue, (s.circuit e.circuit).definition.map (·.lane) ≠ some l) (hstate : (s.lane l).state = .tuned)
    (hreasons : s.campaign.host = false ∧ s.campaign.window = false ∧ s.campaign.deferredSuspend = false)
    (hentries : ∀ e ∈ s.campaign.entries, e.status ≠ .unprocessed)
    (hgoes : ∃ e ∈ s.campaign.entries, e.circuit ≠ w.circuit ∧ e.status.isCommitting = true)
    (hfails : ∀ u : State, u.takeCaptureBurst l w d b = u.failCapture l w.circuit result) :
    exec (.burstResult l) s =
      .next
        { (s.setCircuit w.circuit { s.circuit w.circuit with state := .idle }).setLane l (s.lane l).endWork.park with
          campaign := { s.campaign.restatus w.circuit (.finished result) with progressOwed := false } } := by
  let taken : State := s.setLane l { s.lane l with handed := none }
  have hlane : taken.lane l = { s.lane l with handed := none } := State.lane_setLane_self s l _
  have htake := State.takeResult_capture (s := taken) (l := l) hp (by rw [hlane]; exact hw) hd
  obtain ⟨hhost, hwindow, hdeferred⟩ := hreasons
  obtain ⟨ls, hls⟩ := State.failCapture_eq (s := taken) (l := l) (c := w.circuit) (result := result) hdeferred
    ⟨hhost, hwindow⟩ (by
      obtain ⟨x, hx, hne, hcommitting⟩ := hgoes
      exact ⟨x, hx, hne, by cases hst : x.status <;> simp_all [EntryStatus.isCommitting, EntryStatus.isFinished]⟩)
  rw [hlane] at hls
  have hset : (s.lanes.set l { s.lane l with handed := none }).set l (s.lane l).endWork =
      s.lanes.set l (s.lane l).endWork := Vector.set_set (hi := l.isLt) ..
  have hf : s.reduceHanded l = { s.captureFailed l (s.lane l).endWork w.circuit result with looks := ls } :=
    ((State.reduceHanded_some hb).trans (htake.trans ((hfails taken).trans hls))).trans
      (congrArg (fun v => ({ s.captureFailed l (s.lane l).endWork w.circuit result with lanes := v, looks := ls } : State))
        hset)
  exact congrArg Host.Outcome.next (State.whenAlive_handed (f := fun s => s.reduceHanded l) h hf rfl rfl
    (fun c => State.laneOf_setCircuit (s := s) w.circuit { s.circuit w.circuit with state := .idle } rfl c) rfl hq hbusy
    (by simp [Lane.tunedAtEnd, Lane.endWork, hstate]) (Campaign.restatus_unprocessed (by nofun) hentries))

/-- Settles O39: a burst is kept and repeated (`State.takeCaptureBurst_more`), fails the capture (`State.failCapture_eq`), or
completes it (`State.completeCapture_eq`); in the last two the lane then parks. -/
theorem captureBursts : Obligations.CaptureBursts := by
  refine ⟨?_, ?_, ?_⟩
  · intro s l b w d r h hb hp hw hd hr hcode hclipped hmore
    let taken : State := s.setLane l { s.lane l with handed := none }
    have hlane : taken.lane l = { s.lane l with handed := none } := State.lane_setLane_self s l _
    have htake := State.takeResult_capture (s := taken) (l := l) hp (by rw [hlane]; exact hw) hd
    have hkeep := State.takeCaptureBurst_more (s := taken) (l := l) hr hcode hclipped hmore
    refine congrArg Host.Outcome.next (State.whenAlive_setLane h ?_ rfl)
    refine (State.reduceHanded_some hb).trans (htake.trans (hkeep.trans ?_))
    rw [hlane, State.setLane_setLane]
    rfl
  · intro s l b w d result h hb hp hw hd hbusy hq hstate hreasons hentries hgoes hresult
    refine burstResult_fails h hb hp hw hd hbusy hq hstate hreasons hentries hgoes fun u => ?_
    cases hret : b.reduce.returned with
    | none =>
      rw [hret] at hresult
      obtain rfl := Option.some.inj hresult
      exact State.takeCaptureBurst_noReturn hret
    | some r =>
      rw [hret] at hresult
      dsimp only at hresult
      by_cases hcode : r.code = d.code
      · rw [if_neg (not_not.mpr hcode)] at hresult
        cases hclipped : b.reduce.clipped with
        | true =>
          rw [hclipped, if_pos rfl] at hresult
          obtain rfl := Option.some.inj hresult
          exact State.takeCaptureBurst_clipped hret hcode hclipped
        | false =>
          rw [hclipped, if_neg (by simp)] at hresult
          by_cases hspread : w.bursts ≤ w.kept.length + 1 ∧
              w.spreadLimit < spreadOf (w.kept.map (·.1) ++ [levelOf r b.trim])
          · rw [if_pos hspread] at hresult
            obtain rfl := Option.some.inj hresult
            have hlevels : (w.keeping r b).kept.map (·.1) = w.kept.map (·.1) ++ [levelOf r b.trim] := by
              simp [CaptureWork.keeping]
            rw [State.takeCaptureBurst_complete hret hcode hclipped hspread.1, State.completeCapture, hlevels]
            exact if_pos hspread.2
          · rw [if_neg hspread] at hresult
            cases hresult
      · rw [if_pos hcode] at hresult
        obtain rfl := Option.some.inj hresult
        exact State.takeCaptureBurst_wrongCode hret hcode
  · intro s l b w d r kept baseline h hb hp hw hd hbusy hq hstate hreasons hentries hr hcode hclipped hlast hspread hregion
      hhand hcommits
    obtain ⟨-, hrestart, -⟩ := s.calm_iff.mp h
    let taken : State := s.setLane l { s.lane l with handed := none }
    have hlane : taken.lane l = { s.lane l with handed := none } := State.lane_setLane_self s l _
    have htake := State.takeResult_capture (s := taken) (l := l) hp (by rw [hlane]; exact hw) hd
    have hcomplete := State.takeCaptureBurst_complete (s := taken) (l := l) hr hcode hclipped hlast
    obtain ⟨ls, hls⟩ := State.completeCapture_eq (s := taken) (l := l) (w := w.keeping r b) (d := d) hspread hregion hhand
      hcommits.1 hcommits.2 hrestart
    have hbase : taken.formedBaseline (w.keeping r b).circuit d (w.keeping r b).kept = baseline := by
      have hgeneration : nextGeneration (s.circuit w.circuit).baseline = baseline.generation := by
        show nextGeneration (s.circuit w.circuit).baseline = match (s.circuit w.circuit).baseline with
          | none => 1
          | some b => if b.generation = 65535 then 1 else b.generation + 1
        cases (s.circuit w.circuit).baseline <;> rfl
      exact congrArg (fun n => ({ baseline with generation := n } : Baseline)) hgeneration
    rw [hlane, hbase] at hls
    have hset : (s.lanes.set l { s.lane l with handed := none }).set l (s.lane l).endWork =
        s.lanes.set l (s.lane l).endWork := Vector.set_set (hi := l.isLt) ..
    have hf : s.reduceHanded l = { s.captureHanded l (s.lane l).endWork w.circuit baseline with looks := ls } :=
      ((State.reduceHanded_some hb).trans (htake.trans (hcomplete.trans hls))).trans
        (congrArg (fun v => ({ s.captureHanded l (s.lane l).endWork w.circuit baseline with lanes := v, looks := ls } : State))
          hset)
    exact congrArg Host.Outcome.next (State.whenAlive_handed (f := fun s => s.reduceHanded l) h hf rfl rfl (fun _ => rfl)
      rfl hq hbusy (by simp [Lane.tunedAtEnd, Lane.endWork, hstate]) (Campaign.restatus_unprocessed (by nofun) hentries))

end Sys2Proof.Proofs


/-! # The state after reset -/

namespace Sys2Proof.Machine

/-- A part whose records hold no circuit, window, work, commit or reservation; its store may hold anything. -/
structure State.Blank (s : State) : Prop where
  circuits : s.circuits = []
  codeMap : s.codeMap = []
  spanIndex : s.spanIndex = []
  stack : s.stack = []
  closures : s.closures = []
  queue : s.queue = []
  lanes : ∀ l, (s.lane l).grant = none ∧ (s.lane l).capture = none ∧ (s.lane l).work = .none
  campaign : s.campaign = {}
  processor : s.processor = .free
  commits : s.commits = []
  reserved : s.reserved = {}
  pendingProfile : s.pendingProfile = none
  defSlots : tableWf .erased s.defSlots = true
  baseSlots : tableWf .erased s.baseSlots = true

namespace State.Blank

variable {s : State}

theorem circuit (h : s.Blank) (c : Nat) : s.circuit c = {} := by
  unfold State.circuit
  rw [h.circuits]
  rfl

theorem codeOwner (h : s.Blank) (code : Nat) : s.codeOwner code = none := by
  unfold State.codeOwner
  rw [h.codeMap]
  rfl

theorem crossing (h : s.Blank) (p : Nat) : s.crossing p = [] := by
  unfold State.crossing
  rw [h.spanIndex]
  rfl

theorem entryIs (h : s.Blank) (c : Nat) (p : EntryStatus → Bool) : s.entryIs c p = false := by
  unfold State.entryIs
  rw [h.campaign]
  rfl

/-- The records of a blank part agree. -/
theorem agreed (h : s.Blank) : s.Agreed where
  canonical := by
    unfold State.tablesCanonical
    rw [h.circuits, h.spanIndex, h.codeMap, h.defSlots, h.baseSlots]
    decide
  codes := fun code c => by rw [h.codeOwner, h.circuit]; simp
  spans := fun p c => by rw [h.crossing, h.circuit]; simp
  ascending := by unfold State.spansAscending; rw [h.spanIndex]; rfl
  checked := by unfold State.jobChecked; rw [h.processor]; simp
  holds := fun c => by
    rw [h.circuit]
    unfold State.windowsOver
    rw [h.stack]
    rfl
  queue := fun c => by rw [h.queue, h.circuit]; rfl
  states := fun c => by rw [h.circuit]; trivial
  defined := fun c => by rw [h.circuit]; rfl
  grants := fun l => by
    obtain ⟨hg, -, hw⟩ := h.lanes l
    unfold State.grantAgrees
    rw [hg, hw]
    nofun
  captures := fun l => by
    obtain ⟨-, hc, hw⟩ := h.lanes l
    unfold State.captureAgrees
    rw [hc, hw]
    nofun
  probing := fun c hc => by rw [h.circuit] at hc; cases hc
  entries := by
    refine ⟨by rw [h.campaign]; exact List.nodup_nil, fun c => ?_, by rw [h.campaign]; nofun⟩
    rw [h.entryIs, h.circuit]
    rfl
  commits := by
    refine ⟨fun c => ?_, by rw [h.commits]; nofun, by rw [h.campaign]; rfl⟩
    rw [h.entryIs]
    unfold State.committing
    rw [h.campaign, h.commits]
    rfl
  job := by unfold State.jobQuiet; rw [h.processor]; trivial
  ids := by
    unfold State.windowIdsDistinct
    rw [h.stack, h.closures]
    exact List.nodup_nil
  reservations := by
    have hnone : (allLanes.countP fun l => (s.lane l).grant.isSome) = 0 :=
      List.countP_eq_zero.mpr fun l _ => by rw [(h.lanes l).1]; simp
    unfold State.reservationsOwned
    rw [hnone, h.reserved, h.stack, h.closures, h.campaign, h.pendingProfile]
    exact ⟨rfl, rfl, rfl, rfl⟩
  outside := .inr ⟨h.circuits, h.stack⟩

end State.Blank

theorem State.reset_lane (l : LaneId) : State.reset.lane l = {} :=
  Vector.getElem_replicate l.isLt

theorem State.reset_line (l : LineId) : State.reset.line l = {} :=
  Vector.getElem_replicate l.isLt

theorem State.reset_blank : State.reset.Blank where
  circuits := rfl
  codeMap := rfl
  spanIndex := rfl
  stack := rfl
  closures := rfl
  queue := rfl
  lanes := fun l => by rw [State.reset_lane]; exact ⟨rfl, rfl, rfl⟩
  campaign := rfl
  processor := rfl
  commits := rfl
  reserved := rfl
  pendingProfile := rfl
  defSlots := rfl
  baseSlots := rfl

end Sys2Proof.Machine

namespace Sys2Proof.Proofs
open Sys2Proof.Machine

/-- Settles O2: a blank part's records agree (`State.Blank.agreed`). -/
theorem resetState : Obligations.ResetState := by
  have hagreed := State.reset_blank.agreed
  refine ⟨State.reset_lane, ⟨rfl, rfl⟩, ⟨rfl, rfl, rfl⟩, State.reset_line,
    ⟨rfl, rfl, rfl, rfl, rfl, rfl, rfl, rfl, rfl, rfl, rfl⟩,
    rfl, rfl, ?_, ?_, rfl, hagreed.canonical, hagreed.codes, hagreed.spans, hagreed.ascending, hagreed.checked, hagreed⟩
  · exact List.all_eq_true.mpr fun l _ => by rw [State.reset_lane]; rfl
  · exact List.all_eq_true.mpr fun l _ => by rw [State.reset_line]; rfl

end Sys2Proof.Proofs


/-! # Restarts -/

namespace Sys2Proof.Machine

section
variable {s : State}

/-- The part as a restart leaves it: the restart values, and what is kept of `s` (10.3). -/
def State.anew (s : State) (phase : Phase) (cause : RestartCause) (overlay : Bool) : State :=
  { State.reset with
    pending := s.pending, phase := phase, resetLine := s.resetLine, restartCause := cause, refLock := s.refLock
    rateStrap := s.rateStrap, bitRate := if s.rateStrap then .r460800 else .r115200, overlay := overlay
    senseLines := Vector.ofFn fun (l : LineId) => { input := (s.line l).input }
    defSlots := s.defSlots, baseSlots := s.baseSlots, protSlot := s.protSlot, freeCount := s.freeCount }

theorem BitRate.ofStrap_eq (high : Bool) : BitRate.ofStrap high = if high then .r460800 else .r115200 := by
  cases high <;> rfl

/-- A restart sets everything else anew. -/
theorem State.restarted_eq (s : State) (phase : Phase) (cause : RestartCause) :
    s.restarted phase cause = s.anew phase cause (s.overlay && cause != .cold) := by
  have hlines : allLines.foldl (fun v (l : LineId) => v.set l { input := (s.line l).input }) State.reset.senseLines =
      Vector.ofFn fun (l : LineId) => { input := (s.line l).input } := by
    refine Vector.ext fun i hi => ?_
    have hline := s.restarted_line phase cause ⟨i, hi⟩
    rw [Vector.getElem_ofFn]
    exact hline
  unfold State.restarted State.anew
  rw [hlines, BitRate.ofStrap_eq]

theorem State.restarted_cold (s : State) (phase : Phase) : s.restarted phase .cold = s.anew phase .cold false :=
  (s.restarted_eq phase .cold).trans (congrArg (s.anew phase .cold) (Bool.and_false _))

theorem State.restarted_warm (s : State) (phase : Phase) {cause : RestartCause} (h : cause ≠ .cold) :
    s.restarted phase cause = s.anew phase cause s.overlay :=
  (s.restarted_eq phase cause).trans
    (congrArg (s.anew phase cause) (by rw [bne_iff_ne.mpr h, Bool.and_true]))

/-! ## The write that a restart cuts off -/

theorem State.cutWrite_none {erased : Bool} (h : s.writing = none ∨ s.commits = [] ∨ erased = false) :
    s.cutWrite erased = s := by
  unfold State.cutWrite State.writeErases
  rcases h with h | h | h
  · rw [h]
  · rw [h]
    cases s.writing with
    | none => rfl
    | some w => exact if_neg (by simp)
  · rw [h]
    cases s.writing with
    | none => rfl
    | some w => exact if_neg (by simp)

variable {w : Writing} {c : Commit} {rest : List Commit}

/-- An erase that had reached its last cell leaves its slot wholly erased. -/
theorem State.cutWrite_erases (hc : s.commits = c :: rest) (hw : s.writing = some w)
    (h : ((w.step = .write ∨ w.step = .rewrite) ∧ c.op.isErase = true) ∨ (w.step = .restore ∧ w.saved.isErased = true)) :
    s.cutWrite true = s.putSlot (w.saved.withCells false) := by
  have herases : s.writeErases = true := by
    unfold State.writeErases
    rw [hw, hc]
    rcases h with ⟨hstep | hstep, he⟩ | ⟨hstep, he⟩
    · simp only [hstep, he]
    · simp only [hstep, he]
    · simp only [hstep, he]
  unfold State.cutWrite
  rw [hw]
  exact if_pos (by simp [herases])

/-- Any other write leaves its slot as it stands. -/
theorem State.cutWrite_keeps (hc : s.commits = c :: rest) (hw : s.writing = some w)
    (hwrite : w.step = .write ∨ w.step = .rewrite → c.op.isErase = false)
    (hrestore : w.step = .restore → w.saved.isErased = false) : s.cutWrite true = s := by
  have herases : s.writeErases = false := by
    unfold State.writeErases
    rw [hw, hc]
    cases hstep : w.step with
    | write => simp only [hstep]; exact hwrite (.inl hstep)
    | rewrite => simp only [hstep]; exact hwrite (.inr hstep)
    | restore => simp only [hstep]; exact hrestore hstep
    | eraseCheck => simp only [hstep]
  unfold State.cutWrite
  rw [hw]
  exact if_neg (by simp [herases])

theorem StoreOp.isErase_eq_false {op : StoreOp} (h : ∀ id : Nat, op ≠ .eraseDefinition id ∧ op ≠ .eraseBaseline id) :
    op.isErase = false := by
  cases op with
  | eraseDefinition id => exact absurd rfl (h id).1
  | eraseBaseline id => exact absurd rfl (h id).2
  | _ => rfl

theorem SavedSlot.isErased_eq_false {saved : SavedSlot} (hp : saved ≠ .protection .erased)
    (h : ∀ id : Nat, saved ≠ .definition id .erased ∧ saved ≠ .baseline id .erased) : saved.isErased = false := by
  cases saved with
  | definition id x => exact beq_eq_false_iff_ne.mpr fun hx => (h id).1 (by rw [hx])
  | baseline id x => exact beq_eq_false_iff_ne.mpr fun hx => (h id).2 (by rw [hx])
  | protection x => exact beq_eq_false_iff_ne.mpr fun hx => hp (by rw [hx])

/-! ## The events -/

theorem State.exec_powerFail (erased : Bool) :
    exec (.powerFail erased) s = .next ((s.cutWrite erased).anew .off .cold false) :=
  congrArg Host.Outcome.next (State.restarted_cold _ _)

theorem State.exec_resetAsserted (erased : Bool) :
    exec (.resetAsserted erased) s = .next
      (if s.resetLine then s else if s.phase = .off then { s with resetLine := true }
        else { (s.cutWrite erased).anew .held .line (s.cutWrite erased).overlay with resetLine := true }) :=
  congrArg (fun t : State => Host.Outcome.next (if s.resetLine then s
    else if s.phase = .off then { s with resetLine := true } else { t with resetLine := true }))
    (State.restarted_warm _ _ (by nofun))

theorem State.exec_resetAsserted_cut {erased : Bool} (hline : s.resetLine = false) (hphase : s.phase ≠ .off) :
    exec (.resetAsserted erased) s =
      .next { (s.cutWrite erased).anew .held .line (s.cutWrite erased).overlay with resetLine := true } := by
  rw [State.exec_resetAsserted, if_neg (by simp [hline]), if_neg hphase]

end

end Sys2Proof.Machine

namespace Sys2Proof.Proofs
open Sys2Proof.Machine

/-- A cut-off erase, by what its commit erases or the restored copy was. -/
theorem erases_baseline {c : Commit} {id : Nat} {step : WriteStep} {saved : Slot Baseline}
    (h : ((step = .write ∨ step = .rewrite) ∧ c.op = .eraseBaseline id) ∨ (step = .restore ∧ saved = .erased)) :
    ((step = .write ∨ step = .rewrite) ∧ c.op.isErase = true) ∨
      (step = .restore ∧ (SavedSlot.baseline id saved).isErased = true) :=
  h.imp (fun ⟨hs, ho⟩ => ⟨hs, by rw [ho]; rfl⟩) fun ⟨hs, he⟩ => ⟨hs, by rw [he]; rfl⟩

theorem erases_definition {c : Commit} {id : Nat} {step : WriteStep} {saved : Slot Definition}
    (h : ((step = .write ∨ step = .rewrite) ∧ c.op = .eraseDefinition id) ∨ (step = .restore ∧ saved = .erased)) :
    ((step = .write ∨ step = .rewrite) ∧ c.op.isErase = true) ∨
      (step = .restore ∧ (SavedSlot.definition id saved).isErased = true) :=
  h.imp (fun ⟨hs, ho⟩ => ⟨hs, by rw [ho]; rfl⟩) fun ⟨hs, he⟩ => ⟨hs, by rw [he]; rfl⟩

/-- Settles O28: every restart is `State.anew` of what the cut-off write leaves (`State.cutWrite_none`,
`State.cutWrite_erases`, `State.cutWrite_keeps`). -/
theorem restartsSetEverythingAnew : Obligations.RestartsSetEverythingAnew := by
  refine ⟨?_, ?_, ?_, ?_, ?_, ?_, ?_, ?_, ?_, ?_, ?_, ?_, ?_, ?_⟩
  · exact fun s => congrArg Host.Outcome.next (State.restarted_cold s _)
  · intro s erased back h
    rw [State.exec_powerFail, State.cutWrite_none h]
    rfl
  · intro s c rest id step saved back hc hw h
    rw [State.exec_powerFail, State.cutWrite_erases hc hw (erases_baseline h)]
    rfl
  · intro s c rest id step saved back hc hw h
    rw [State.exec_powerFail, State.cutWrite_erases hc hw (erases_definition h)]
    rfl
  · intro s c rest back hc hw
    rw [State.exec_powerFail, State.cutWrite_erases hc hw (.inr ⟨rfl, rfl⟩)]
    rfl
  · intro s w c rest back hc hw hwrite hrestore
    rw [State.exec_powerFail, State.cutWrite_keeps hc hw (fun hs => StoreOp.isErase_eq_false (hwrite hs))
      fun hs => SavedSlot.isErased_eq_false (hrestore hs).1 (hrestore hs).2]
    rfl
  · intro s c rest id step saved back hline hphase hc hw h
    rw [State.exec_resetAsserted_cut hline hphase, State.cutWrite_erases hc hw (erases_baseline h)]
    rfl
  · intro s c rest id step saved back hline hphase hc hw h
    rw [State.exec_resetAsserted_cut hline hphase, State.cutWrite_erases hc hw (erases_definition h)]
    rfl
  · intro s c rest back hline hphase hc hw
    rw [State.exec_resetAsserted_cut hline hphase, State.cutWrite_erases hc hw (.inr ⟨rfl, rfl⟩)]
    rfl
  · intro s w c rest back hline hphase hc hw hwrite hrestore
    rw [State.exec_resetAsserted_cut hline hphase, State.cutWrite_keeps hc hw
      (fun hs => StoreOp.isErase_eq_false (hwrite hs))
      fun hs => SavedSlot.isErased_eq_false (hrestore hs).1 (hrestore hs).2]
    rfl
  · intro s erased back h
    rw [State.exec_resetAsserted, State.cutWrite_none h]
    rfl
  · exact fun _ => rfl
  · exact fun s tag h => State.arrive_changed (t := { s with restartTaken := true }) h rfl rfl rfl rfl rfl
  · intro s back
    show Host.Outcome.next (if s.restartDue then s.restarted .scanning .request else s) = _
    have hdue : s.restartDue = true ↔
        s.phase = .running ∧ s.restartTaken = true ∧ s.restartReplySent = true ∧ s.writing = none := by
      simp [State.restartDue, and_assoc]
    rw [State.restarted_warm _ _ (by nofun)]
    simp only [hdue]
    rfl

end Sys2Proof.Proofs


/-! # The end of a slot write, and requests that their commit ends -/

namespace Sys2Proof.Machine

section
variable {s t u : State} {w : Writing} {c : Commit} {rest : List Commit} {agrees erased ok : Bool}

/-! ## The ends of a slot write -/

theorem State.endWrite_none (h : s.writing = none ∨ s.commits = []) : s.endWrite agrees erased = s := by
  unfold State.endWrite
  obtain h | h := h
  · rw [h]
  · rw [h]
    cases s.writing <;> rfl

/-- What a write that fails leaves in its slot: the saved cells, or cells without a check word. -/
def Writing.left (w : Writing) (erased : Bool) : SavedSlot :=
  if w.step = .restore then w.saved else w.saved.withCells (!erased)

/-- The step that follows one whose cells do not agree. -/
def WriteStep.following : WriteStep → WriteStep
  | .write => .rewrite
  | .rewrite => .restore
  | .restore | .eraseCheck => .eraseCheck

theorem State.endWrite_agreed (hw : s.writing = some w) (hc : s.commits = c :: rest)
    (hstep : w.step = .write ∨ w.step = .rewrite) :
    s.endWrite true erased = (s.putSlot c.op.written).concludeCommit true := by
  unfold State.endWrite
  rw [hw, hc]
  obtain hstep | hstep := hstep <;> simp only [hstep, if_true]

theorem State.endWrite_failed (hw : s.writing = some w) (hc : s.commits = c :: rest)
    (hstep : agrees = true ∧ w.step = .restore ∨ w.step = .eraseCheck) :
    s.endWrite agrees erased = (s.putSlot (w.left erased)).concludeCommit false := by
  unfold State.endWrite Writing.left
  rw [hw, hc]
  obtain ⟨hagrees, hstep⟩ | hstep := hstep
  · simp only [hstep, hagrees, if_true]
  · simp only [hstep]
    rfl

theorem State.endWrite_disagreed (hw : s.writing = some w) (hc : s.commits = c :: rest) (hstep : w.step ≠ .eraseCheck) :
    s.endWrite false erased = { s with writing := some { w with step := w.step.following } } := by
  unfold State.endWrite
  rw [hw, hc]
  cases h : w.step with
  | eraseCheck => exact absurd h hstep
  | write | rewrite | restore =>
    simp only [h]
    rfl

/-! ## Requests that wait for their commit -/

/-- No commit begins from an empty queue. -/
theorem State.beginCommit_empty (h : s.commits = []) : s.beginCommit = s := by
  unfold State.beginCommit
  rw [h]

/-- The last commit of a request goes back to the request. -/
theorem State.concludeCommit_request {op : StoreOp} (hc : s.commits = [⟨op, .processor⟩]) :
    s.concludeCommit ok = (State.continueJob { s with commits := [], writing := none } ok).beginCommit := by
  unfold State.concludeCommit
  rw [hc]
  rfl

/-- The end of a slot write on a calm part. -/
theorem exec_storeWriteDone : exec (.storeWriteDone agrees erased) s = .next (s.whenAlive fun s => s.endWrite agrees erased) :=
  rfl

/-- A slot write that leaves the frames, the looks, the lanes and the phase of a calm part alone. -/
theorem State.exec_endWrite (h : s.calm = true) (hf : s.endWrite agrees erased = t) (hframes : t.frames = s.frames)
    (hlooks : t.looks = s.looks) (hlanes : t.lanes = s.lanes) : exec (.storeWriteDone agrees erased) s = .next t := by
  obtain ⟨-, -, -, -, -, -, -, hrest, -⟩ := s.calm_iff.mp h
  have hrest' : t.atRest = true := (State.atRest_congr hlooks hlanes).trans hrest
  rw [exec_storeWriteDone, State.whenAlive_forget h hf (State.noWork_of_atRest hrest') hframes,
    State.forget_looks (State.looks_of_atRest hrest')]

variable {tag code : U8} {status : Status} {body : ReplyBody}

/-- A reply that is placed on a part with no other reply to send is begun by an idle transmitter. -/
theorem State.transmit_withReply (r : Reply) (halive : t.alive = true) (hsent : t.restartReplySent = false)
    (hquiet : t.transmitter ≠ .idle ∨ t.replies = []) :
    State.transmit { t with replies := t.replies ++ [r] } = t.withReply r := by
  unfold State.transmit State.withReply
  by_cases hidle : t.transmitter = .idle
  · have hnil : t.replies = [] := hquiet.resolve_left fun hn => hn hidle
    simp only [hidle, hsent, hnil, true_and, and_true, if_true, List.nil_append]
    exact if_pos halive
  · simp [hidle]

/-- An event of a calm part that ends a request with a short reply, for which the reply list has room. -/
theorem State.whenAlive_answered {f : State → State} (h : s.calm = true) (hf : f s = t.answer tag code status body)
    (hshort : body.isLong = false) (hroom : s.replies.length < Config.replyEntries) (hwork : t.NoWork)
    (hframes : t.frames = s.frames) (hphase : t.phase = s.phase) (hsent : t.restartReplySent = s.restartReplySent) :
    s.whenAlive f = State.replied { t with processor := .free, looks := [] } tag code status body := by
  obtain ⟨hrun, -, hsentNo, hq, -, -, -, -, hquiet⟩ := s.calm_iff.mp h
  simp only [State.frames, Prod.mk.injEq] at hframes
  obtain ⟨hrequests, htrans, hreplies, hnotices⟩ := hframes
  have hanswer := t.answer_room tag code status body (hreplies ▸ hroom)
  rw [hshort, body.partsAt_short _ hshort] at hanswer
  have hreq : (t.answer tag code status body).requestQueue = [] := by rw [hanswer]; exact hrequests.trans hq
  rw [s.whenAlive_calm h, hf, State.settle_noWork hwork.answer hreq, hanswer]
  exact State.transmit_withReply (t := { t with processor := .free, looks := [] }) _
    (State.alive_of_running (hphase.trans hrun)) (hsent.trans hsentNo)
    (show t.transmitter ≠ .idle ∨ t.replies = [] by rw [htrans, hreplies]; exact hquiet.imp_right And.left)

/-- The end of a request's last commit, where what ends the request leaves the arbiter no work. -/
theorem State.exec_commit_answers {op : StoreOp} (h : s.calm = true)
    (hend : s.endWrite agrees erased = u.concludeCommit ok) (hc : u.commits = [⟨op, .processor⟩])
    (hjob : State.continueJob { u with commits := [], writing := none } ok = t.answer tag code status body)
    (hshort : body.isLong = false) (hroom : s.replies.length < 8) (hcommits : t.commits = [])
    (hwork : t.NoWork) (hframes : t.frames = s.frames) (hphase : t.phase = s.phase)
    (hsent : t.restartReplySent = s.restartReplySent) :
    exec (.storeWriteDone agrees erased) s =
      .next (State.replied { t with processor := .free, looks := [] } tag code status body) := by
  have hkeeps : (t.answer tag code status body).commits = [] := by
    unfold State.answer State.placeReply
    dsimp only
    split <;> exact hcommits
  have hf : s.endWrite agrees erased = t.answer tag code status body := by
    rw [hend, State.concludeCommit_request hc, hjob, State.beginCommit_empty hkeeps]
  rw [exec_storeWriteDone, State.whenAlive_answered h hf hshort hroom hwork hframes hphase hsent]

/-- What a SET_PROTECTION whose commit has concluded leaves. -/
theorem State.continueJob_protect {p : ProtectionRecord} {session : Bool}
    (h : s.processor = .committing tag (.protect p session)) :
    s.continueJob ok = s.finishProtect tag p session ok := by
  unfold State.continueJob
  rw [h]

/-- A SET_PROTECTION whose slot could not be written leaves what the failed write left there. -/
theorem protect_failed {p q : ProtectionRecord} {session : Bool} {x : Slot ProtectionRecord} (h : s.calm = true)
    (hproc : s.processor = .committing tag (.protect p session)) (hc : s.commits = [⟨.writeProtection q, .processor⟩])
    (hw : s.writing = some w) (hroom : s.replies.length < 8)
    (hstep : agrees = true ∧ w.step = .restore ∨ w.step = .eraseCheck) (hleft : w.left erased = .protection x) :
    exec (.storeWriteDone agrees erased) s =
      .next
        (State.replied
          { s with
            processor := .free, commits := [], writing := none, permit := false, regionBeingWritten := none
            protSlot := x }
          tag 0x50 .storeFault .none) := by
  obtain ⟨-, -, -, -, -, -, -, hrest, -⟩ := s.calm_iff.mp h
  have hlooks := State.looks_of_atRest hrest
  let t : State := { s with commits := [], writing := none, permit := false, regionBeingWritten := none, protSlot := x }
  have hend := State.endWrite_failed (erased := erased) hw hc hstep
  rw [hleft] at hend
  have hjob : State.continueJob { s.putSlot (.protection x) with commits := [], writing := none } false =
      t.answer tag 0x50 .storeFault .none := State.continueJob_protect hproc
  have hrun := State.exec_commit_answers h hend hc hjob rfl hroom rfl
    (State.noWork_of_atRest ((State.atRest_congr rfl rfl).trans hrest)) rfl rfl rfl
  rw [← hlooks] at hrun
  exact hrun

end

end Sys2Proof.Machine

namespace Sys2Proof.Proofs

open Sys2Proof.Machine

/-- Settles O44: the write's step and agreement decide, and SET_PROTECTION answers when its commit has concluded. -/
theorem storeWriteSteps : Obligations.StoreWriteSteps := by
  refine ⟨fun s agrees erased h hnone => ?_, fun s erased w h hc hw hstep => ?_,
    fun s agrees erased w tag p session h hproc hc hw hroom hagrees hstep => ?_,
    fun s agrees erased w tag p session x h hproc hc hw hroom hx hagrees hstep => ?_,
    fun s agrees erased w tag p session x h hproc hc hw hroom hx hstep => ?_⟩
  · exact State.exec_endWrite h (State.endWrite_none hnone) rfl rfl rfl
  · obtain ⟨c, rest, hc⟩ := List.exists_cons_of_ne_nil hc
    refine (State.exec_endWrite h (State.endWrite_disagreed hw hc hstep) rfl rfl rfl).trans ?_
    cases hs : w.step with
    | eraseCheck => exact absurd hs hstep
    | write | rewrite | restore => simp only [WriteStep.following]
  · subst hagrees
    obtain ⟨-, -, -, -, -, -, -, hrest, -⟩ := s.calm_iff.mp h
    have hlooks := State.looks_of_atRest hrest
    let t : State := { s with
      commits := [], writing := none, permit := false, regionBeingWritten := none, protSlot := .holding p
      region := p.region, storedLevel := p.level, overlay := s.overlay || session }
    have hjob : State.continueJob { s.putSlot (StoreOp.writeProtection p).written with commits := [], writing := none } true =
        t.answer tag 0x50 .ok (.protectionSet t.region t.levelInForce) := State.continueJob_protect hproc
    have hrun := State.exec_commit_answers h (State.endWrite_agreed (erased := erased) hw hc hstep) hc hjob rfl hroom rfl
      (State.noWork_of_atRest ((State.atRest_congr rfl rfl).trans hrest)) rfl rfl rfl
    rw [t.levelInForce_eq, ← hlooks] at hrun
    exact hrun
  · exact protect_failed h hproc hc hw hroom (.inl ⟨hagrees, hstep⟩) (by rw [Writing.left, if_pos hstep, hx])
  · refine protect_failed h hproc hc hw hroom (.inr hstep) ?_
    rw [Writing.left, if_neg (by rw [hstep]; nofun), hx]
    cases erased <;> rfl

end Sys2Proof.Proofs


/-! # The commits of the circuit table's requests -/

namespace Sys2Proof.Machine

section
variable {s t u v : State} {w : Writing} {agrees erased ok : Bool} {tag code : U8} {id : Nat} {d : Definition} {kind : DefineKind}

/-! ## A definition put in place and taken out -/

theorem State.putDefinition_circuit (s : State) (id : Nat) (d : Definition) (kind : DefineKind) (c : Nat) :
    (s.putDefinition id d kind).circuit c =
      if c = id then (s.circuit id).redefined d kind (s.windowsOver d.spans) else s.circuit c := by
  obtain ⟨cm, si, e⟩ := s.unindexOld_eq id d.code (s.circuit id).definition
  unfold State.putDefinition
  dsimp only
  rw [e]
  by_cases hc : c = id
  · subst hc
    rw [if_pos rfl]
    exact State.circuit_setCircuit_self ..
  · rw [if_neg hc]
    exact State.circuit_setCircuit_other _ hc _

/-- The old code leaves the marker-code map, unless it is the new one. -/
theorem State.unindexOld_codeOwner (s : State) (id code : Nat) (old : Option Definition) {code' : Nat} (h : code' ≠ code) :
    (s.unindexOld id code old).codeOwner code' = if old.map (·.code) = some code' then none else s.codeOwner code' := by
  cases old with
  | none => rfl
  | some old =>
    unfold State.unindexOld
    dsimp only
    by_cases hsame : old.code = code
    · rw [if_pos hsame, if_neg (by simpa [hsame] using h.symm)]
      rfl
    · rw [if_neg hsame]
      by_cases hold : old.code = code'
      · subst hold
        exact (codeOwner_disownCode_self _).trans (if_pos rfl).symm
      · rw [codeOwner_disownCode_other (Ne.symm hold), if_neg (by simpa using hold)]
        rfl

theorem State.putDefinition_codeOwner (s : State) (id : Nat) (d : Definition) (kind : DefineKind) (code : Nat) :
    (s.putDefinition id d kind).codeOwner code =
      if code = d.code then some id
      else if (s.circuit id).definition.map (·.code) = some code then none else s.codeOwner code := by
  by_cases hcode : code = d.code
  · subst hcode
    rw [if_pos rfl]
    exact codeOwner_ownCode_self ..
  · rw [if_neg hcode, ← State.unindexOld_codeOwner s id d.code _ hcode]
    exact codeOwner_ownCode_other hcode _

/-- The old definition's spans leave the span index. -/
theorem State.mem_crossing_unindexOld {c p code : Nat} {old : Option Definition} :
    c ∈ (s.unindexOld id code old).crossing p ↔ c ∈ s.crossing p ∧ ¬(c = id ∧ ∃ o, old = some o ∧ p ∈ o.spans) := by
  cases old with
  | none => exact ⟨fun h => ⟨h, by simp⟩, And.left⟩
  | some old =>
    have hdrop : (s.unindexOld id code (some old)).crossing p = (s.unindexSpans id old.spans).crossing p := by
      unfold State.unindexOld
      dsimp only
      split <;> rfl
    rw [hdrop, mem_crossing_unindexSpans]
    simp

/-- With an exact span index only the new spans hold the circuit afterwards. -/
theorem State.mem_crossing_putDefinition (h : s.spansExact) {c p : Nat} :
    c ∈ (s.putDefinition id d kind).crossing p ↔ if c = id then p ∈ d.spans else c ∈ s.crossing p := by
  have hput : c ∈ (s.putDefinition id d kind).crossing p ↔
      c ∈ (s.unindexOld id d.code (s.circuit id).definition).crossing p ∨ c = id ∧ p ∈ d.spans := mem_crossing_indexSpans ..
  rw [hput, State.mem_crossing_unindexOld, h p c]
  by_cases hc : c = id
  · subst hc
    rw [if_pos rfl]
    exact ⟨fun hor => hor.elim (fun hin => absurd ⟨rfl, hin.1⟩ hin.2) And.right, fun hp => .inr ⟨rfl, hp⟩⟩
  · rw [if_neg hc]
    simp [hc]

theorem State.spansAscending_putDefinition (h : s.spansAscending = true) :
    (s.putDefinition id d kind).spansAscending = true := by
  refine spansAscending_indexSpans ?_ id d.spans
  show (s.unindexOld id d.code (s.circuit id).definition).spansAscending = true
  cases (s.circuit id).definition with
  | none => exact h
  | some old =>
    unfold State.unindexOld
    dsimp only
    split <;> exact spansAscending_unindexSpans h id old.spans

theorem State.emptySlot_circuit (s : State) (id c : Nat) :
    (s.emptySlot id).circuit c = if c = id then {} else s.circuit c := by
  unfold State.emptySlot
  by_cases hc : c = id
  · subst hc
    rw [if_pos rfl]
    exact State.circuit_setCircuit_self ..
  · rw [if_neg hc]
    refine (State.circuit_setCircuit_other _ hc _).trans ?_
    cases (s.circuit id).definition <;> rfl

theorem State.emptySlot_codeOwner (s : State) (id code : Nat) :
    (s.emptySlot id).codeOwner code =
      if (s.circuit id).definition.map (·.code) = some code then none else s.codeOwner code := by
  unfold State.emptySlot
  cases (s.circuit id).definition with
  | none => rfl
  | some d =>
    by_cases hcode : code = d.code
    · subst hcode
      exact (codeOwner_disownCode_self _).trans (if_pos rfl).symm
    · rw [if_neg (by simpa using Ne.symm hcode)]
      exact codeOwner_disownCode_other hcode

theorem State.mem_crossing_emptySlot (h : s.spansExact) {c p : Nat} :
    c ∈ (s.emptySlot id).crossing p ↔ c ≠ id ∧ c ∈ s.crossing p := by
  have hid := h p id
  unfold State.emptySlot
  cases hd : (s.circuit id).definition with
  | none =>
    have hout : id ∉ s.crossing p := fun hin => by simpa [hd] using hid.mp hin
    exact ⟨fun hin => ⟨fun hc => hout (hc ▸ hin), hin⟩, And.right⟩
  | some d =>
    have hdrop : c ∈ (s.unindexSpans id d.spans).crossing p ↔ _ := mem_crossing_unindexSpans d.spans
    refine hdrop.trans ?_
    by_cases hc : c = id
    · subst hc
      simp [hid, hd]
    · simp [hc]

theorem State.spansAscending_emptySlot (h : s.spansAscending = true) : (s.emptySlot id).spansAscending = true := by
  unfold State.emptySlot
  cases (s.circuit id).definition with
  | none => exact h
  | some d => exact spansAscending_unindexSpans h id d.spans

/-! ## The end of a change -/

/-- Without a campaign the end of a change clears its mark alone. -/
theorem State.endChange_idle (h : s.campaign.state = .idle) (c : Nat) :
    s.endChange c = s.setCircuit c { s.circuit c with changing := false } := by
  have hnone : ∀ t : State, t.campaign = s.campaign → t.namedUnprocessed c = false := fun t ht => by
    simp [State.namedUnprocessed, ht, h]
  unfold State.endChange
  dsimp only
  have hmarked := hnone (s.modifyCircuit c fun r => { r with changing := false }) rfl
  rw [State.reachUndefined_processed hmarked, hmarked]
  rfl

/-- A record that is set before its mark is cleared is set once. -/
theorem State.endChange_setCircuit (h : s.campaign.state = .idle) (c : Nat) (r : Circuit) :
    (s.setCircuit c r).endChange c = s.setCircuit c { r with changing := false } := by
  rw [State.endChange_idle (by exact h), State.circuit_setCircuit_self]
  by_cases hr : r = {}
  · subst hr
    show (s.setCircuit c {}).setCircuit c {} = s.setCircuit c {}
    unfold State.setCircuit
    simp [tableWrite, tableErase]
  · exact State.setCircuit_setCircuit _ hr

theorem State.endChange_circuit (h : s.campaign.state = .idle) (id c : Nat) :
    (s.endChange id).circuit c = if c = id then { s.circuit id with changing := false } else s.circuit c := by
  rw [State.endChange_idle h]
  by_cases hc : c = id
  · subst hc
    rw [if_pos rfl, State.circuit_setCircuit_self]
  · rw [if_neg hc, State.circuit_setCircuit_other _ hc]

/-! ## Requests whose commit has concluded -/

/-- The commit of a request that ends with a short answer, where only the table, its indexes, the slots and the permit
change. -/
theorem State.exec_table_answers {op : StoreOp} {status : Status} {body : ReplyBody} (h : s.calm = true)
    (hend : s.endWrite agrees erased = u.concludeCommit ok) (hc : u.commits = [⟨op, .processor⟩])
    (hjob : State.continueJob { u with commits := [], writing := none } ok = t.answer tag code status body)
    (hshort : body.isLong = false) (hroom : s.replies.length < 8) (hcommits : t.commits = [])
    (hlooks : t.looks = s.looks) (hlanes : t.lanes = s.lanes) (hframes : t.frames = s.frames) (hphase : t.phase = s.phase)
    (hsent : t.restartReplySent = s.restartReplySent) :
    exec (.storeWriteDone agrees erased) s = .next (State.replied { t with processor := .free } tag code status body) := by
  obtain ⟨-, -, -, -, -, -, -, hrest, -⟩ := s.calm_iff.mp h
  have hempty : t.looks = [] := hlooks.trans (State.looks_of_atRest hrest)
  have hrun := State.exec_commit_answers h hend hc hjob hshort hroom hcommits
    (State.noWork_of_atRest ((State.atRest_congr hlooks hlanes).trans hrest)) hframes hphase hsent
  rw [← hempty] at hrun
  exact hrun

theorem State.continueJob_define {clamped second : Bool} (h : s.processor = .committing tag (.define id d kind clamped second)) :
    s.continueJob ok = s.continueDefine tag id d kind clamped second ok := by
  unfold State.continueJob
  rw [h]

theorem State.continueJob_delete {uses second : Bool} (h : s.processor = .committing tag (.delete id uses second)) :
    s.continueJob ok = s.continueDelete tag id uses second ok := by
  unfold State.continueJob
  rw [h]

theorem State.continueJob_clear (h : s.processor = .committing tag (.clearBaseline id)) :
    s.continueJob ok = s.continueClear tag id ok := by
  unfold State.continueJob
  rw [h]

/-- A DEFINE_CIRCUIT that needs no further commit puts its definition in place. -/
theorem State.continueDefine_done {clamped second : Bool} (h : (!second && s.needsErase id kind) = false) :
    s.continueDefine tag id d kind clamped second true =
      (((s.spendIf (kind == .discarding)).putDefinition id d kind).endChange id).answer tag 0x20
        (if clamped then .adjusted else .ok) (if clamped then .override d.override else .none) := by
  unfold State.continueDefine
  rw [Bool.true_and, h]
  cases clamped <;> rfl

/-- Its second commit follows where a baseline slot is to be erased. -/
theorem State.continueDefine_erases {clamped : Bool} (h : s.needsErase id kind = true) :
    s.continueDefine tag id d kind clamped false true =
      State.handCommit { s with processor := .committing tag (.define id d kind clamped true) } (.eraseBaseline id)
        .processor := by
  unfold State.continueDefine
  rw [h]
  rfl

end

/-- What a DEFINE_CIRCUIT leaves in the table and the indexes of `s`, as `t` holds them. -/
structure Redefined (s t : State) (id : Nat) (d : Definition) (kind : DefineKind) : Prop where
  circuit : ∀ c, t.circuit c =
    if c = id then { (s.circuit id).redefined d kind (s.windowsOver d.spans) with changing := false } else s.circuit c
  codeOwner : ∀ code, t.codeOwner code =
    if code = d.code then some id
    else if (s.circuit id).definition.map (·.code) = some code then none else s.codeOwner code
  crossing : ∀ p c, c ∈ t.crossing p ↔ if c = id then p ∈ d.spans else c ∈ s.crossing p
  ascending : s.spansAscending = true → t.spansAscending = true

/-- The definition put in place, and the change ended. -/
theorem redefined_putDefinition {v : State} (hidle : v.campaign.state = .idle) (hspans : v.spansExact) (id : Nat)
    (d : Definition) (kind : DefineKind) :
    ∃ cs cm si, (v.putDefinition id d kind).endChange id = { v with circuits := cs, codeMap := cm, spanIndex := si } ∧
      Redefined v { v with circuits := cs, codeMap := cm, spanIndex := si } id d kind := by
  obtain ⟨cs, cm, si, e⟩ := v.putDefinition_eq id d kind
  have hidle' : (v.putDefinition id d kind).campaign.state = .idle := by rw [e]; exact hidle
  have hend := State.endChange_idle hidle' id
  have heq : (v.putDefinition id d kind).endChange id =
      { v with
        circuits := ((v.putDefinition id d kind).endChange id).circuits, codeMap := cm, spanIndex := si } := by
    rw [hend, e]
    rfl
  have hcm : (v.putDefinition id d kind).codeMap = cm := by rw [e]
  have hsi : (v.putDefinition id d kind).spanIndex = si := by rw [e]
  refine ⟨_, cm, si, heq, fun c => ?_, fun code => ?_, fun p c => ?_, fun h => ?_⟩
  · have hc := State.endChange_circuit hidle' id c
    rw [State.putDefinition_circuit, State.putDefinition_circuit, if_pos rfl] at hc
    refine Eq.trans ?_ (hc.trans ?_)
    · rfl
    · by_cases hcid : c = id
      · rw [if_pos hcid, if_pos hcid]
      · rw [if_neg hcid, if_neg hcid, if_neg hcid]
  · rw [← State.putDefinition_codeOwner (kind := kind)]
    exact congrArg (fun m => tableGet m code) hcm.symm
  · rw [← State.mem_crossing_putDefinition (kind := kind) hspans]
    exact (congrArg (fun m => c ∈ tableRead [] m p) hsi.symm).to_iff
  · rw [spansAscending_iff]
    have hput := (spansAscending_iff _).mp (State.spansAscending_putDefinition (id := id) (d := d) (kind := kind) h)
    rwa [hsi] at hput

/-- What a DELETE_CIRCUIT leaves in the table and the indexes of `s`, as `t` holds them. -/
structure Emptied (s t : State) (id : Nat) : Prop where
  circuit : ∀ c, t.circuit c = if c = id then {} else s.circuit c
  codeOwner : ∀ code, t.codeOwner code =
    if (s.circuit id).definition.map (·.code) = some code then none else s.codeOwner code
  crossing : ∀ p c, c ∈ t.crossing p ↔ c ≠ id ∧ c ∈ s.crossing p
  ascending : s.spansAscending = true → t.spansAscending = true

/-- The slot emptied, and the change ended. -/
theorem emptied_emptySlot {v : State} (hidle : v.campaign.state = .idle) (hspans : v.spansExact) (id : Nat) :
    ∃ cs cm si, (v.emptySlot id).endChange id = { v with circuits := cs, codeMap := cm, spanIndex := si } ∧
      Emptied v { v with circuits := cs, codeMap := cm, spanIndex := si } id := by
  obtain ⟨cs, cm, si, e⟩ := v.emptySlot_eq id
  have hidle' : (v.emptySlot id).campaign.state = .idle := by rw [e]; exact hidle
  have hend := State.endChange_idle hidle' id
  have heq : (v.emptySlot id).endChange id =
      { v with circuits := ((v.emptySlot id).endChange id).circuits, codeMap := cm, spanIndex := si } := by
    rw [hend, e]
    rfl
  have hcm : (v.emptySlot id).codeMap = cm := by rw [e]
  have hsi : (v.emptySlot id).spanIndex = si := by rw [e]
  refine ⟨_, cm, si, heq, fun c => ?_, fun code => ?_, fun p c => ?_, fun h => ?_⟩
  · have hc := State.endChange_circuit hidle' id c
    rw [State.emptySlot_circuit, State.emptySlot_circuit, if_pos rfl] at hc
    refine Eq.trans ?_ (hc.trans ?_)
    · rfl
    · by_cases hcid : c = id
      · rw [if_pos hcid, if_pos hcid]
      · rw [if_neg hcid, if_neg hcid]
  · rw [← State.emptySlot_codeOwner]
    exact congrArg (fun m => tableGet m code) hcm.symm
  · rw [← State.mem_crossing_emptySlot hspans]
    exact (congrArg (fun m => c ∈ tableRead [] m p) hsi.symm).to_iff
  · rw [spansAscending_iff]
    have hput := (spansAscending_iff _).mp (State.spansAscending_emptySlot (id := id) h)
    rwa [hsi] at hput

end Sys2Proof.Machine


/-! # How DEFINE_CIRCUIT, DELETE_CIRCUIT and CLEAR_BASELINE end -/

namespace Sys2Proof.Machine

section
variable {s : State} {w : Writing} {agrees erased : Bool} {tag code : U8} {id : Nat} {d : Definition} {kind : DefineKind}
  {op : StoreOp} {ds : Table (Slot Definition)} {bs : Table (Slot Baseline)}

/-- The last commit of a DEFINE_CIRCUIT puts the definition in place. -/
theorem State.defined {clamped second : Bool} (h : s.calm = true)
    (hproc : s.processor = .committing tag (.define id d kind clamped second)) (hc : s.commits = [⟨op, .processor⟩])
    (hw : s.writing = some w) (hstep : w.step = .write ∨ w.step = .rewrite) (hroom : s.replies.length < 8)
    (hidle : s.campaign.state = .idle) (hspans : s.spansExact) (hlast : (!second && s.needsErase id kind) = false)
    (hslots : s.putSlot op.written = { s with defSlots := ds, baseSlots := bs }) :
    ∃ cs cm si,
      exec (.storeWriteDone true erased) s =
        .next
          (State.replied
            { s with
              processor := .free, commits := [], writing := none, permit := s.permit && !(kind == .discarding)
              defSlots := ds, baseSlots := bs, circuits := cs, codeMap := cm, spanIndex := si }
            tag 0x20 (if clamped then .adjusted else .ok) (if clamped then .override d.override else .none)) ∧
        Redefined s { s with circuits := cs, codeMap := cm, spanIndex := si } id d kind := by
  let v : State := { s with
    defSlots := ds, baseSlots := bs, commits := [], writing := none, permit := s.permit && !(kind == .discarding) }
  obtain ⟨cs, cm, si, heq, heffects⟩ := redefined_putDefinition (v := v) hidle hspans id d kind
  refine ⟨cs, cm, si, ?_, heffects.circuit, heffects.codeOwner, heffects.crossing, heffects.ascending⟩
  have hend := State.endWrite_agreed (erased := erased) hw hc hstep
  rw [hslots] at hend
  have hjob : State.continueJob
      { ({ s with defSlots := ds, baseSlots := bs } : State) with commits := [], writing := none } true =
      State.answer { v with circuits := cs, codeMap := cm, spanIndex := si } tag 0x20
        (if clamped then .adjusted else .ok) (if clamped then .override d.override else .none) := by
    rw [State.continueJob_define (by exact hproc), State.continueDefine_done (by exact hlast), State.spendIf_eq, ← heq]
  exact State.exec_table_answers h hend hc hjob (by cases clamped <;> rfl) hroom rfl rfl rfl rfl rfl rfl

/-- A commit that fails ends its request, whose circuit stays as it was. -/
theorem State.commit_failed {job : Job} {uses : Bool} (h : s.calm = true) (hproc : s.processor = .committing tag job)
    (hc : s.commits = [⟨op, .processor⟩]) (hw : s.writing = some w)
    (hstep : agrees = true ∧ w.step = .restore ∨ w.step = .eraseCheck) (hroom : s.replies.length < 8)
    (hidle : s.campaign.state = .idle) (hslots : s.putSlot (w.left erased) = { s with defSlots := ds, baseSlots := bs })
    (hjob : ∀ v : State, v.processor = .committing tag job →
      v.continueJob false = ((v.spendIf uses).endChange id).answer tag code .storeFault .none) :
    exec (.storeWriteDone agrees erased) s =
      .next
        (State.replied
          { s.setCircuit id { s.circuit id with changing := false } with
            processor := .free, commits := [], writing := none, permit := s.permit && !uses
            defSlots := ds, baseSlots := bs }
          tag code .storeFault .none) := by
  let v : State := { s with
    defSlots := ds, baseSlots := bs, commits := [], writing := none, permit := s.permit && !uses }
  have hend := State.endWrite_failed (agrees := agrees) (erased := erased) hw hc hstep
  rw [hslots] at hend
  have hv : State.continueJob
      { ({ s with defSlots := ds, baseSlots := bs } : State) with commits := [], writing := none } false =
      (v.setCircuit id { v.circuit id with changing := false }).answer tag code .storeFault .none := by
    rw [hjob _ (by exact hproc), State.spendIf_eq]
    exact congrArg (fun t => State.answer t tag code .storeFault .none) (State.endChange_idle (s := v) hidle id)
  exact State.exec_table_answers h hend hc hv rfl hroom rfl rfl rfl rfl rfl rfl

/-- The failed commit of a DEFINE_CIRCUIT, a DELETE_CIRCUIT or a CLEAR_BASELINE. -/
theorem State.continueJob_failed {v : State} {job : Job} {uses : Bool} {clamped second : Bool}
    (hjob : job = .define id d kind clamped second ∧ uses = (kind == .discarding) ∧ code = 0x20 ∨
      job = .delete id uses second ∧ code = 0x21 ∨ job = .clearBaseline id ∧ uses = true ∧ code = 0x22)
    (hproc : v.processor = .committing tag job) :
    v.continueJob false = ((v.spendIf uses).endChange id).answer tag code .storeFault .none := by
  obtain ⟨rfl, rfl, rfl⟩ | ⟨rfl, rfl⟩ | ⟨rfl, rfl, rfl⟩ := hjob
  · rw [State.continueJob_define hproc]
    rfl
  · rw [State.continueJob_delete hproc]
    rfl
  · rw [State.continueJob_clear hproc]
    rfl

/-- A DELETE_CIRCUIT erases its definition slot after its baseline slot. -/
theorem State.continueDelete_erases (v : State) (tag : U8) (id : Nat) (uses : Bool) :
    v.continueDelete tag id uses false true =
      State.handCommit { v with processor := .committing tag (.delete id uses true) } (.eraseDefinition id) .processor := rfl

/-- A request's next commit begins as its first has concluded. -/
theorem State.endWrite_next {u v : State} {next : StoreOp} (hend : s.endWrite agrees erased = u.concludeCommit true)
    (hc : u.commits = [⟨op, .processor⟩])
    (hjob : State.continueJob { u with commits := [], writing := none } true = v.handCommit next .processor)
    (hcommits : v.commits = []) (hwriting : v.writing = none) (hr : v.restartTaken = false) :
    s.endWrite agrees erased =
      { State.putSlot { v with commits := [⟨next, .processor⟩] } ((v.readSlot next).withCells true) with
        writing := some ⟨.write, v.readSlot next⟩ } := by
  have hbegin : ∀ t : State, t.writing ≠ none → t.beginCommit = t := fun t ht => by
    unfold State.beginCommit
    split
    · exact absurd ‹_› ht
    · rfl
  rw [hend, State.concludeCommit_request hc, hjob, State.handCommit_first hcommits hwriting hr]
  exact hbegin _ nofun

end

end Sys2Proof.Machine

namespace Sys2Proof.Proofs

open Sys2Proof.Machine

/-- Settles O45: the definition put in place, the slot emptied, the baseline cleared, or the old state kept. -/
theorem commitsTakeEffect : Obligations.CommitsTakeEffect := by
  refine ⟨?_, ?_, ?_, ?_, ?_, ?_, ?_, ?_⟩
  · intro s erased w tag id d kind clamped second holds h hproc hc hw hstep hroom hidle hsecond hkind hnew hspans
    subst hsecond
    have hlast : s.needsErase id kind = false := by
      unfold State.needsErase
      cases kind with
      | discarding => exact absurd rfl hkind
      | new => simpa using hnew rfl
      | overrideOnly | noBaseline => rfl
    obtain ⟨cs, cm, si, hrun, heffects⟩ :=
      State.defined (erased := erased) h hproc hc hw hstep hroom hidle hspans hlast rfl
    have hpermit : (s.permit && !(kind == .discarding)) = s.permit := by
      cases kind with
      | discarding => exact absurd rfl hkind
      | new | overrideOnly | noBaseline => exact Bool.and_true _
    rw [hpermit] at hrun
    refine ⟨_, hrun, rfl, fun c => (heffects.circuit c).trans ?_, heffects.codeOwner, heffects.crossing, heffects.ascending⟩
    cases kind <;> rfl
  · intro s erased w tag id d kind clamped h hproc hkind hc hw hstep
    obtain ⟨-, hr, -, -, -, -, -, -, -⟩ := s.calm_iff.mp h
    have hneeds : s.needsErase id kind = true := by
      unfold State.needsErase
      obtain rfl | ⟨rfl, hunreadable⟩ := hkind
      · rfl
      · simp [hunreadable]
    have hend := State.endWrite_next (State.endWrite_agreed (erased := erased) hw hc hstep) hc
      ((State.continueJob_define (by exact hproc)).trans (State.continueDefine_erases (by exact hneeds))) rfl rfl hr
    exact State.exec_endWrite h hend rfl rfl rfl
  · intro s erased w tag id uses h hproc hc hw hstep
    obtain ⟨-, hr, -, -, -, -, -, -, -⟩ := s.calm_iff.mp h
    have hend := State.endWrite_next (State.endWrite_agreed (erased := erased) hw hc hstep) hc
      ((State.continueJob_delete (by exact hproc)).trans (State.continueDelete_erases ..)) rfl rfl hr
    exact State.exec_endWrite h hend rfl rfl rfl
  · intro s erased w tag id uses h hproc hc hw hstep hroom hidle hspans
    let v : State := { s with
      defSlots := tableWrite .erased s.defSlots id .erased, commits := [], writing := none, permit := s.permit && !uses }
    obtain ⟨cs, cm, si, heq, heffects⟩ := emptied_emptySlot (v := v) hidle hspans id
    have hjob : State.continueJob
        { s.putSlot (StoreOp.eraseDefinition id).written with commits := [], writing := none } true =
        State.answer { v with circuits := cs, codeMap := cm, spanIndex := si } tag 0x21 .ok .none := by
      rw [State.continueJob_delete (by exact hproc), ← heq]
      unfold State.continueDelete
      rw [State.spendIf_eq]
      rfl
    have hrun := State.exec_table_answers h (State.endWrite_agreed (erased := erased) hw hc hstep) hc hjob rfl hroom rfl rfl
      rfl rfl rfl rfl
    exact ⟨_, hrun, rfl, heffects.circuit, heffects.codeOwner, heffects.crossing, heffects.ascending⟩
  · intro s erased w tag id h hproc hc hw hstep hroom hidle
    let v : State := { s with
      baseSlots := tableWrite .erased s.baseSlots id .erased, commits := [], writing := none, permit := false }
    have hjob : State.continueJob
        { s.putSlot (StoreOp.eraseBaseline id).written with commits := [], writing := none } true =
        (v.setCircuit id { v.circuit id with baseline := none, changing := false }).answer tag 0x22 .ok .none :=
      (State.continueJob_clear (by exact hproc)).trans
        (congrArg (fun t => State.answer t tag 0x22 .ok .none) (State.endChange_setCircuit (s := v) hidle id _))
    exact State.exec_table_answers h (State.endWrite_agreed (erased := erased) hw hc hstep) hc hjob rfl hroom rfl rfl rfl
      rfl rfl rfl
  · intro s erased w tag id d kind clamped holds h hproc hkind hc hw hstep hroom hidle hspans
    obtain ⟨cs, cm, si, hrun, heffects⟩ :=
      State.defined (erased := erased) h hproc hc hw hstep hroom hidle hspans rfl rfl
    have hpermit : (!(kind == .discarding)) = decide (kind ≠ .discarding) := by cases kind <;> rfl
    rw [hpermit] at hrun
    refine ⟨_, hrun, rfl, fun c => (heffects.circuit c).trans ?_, heffects.codeOwner, heffects.crossing, heffects.ascending⟩
    obtain rfl | rfl := hkind <;> rfl
  · intro s agrees erased w tag code job op id uses d kind clamped x h hproc hc hw hstep hroom hidle hx hjob
    have hleft : s.putSlot (w.left erased) = { s with
        defSlots := tableWrite .erased s.defSlots id
          (if w.step = .restore then x else if erased then .erased else .damaged) } := by
      unfold Writing.left
      rw [hx]
      split
      · rfl
      · cases erased <;> rfl
    obtain ⟨hdefine, huses, hcode⟩ | hdelete := hjob
    · exact State.commit_failed h hproc hc hw hstep hroom hidle hleft fun v =>
        State.continueJob_failed (.inl ⟨hdefine, huses, hcode⟩)
    · exact State.commit_failed h hproc hc hw hstep hroom hidle hleft fun v =>
        State.continueJob_failed (d := d) (kind := kind) (clamped := clamped) (.inr (.inl hdelete))
  · intro s agrees erased w tag code job op id uses d kind clamped x h hproc hc hw hstep hroom hidle hx hjob
    have hleft : s.putSlot (w.left erased) = { s with
        baseSlots := tableWrite .erased s.baseSlots id
          (if w.step = .restore then x else if erased then .erased else .damaged) } := by
      unfold Writing.left
      rw [hx]
      split
      · rfl
      · cases erased <;> rfl
    obtain ⟨hdefine, huses, hcode⟩ | hother := hjob
    · exact State.commit_failed h hproc hc hw hstep hroom hidle hleft fun v =>
        State.continueJob_failed (.inl ⟨hdefine, huses, hcode⟩)
    · exact State.commit_failed h hproc hc hw hstep hroom hidle hleft fun v =>
        State.continueJob_failed (d := d) (kind := kind) (clamped := clamped) (.inr hother)

end Sys2Proof.Proofs


/-! # The end of a capture's commit -/

namespace Sys2Proof.Machine

section
variable {s : State} {c : Nat} {b : Baseline} {r : CaptureResult} {ok : Bool}

/-! ## The circuit settles -/

/-- The entry that a circuit owes once its commit phase has ended (R10). -/
def Circuit.owed (r : Circuit) (c : Nat) : List QueueEntry :=
  if 0 < r.holds then []
  else
    match r.releaseOwed with
    | some .windowClose => [⟨c, .windowClose, none, false, false⟩]
    | some .windowExpiry => [⟨c, .windowExpiry, none, true, false⟩]
    | none => if r.disturbed then [⟨c, .sense, none, false, false⟩] else []

/-- The record of a circuit whose commit phase has ended. -/
def Circuit.settled (r : Circuit) : Circuit :=
  { r with
    releaseOwed := none, disturbed := false
    state := if 0 < r.holds then .held else if r.releaseOwed.isSome ∨ r.disturbed = true then .pending else .idle }

/-- A state that another differs from in the table, the looks and one circuit's record alone. -/
theorem State.setCircuitState_settled {t : State} {c : Nat} {r : Circuit} {st : CircuitState}
    (ht : t.circuits = (s.setCircuit c r).circuits) (k : Nat) :
    (t.setCircuitState c st).circuit k = if k = c then { r with state := st } else s.circuit k := by
  have hsame : ∀ j, t.circuit j = (s.setCircuit c r).circuit j := fun j => by unfold State.circuit; rw [ht]
  unfold State.setCircuitState
  by_cases hk : k = c
  · subst hk
    rw [if_pos rfl, State.circuit_modifyCircuit_self, hsame, State.circuit_setCircuit_self]
  · rw [if_neg hk, State.circuit_modifyCircuit_other _ hk, hsame, State.circuit_setCircuit_other _ hk]

/-- A circuit whose commit phase has ended is settled, and its entry appended where it owes one. -/
theorem State.settleCommit_eq (s : State) (c : Nat) :
    ∃ cs ls, s.settleCommit c = { s with circuits := cs, queue := s.queue ++ (s.circuit c).owed c, looks := ls } ∧
      ∀ k, tableRead {} cs k = if k = c then (s.circuit c).settled else s.circuit k := by
  let r := s.circuit c
  let t := s.setCircuit c { r with releaseOwed := none, disturbed := false }
  have happend : ∀ e : QueueEntry, e.circuit = c → r.owed c = [e] →
      r.settled = { r with releaseOwed := none, disturbed := false, state := .pending } →
      ∃ cs ls, t.appendEntry e = { s with circuits := cs, queue := s.queue ++ r.owed c, looks := ls } ∧
        ∀ k, tableRead {} cs k = if k = c then r.settled else s.circuit k := by
    intro e he howed hsettled
    obtain ⟨ls, hls⟩ := State.lookAtCircuit_eq (State.setCircuitState { t with queue := t.queue ++ [e] } e.circuit .pending) e.circuit
    refine ⟨(State.setCircuitState { t with queue := t.queue ++ [e] } e.circuit .pending).circuits, ls, hls.trans ?_,
      fun k => ?_⟩
    · rw [howed]
      rfl
    · rw [hsettled, he]
      exact State.setCircuitState_settled (s := s) rfl k
  have hunfold : s.settleCommit c = if 0 < r.holds then t.setCircuitState c .held else
      match r.releaseOwed with
      | some .windowClose => t.appendEntry ⟨c, .windowClose, none, false, false⟩
      | some .windowExpiry => t.appendEntry ⟨c, .windowExpiry, none, true, false⟩
      | none => if r.disturbed then t.appendEntry (plainEntry c .sense) else t.makeIdle c := rfl
  rw [hunfold]
  by_cases hholds : 0 < r.holds
  · rw [if_pos hholds]
    have howed : r.owed c = [] := if_pos hholds
    refine ⟨(t.setCircuitState c .held).circuits, s.looks, ?_, fun k => ?_⟩
    · show _ = { s with circuits := _, queue := s.queue ++ r.owed c, looks := _ }
      rw [howed, List.append_nil]
      rfl
    · refine (State.setCircuitState_settled (s := s) rfl k).trans ?_
      unfold Circuit.settled
      rw [if_pos hholds]
  rw [if_neg hholds]
  have hpending : r.releaseOwed.isSome ∨ r.disturbed = true →
      r.settled = { r with releaseOwed := none, disturbed := false, state := .pending } := fun h => by
    unfold Circuit.settled
    rw [if_neg hholds, if_pos h]
  cases howed : r.releaseOwed with
  | some cause =>
    cases cause with
    | windowClose =>
      exact happend _ rfl (by unfold Circuit.owed; rw [if_neg hholds, howed]) (hpending (.inl (by rw [howed]; rfl)))
    | windowExpiry =>
      exact happend _ rfl (by unfold Circuit.owed; rw [if_neg hholds, howed]) (hpending (.inl (by rw [howed]; rfl)))
  | none =>
    dsimp only
    by_cases hdisturbed : r.disturbed = true
    · rw [if_pos hdisturbed]
      refine happend _ rfl ?_ (hpending (.inr hdisturbed))
      unfold Circuit.owed
      rw [if_neg hholds, howed]
      exact if_pos hdisturbed
    · rw [if_neg hdisturbed]
      have hnone : r.owed c = [] := by
        unfold Circuit.owed
        rw [if_neg hholds, howed]
        exact if_neg hdisturbed
      have hidle : r.settled = { r with releaseOwed := none, disturbed := false, state := .idle } := by
        unfold Circuit.settled
        rw [if_neg hholds, if_neg (by simp [howed, hdisturbed])]
      have hmake : ∃ ls, t.makeIdle c = { t.setCircuitState c .idle with looks := ls } := by
        unfold State.makeIdle
        dsimp only
        split
        · exact State.lookAtCircuit_eq _ _
        · exact ⟨_, rfl⟩
      obtain ⟨ls, hls⟩ := hmake
      refine ⟨(t.setCircuitState c .idle).circuits, ls, ?_, fun k => ?_⟩
      · show _ = { s with circuits := _, queue := s.queue ++ r.owed c, looks := _ }
        rw [hnone, List.append_nil]
        exact hls
      · refine (State.setCircuitState_settled (s := s) rfl k).trans ?_
        show _ = if k = c then r.settled else s.circuit k
        rw [hidle]

theorem State.lookIfBelow_eq (s : State) (n : Nat) : ∃ ls, s.lookIfBelow n = { s with looks := ls } := by
  unfold State.lookIfBelow
  split
  · exact s.lookAtAll_eq
  · exact ⟨_, rfl⟩

/-! ## The entry ends -/

/-- A campaign that goes on after the entry of circuit `c` has gained a result (R123, R134, R135). -/
def Campaign.goesOn (k : Campaign) (c : Nat) (r : CaptureResult) : Campaign :=
  Campaign.followReasons
    { k.restatus c (.finished r) with
      progressOwed := false, deferredSuspend := false, host := k.host || k.deferredSuspend }

/-- An entry's result, in a campaign with another entry unfinished. -/
theorem State.finishEntry_goesOn (hgoes : ∃ x ∈ s.campaign.entries, x.circuit ≠ c ∧ x.status.isFinished = false) :
    s.finishEntry c r = { s with campaign := s.campaign.goesOn c r } := by
  let k : Campaign := { s.campaign.restatus c (.finished r) with progressOwed := false }
  have hgoing : k.allFinished = false := by
    obtain ⟨x, hx, hne, hopen⟩ := hgoes
    refine List.all_eq_false.mpr ⟨x, List.mem_map.mpr ⟨x, hx, if_neg hne⟩, by simp [hopen]⟩
  have hfinish : s.finishEntry c r = if k.allFinished then State.endCampaign { s with campaign := k }
      else if k.deferredSuspend then { s with campaign := Campaign.addHost { k with deferredSuspend := false } }
      else { s with campaign := k.followReasons } := rfl
  rw [hfinish, hgoing, if_neg (by simp)]
  unfold Campaign.goesOn Campaign.addHost
  have hdeferred : k.deferredSuspend = s.campaign.deferredSuspend := rfl
  rw [hdeferred]
  cases hd : s.campaign.deferredSuspend with
  | true => simp [k]
  | false =>
    have hk : k = { k with deferredSuspend := false } :=
      congrArg (fun v => ({ k with deferredSuspend := v } : Campaign)) (hdeferred.trans hd)
    rw [if_neg (by simp), Bool.or_false]
    exact congrArg (fun v : Campaign => ({ s with campaign := v.followReasons } : State)) hk

/-- The last entry's result ends the campaign with its notice, in the reservation made for it (R138). -/
theorem State.finishEntry_last (hall : ∀ e ∈ s.campaign.entries, e.circuit ≠ c → e.status.isFinished = true)
    (hreserved : 1 ≤ s.reserved.captureDone) :
    s.finishEntry c r =
      { s with
        campaign :=
          { s.campaign.restatus c (.finished r) with
            state := .idle, host := false, window := false, progressOwed := false, deferredSuspend := false }
        reserved := { s.reserved with captureDone := s.reserved.captureDone - 1 }
        notices := s.notices ++
          [.captureDone (s.campaign.restatus c (.finished r)).entries.length (s.campaign.restatus c (.finished r)).resultCounts
            s.campaign.cancelled s.clock] } := by
  let k : Campaign := { s.campaign.restatus c (.finished r) with progressOwed := false }
  have hdone : k.allFinished = true := by
    refine List.all_eq_true.mpr fun e he => ?_
    obtain ⟨x, hx, rfl⟩ := List.mem_map.mp he
    by_cases hxc : x.circuit = c
    · rw [if_pos hxc]
      rfl
    · rw [if_neg hxc]
      exact hall x hx hxc
  have hfinish : s.finishEntry c r = if k.allFinished then State.endCampaign { s with campaign := k }
      else if k.deferredSuspend then { s with campaign := Campaign.addHost { k with deferredSuspend := false } }
      else { s with campaign := k.followReasons } := rfl
  rw [hfinish, hdone, if_pos rfl]
  have hcount : s.reserved.count .captureDone ≠ 0 := by
    show s.reserved.captureDone ≠ 0
    omega
  unfold State.endCampaign State.queueReserved
  dsimp only
  rw [if_neg hcount]
  rfl

/-! ## The commit concludes -/

theorem State.handOnAll_empty (h : s.campaign.handOff = []) : s.handOnAll = s := by
  unfold State.handOnAll
  rw [h]
  rfl

/-- A concluded commit: the entry ends as `k` says, the circuit settles with its baseline, and what waits is handed on. -/
theorem State.concludeCapture_eq (k : State)
    (hk : ∀ cs, State.finishEntry { s with circuits := cs } c
      (if ok then .written b.level b.delay b.generation else .storeFault) = { k with circuits := cs }) :
    ∃ cs ls, s.concludeCapture c b ok =
        State.handOnAll { k with circuits := cs, queue := k.queue ++ (s.circuit c).owed c, looks := ls } ∧
      ∀ j, tableRead {} cs j =
        if j = c then { (s.circuit c).settled with baseline := if ok then some b else (s.circuit c).baseline }
        else s.circuit j := by
  have hstart : ∃ cs, (if ok then
        (s.modifyCircuit c fun r => { r with baseline := some b }).finishEntry c (.written b.level b.delay b.generation)
      else s.finishEntry c .storeFault) = { k with circuits := cs } ∧
      ∀ j, tableRead {} cs j =
        if j = c then { s.circuit c with baseline := if ok then some b else (s.circuit c).baseline } else s.circuit j := by
    cases ok with
    | true =>
      refine ⟨_, hk _, fun j => ?_⟩
      by_cases hj : j = c
      · subst hj
        rw [if_pos rfl]
        exact State.circuit_setCircuit_self ..
      · rw [if_neg hj]
        exact State.circuit_setCircuit_other _ hj _
    | false =>
      refine ⟨_, hk _, fun j => ?_⟩
      by_cases hj : j = c
      · subst hj
        rw [if_pos rfl]
        rfl
      · rw [if_neg hj]
        rfl
  obtain ⟨cs, hcs, hread⟩ := hstart
  let t : State := { k with circuits := cs }
  have hc : t.circuit c = { s.circuit c with baseline := if ok then some b else (s.circuit c).baseline } :=
    (hread c).trans (if_pos rfl)
  obtain ⟨cs', ls, hsettle, hread'⟩ := t.settleCommit_eq c
  obtain ⟨ls', hlook⟩ := (t.settleCommit c).lookIfBelow_eq s.campaign.pendingCommits
  refine ⟨cs', ls', ?_, fun j => (hread' j).trans ?_⟩
  · unfold State.concludeCapture
    dsimp only
    rw [hcs, hlook, hsettle, hc]
    rfl
  · by_cases hj : j = c
    · rw [if_pos hj, if_pos hj, hc]
      rfl
    · rw [if_neg hj, if_neg hj]
      exact (hread j).trans (if_neg hj)

end

end Sys2Proof.Machine


/-! # Baselines that wait, dropped and handed on -/

namespace Sys2Proof.Machine

section
variable {s : State} {c : Nat} {b : Baseline} {r : CaptureResult} {ok agrees erased : Bool}

/-! ## The write of a capture's commit -/

/-- The result of a capture's commit. -/
def Baseline.outcome (b : Baseline) (ok : Bool) : CaptureResult :=
  if ok then .written b.level b.delay b.generation else .storeFault

/-- What the slot holds once a capture's commit has concluded. -/
def Writing.baselineLeft (w : Writing) (b : Baseline) (x : Slot Baseline) (ok erased : Bool) : Slot Baseline :=
  if ok then .holding b else if w.step = .restore then x else if erased then .erased else .damaged

/-- The end of the write of a capture's commit concludes that commit, and the next one begins. -/
theorem State.endWrite_capture {w : Writing} {x : Slot Baseline} {others : List Commit}
    (hc : s.commits = ⟨.writeBaseline c b, .capture c⟩ :: others) (hw : s.writing = some w)
    (hx : w.saved = .baseline c x)
    (hend : (ok = true ∧ agrees = true ∧ (w.step = .write ∨ w.step = .rewrite)) ∨
      (ok = false ∧ ((agrees = true ∧ w.step = .restore) ∨ w.step = .eraseCheck))) :
    s.endWrite agrees erased =
      (State.concludeCapture
        { s with
          baseSlots := tableWrite .erased s.baseSlots c (w.baselineLeft b x ok erased), commits := others, writing := none }
        c b ok).beginCommit := by
  have hconclude : ∀ t : State, t.commits = ⟨.writeBaseline c b, .capture c⟩ :: others →
      t.concludeCommit ok = (State.concludeCapture { t with commits := others, writing := none } c b ok).beginCommit :=
    fun t ht => by
      unfold State.concludeCommit
      rw [ht]
      rfl
  obtain ⟨rfl, rfl, hstep⟩ | ⟨rfl, hstep⟩ := hend
  · rw [State.endWrite_agreed hw hc hstep, hconclude (s.putSlot (StoreOp.writeBaseline c b).written) hc]
    rfl
  · have hleft : s.putSlot (w.left erased) =
        { s with baseSlots := tableWrite .erased s.baseSlots c (w.baselineLeft b x false erased) } := by
      unfold Writing.left Writing.baselineLeft
      rw [hx]
      split
      · rfl
      · cases erased <;> rfl
    rw [State.endWrite_failed hw hc hstep, hleft]
    exact hconclude _ hc

/-- A COMMITTING entry is not finished. -/
theorem EntryStatus.isFinished_of_committing (st : EntryStatus) (h : st.isCommitting = true) : st.isFinished = false := by
  cases st with
  | committing l => rfl
  | _ => cases h

/-! ## The campaign's state while another entry is in flight -/

/-- A campaign whose reasons have been followed and whose debts are settled, with another entry COMMITTING, changes only
the entry that ends. -/
theorem Campaign.goesOn_settled {k : Campaign} (howed : k.progressOwed = false) (hdeferred : k.deferredSuspend = false)
    (hstate : (k.host || k.window) = true → k.state = .suspending)
    (hflight : ∃ e ∈ k.entries, e.circuit ≠ c ∧ e.status.isCommitting = true) :
    k.goesOn c r = k.restatus c (.finished r) := by
  have hsame : { k.restatus c (.finished r) with
      progressOwed := false, deferredSuspend := false, host := k.host || k.deferredSuspend } =
      k.restatus c (.finished r) := by
    rw [hdeferred, Bool.or_false, ← howed]
    exact congrArg (fun v => ({ k.restatus c (.finished r) with deferredSuspend := v } : Campaign)) (howed.trans hdeferred.symm)
  unfold Campaign.goesOn
  rw [hsame]
  unfold Campaign.followReasons
  split
  · rename_i h
    have hany : (k.restatus c (.finished r)).anyInFlight = true := by
      obtain ⟨e, he, hne, hcommitting⟩ := hflight
      refine List.any_eq_true.mpr ⟨e, List.mem_map.mpr ⟨e, he, if_neg hne⟩, ?_⟩
      cases hs : e.status with
      | committing l => rfl
      | _ => rw [hs] at hcommitting; cases hcommitting
    rw [hany, if_pos rfl]
    exact congrArg (fun v => ({ k.restatus c (.finished r) with state := v } : Campaign)) (hstate h.2).symm
  · rfl

/-! ## Baselines that wait -/

/-- The entries of some circuits end inside the protected region. -/
def Campaign.droppedInside (k : Campaign) (cs : List Nat) (more : List HandOff) : Campaign :=
  { k with
    handOff := more
    entries := k.entries.map fun e => if e.circuit ∈ cs then { e with status := .finished .insideRegion } else e }

/-- Baselines of circuits that now lie inside the protected region are dropped in order, and their circuits settle. -/
theorem State.handOn_dropped {gone more : List HandOff} {n : Nat} (hnd : (gone.map (·.circuit)).Nodup)
    (hinside : ∀ g ∈ gone, s.insideRegion g.circuit = true) (hhand : s.campaign.handOff = gone ++ more)
    (hroom : s.captureCommits < Config.captureCommits) (howed : s.campaign.progressOwed = false)
    (hdeferred : s.campaign.deferredSuspend = false)
    (hstate : (s.campaign.host || s.campaign.window) = true → s.campaign.state = .suspending)
    (hflight : ∃ e ∈ s.campaign.entries, e.circuit ∉ gone.map (·.circuit) ∧ e.status.isCommitting = true) :
    ∃ cs ls, State.handOn (gone.length + n) s =
        State.handOn n
          { s with
            circuits := cs, looks := ls, campaign := s.campaign.droppedInside (gone.map (·.circuit)) more
            queue := s.queue ++ (gone.map (·.circuit)).flatMap fun k => (s.circuit k).owed k } ∧
      ∀ k, tableRead {} cs k = if k ∈ gone.map (·.circuit) then (s.circuit k).settled else s.circuit k := by
  induction gone generalizing s with
  | nil =>
    have hsame : s.campaign.droppedInside [] more = s.campaign := by
      have hmap : s.campaign.entries.map (fun e : CaptureEntry =>
          if e.circuit ∈ ([] : List Nat) then { e with status := .finished .insideRegion } else e) = s.campaign.entries := by
        simp
      unfold Campaign.droppedInside
      rw [hmap, ← hhand.trans (List.nil_append more)]
    refine ⟨s.circuits, s.looks, ?_, fun k => ?_⟩
    · rw [List.map_nil, List.flatMap_nil, List.append_nil, hsame, List.length_nil, Nat.zero_add]
    · rw [List.map_nil, if_neg List.not_mem_nil]
      rfl
  | cons g gone ih =>
    obtain ⟨hg, hnd⟩ := List.nodup_cons.mp hnd
    let s₁ : State := { s with campaign := { s.campaign with handOff := gone ++ more } }
    have hopen : ∃ e ∈ s.campaign.entries, e.circuit ≠ g.circuit ∧ e.status.isCommitting = true := by
      obtain ⟨e, he, hne, hcommitting⟩ := hflight
      exact ⟨e, he, fun h => hne (h ▸ List.mem_cons_self ..), hcommitting⟩
    have hfinish : s₁.finishEntry g.circuit .insideRegion =
        { s₁ with campaign := s₁.campaign.restatus g.circuit (.finished .insideRegion) } := by
      rw [State.finishEntry_goesOn, Campaign.goesOn_settled (k := s₁.campaign) howed hdeferred hstate hopen]
      obtain ⟨e, he, hne, hcommitting⟩ := hopen
      exact ⟨e, he, hne, e.status.isFinished_of_committing hcommitting⟩
    let s₂ : State := { s₁ with campaign := s₁.campaign.restatus g.circuit (.finished .insideRegion) }
    obtain ⟨cs, ls, hsettle, hread⟩ := s₂.settleCommit_eq g.circuit
    obtain ⟨ls', hlook⟩ := (s₂.settleCommit g.circuit).lookIfBelow_eq s.campaign.pendingCommits
    let s₃ : State := { s₂ with
      circuits := cs, queue := s.queue ++ (s.circuit g.circuit).owed g.circuit, looks := ls' }
    have hone : State.handOn ((g :: gone).length + n) s = State.handOn (gone.length + n) s₃ := by
      have hlength : (g :: gone).length + n = (gone.length + n) + 1 := by rw [List.length_cons]; omega
      have hthird : ((s₁.finishEntry g.circuit .insideRegion).settleCommit g.circuit).lookIfBelow s.campaign.pendingCommits =
          s₃ := by
        rw [hfinish, hlook, hsettle]
        rfl
      rw [hlength, State.handOn, hhand]
      dsimp only [List.cons_append]
      rw [if_pos hroom, if_pos (by exact hinside g (List.mem_cons_self ..))]
      exact congrArg (State.handOn (gone.length + n)) hthird
    have hread' : ∀ k, s₃.circuit k = if k = g.circuit then (s.circuit k).settled else s.circuit k := fun k => by
      refine (hread k).trans ?_
      by_cases hk : k = g.circuit
      · rw [if_pos hk, if_pos hk, hk]
        rfl
      · rw [if_neg hk, if_neg hk]
        rfl
    have hother : ∀ k ∈ gone.map (·.circuit), s₃.circuit k = s.circuit k := fun k hk =>
      (hread' k).trans (if_neg fun (h : k = g.circuit) => hg (by rwa [h] at hk))
    have hflight' : ∃ e ∈ s₃.campaign.entries, e.circuit ∉ gone.map (·.circuit) ∧ e.status.isCommitting = true := by
      obtain ⟨e, he, hne, hcommitting⟩ := hflight
      rw [List.map_cons, List.mem_cons, not_or] at hne
      exact ⟨e, List.mem_map.mpr ⟨e, he, if_neg hne.1⟩, hne.2, hcommitting⟩
    obtain ⟨cs', ls'', hrest, hread''⟩ :=
      ih (s := s₃) hnd (fun x hx => hinside x (List.mem_cons_of_mem _ hx)) rfl hroom howed hdeferred hstate hflight'
    refine ⟨cs', ls'', ?_, fun k => (hread'' k).trans ?_⟩
    · have howes : (gone.map (·.circuit)).flatMap (fun k => (s₃.circuit k).owed k) =
          (gone.map (·.circuit)).flatMap fun k => (s.circuit k).owed k :=
        List.flatMap_congr fun k hk => by rw [hother k hk]
      have hcampaign : s₃.campaign.droppedInside (gone.map (·.circuit)) more =
          s.campaign.droppedInside ((g :: gone).map (·.circuit)) more := by
        have hmap : s₃.campaign.entries.map (fun e : CaptureEntry =>
            if e.circuit ∈ gone.map (·.circuit) then { e with status := .finished .insideRegion } else e) =
            s.campaign.entries.map fun e : CaptureEntry =>
              if e.circuit ∈ (g :: gone).map (·.circuit) then { e with status := .finished .insideRegion } else e := by
          refine List.map_map.trans (List.map_congr_left fun e _ => ?_)
          by_cases he : e.circuit = g.circuit
          · by_cases hin : g.circuit ∈ gone.map (·.circuit) <;> simp [he]
          · by_cases hin : e.circuit ∈ gone.map (·.circuit) <;> simp [he]
        exact congrArg (fun es => ({ s.campaign with handOff := more, entries := es } : Campaign)) hmap
      rw [hone, hrest, hcampaign, howes, List.map_cons, List.flatMap_cons, ← List.append_assoc]
    · by_cases hk : k ∈ gone.map (·.circuit)
      · rw [if_pos hk, hother k hk, List.map_cons, if_pos (List.mem_cons_of_mem _ hk)]
      · rw [if_neg hk, hread' k]
        exact if_congr (by rw [List.map_cons, List.mem_cons]; exact ⟨.inl, fun h => h.resolve_right hk⟩) rfl rfl

/-- The baseline of a circuit outside the protected region is handed to the commit queue, whose head then begins. -/
theorem State.handOn_taken {h : HandOff} {rest : List HandOff} {n c₂ : Nat} {b₂ : Baseline} {tail : List Commit}
    (hhand : s.campaign.handOff = h :: rest) (hroom : s.captureCommits < Config.captureCommits)
    (houtside : s.insideRegion h.circuit = false) (hwriting : s.writing = none) (hrestart : s.restartTaken = false)
    (hqueue : s.commits ++ [⟨.writeBaseline h.circuit h.baseline, .capture h.circuit⟩] =
      ⟨.writeBaseline c₂ b₂, .capture c₂⟩ :: tail) :
    State.handOn (n + 1) s =
      State.handOn n
        { s with
          campaign := { s.campaign with handOff := rest }
          commits := ⟨.writeBaseline c₂ b₂, .capture c₂⟩ :: tail
          writing := some ⟨.write, .baseline c₂ (tableRead .erased s.baseSlots c₂)⟩
          baseSlots := tableWrite .erased s.baseSlots c₂ .damaged } := by
  have hhanded : State.handCommit { s with campaign := { s.campaign with handOff := rest } }
      (.writeBaseline h.circuit h.baseline) (.capture h.circuit) =
      { s with
        campaign := { s.campaign with handOff := rest }
        commits := ⟨.writeBaseline c₂ b₂, .capture c₂⟩ :: tail
        writing := some ⟨.write, .baseline c₂ (tableRead .erased s.baseSlots c₂)⟩
        baseSlots := tableWrite .erased s.baseSlots c₂ .damaged } := by
    unfold State.handCommit State.beginCommit
    dsimp only
    rw [hqueue, hwriting]
    dsimp only
    exact if_neg (by simp [hrestart])
  rw [State.handOn, hhand]
  dsimp only
  have hpassed : ¬State.insideRegion { s with campaign := { s.campaign with handOff := rest } } h.circuit = true := fun hin =>
    Bool.false_ne_true (houtside.symm.trans hin)
  rw [if_pos hroom, if_neg hpassed, hhanded]

/-- No commit begins while a slot is being written. -/
theorem State.beginCommit_writing (h : s.writing ≠ none) : s.beginCommit = s := by
  unfold State.beginCommit
  split
  · exact absurd ‹_› h
  · rfl

/-- Nothing is handed on where the list is empty or the commit queue holds its share. -/
theorem State.handOn_ends {n : Nat} (h : s.campaign.handOff = [] ∨ ¬s.captureCommits < Config.captureCommits) :
    State.handOn n s = s := by
  cases n with
  | zero => rfl
  | succ n =>
    rw [State.handOn]
    cases hhand : s.campaign.handOff with
    | nil => rfl
    | cons h' rest =>
      dsimp only
      exact if_neg (h.resolve_left (by rw [hhand]; nofun))

/-- What a result leaves of a campaign in progress. -/
theorem Campaign.goesOn_eq {k : Campaign} (hk : k.state ≠ .idle) :
    k.goesOn c r =
      { k with
        progressOwed := false, deferredSuspend := false, host := k.host || k.deferredSuspend
        entries := (k.restatus c (.finished r)).entries
        state :=
          if (k.host || k.deferredSuspend) || k.window then
            if ∃ e ∈ (k.restatus c (.finished r)).entries, e.status.inFlight = true then .suspending else .suspended
          else k.state } := by
  unfold Campaign.goesOn Campaign.followReasons
  by_cases hreasons : ((k.host || k.deferredSuspend) || k.window) = true
  · rw [if_pos ⟨hk, hreasons⟩, if_pos hreasons]
    have hany : Campaign.anyInFlight { k.restatus c (.finished r) with
        progressOwed := false, deferredSuspend := false, host := k.host || k.deferredSuspend } = true ↔
        ∃ e ∈ (k.restatus c (.finished r)).entries, e.status.inFlight = true := List.any_eq_true
    rw [if_congr hany rfl rfl]
    rfl
  · rw [if_neg fun h => hreasons h.2, if_neg hreasons]
    rfl

/-- A concluded commit where baselines wait: those of circuits now inside the protected region are dropped in order, the
next one is handed on, and the commit at the head of the queue begins. -/
theorem State.concludeCapture_hands {gone rest : List HandOff} {h : HandOff} {c₂ : Nat} {b₂ : Baseline} {tail : List Commit}
    (hhand : s.campaign.handOff = gone ++ h :: rest) (hinside : ∀ g ∈ gone, s.insideRegion g.circuit = true)
    (houtside : s.insideRegion h.circuit = false) (hnd : (c :: gone.map (·.circuit)).Nodup)
    (hroom : s.captureCommits < Config.captureCommits) (hlast : rest = [] ∨ s.captureCommits = 7)
    (hqueue : s.commits ++ [⟨.writeBaseline h.circuit h.baseline, .capture h.circuit⟩] =
      ⟨.writeBaseline c₂ b₂, .capture c₂⟩ :: tail)
    (hwriting : s.writing = none) (hrestart : s.restartTaken = false) (hidle : s.campaign.state ≠ .idle)
    (hfresh : h.circuit ∉ c :: gone.map (·.circuit))
    (hflight : ∃ e ∈ s.campaign.entries, e.circuit = h.circuit ∧ e.status.isCommitting = true) :
    ∃ cs ls, s.concludeCapture c b ok =
        { s with
          circuits := cs, looks := ls
          queue := s.queue ++ (c :: gone.map (·.circuit)).flatMap fun k => (s.circuit k).owed k
          commits := ⟨.writeBaseline c₂ b₂, .capture c₂⟩ :: tail
          writing := some ⟨.write, .baseline c₂ (tableRead .erased s.baseSlots c₂)⟩
          baseSlots := tableWrite .erased s.baseSlots c₂ .damaged
          campaign :=
            { s.campaign with
              handOff := rest, progressOwed := false, deferredSuspend := false
              host := s.campaign.host || s.campaign.deferredSuspend
              entries := s.campaign.entries.map fun e =>
                if e.circuit = c then { e with status := .finished (b.outcome ok) }
                else if e.circuit ∈ gone.map (·.circuit) then { e with status := .finished .insideRegion }
                else e
              state :=
                if (s.campaign.host || s.campaign.deferredSuspend) || s.campaign.window then .suspending
                else s.campaign.state } } ∧
      ∀ k, tableRead {} cs k =
        if k ∈ c :: gone.map (·.circuit) then
          { (s.circuit k).settled with baseline := if k = c ∧ ok = true then some b else (s.circuit k).baseline }
        else s.circuit k := by
  obtain ⟨hc, hnd⟩ := List.nodup_cons.mp hnd
  obtain ⟨e, he, heh, hcommitting⟩ := hflight
  have hne : e.circuit ≠ c := fun h' => hfresh (by rw [← heh, h']; exact List.mem_cons_self ..)
  let ended : List CaptureEntry := (s.campaign.restatus c (.finished (b.outcome ok))).entries
  have hended : e ∈ ended := List.mem_map.mpr ⟨e, he, if_neg hne⟩
  have hany : ∃ x ∈ ended, x.status.inFlight = true := by
    refine ⟨e, hended, ?_⟩
    cases hs : e.status with
    | committing l => rfl
    | _ => rw [hs] at hcommitting; cases hcommitting
  let k₁ : State := { s with
    campaign :=
      { s.campaign with
        progressOwed := false, deferredSuspend := false, host := s.campaign.host || s.campaign.deferredSuspend
        entries := ended
        state :=
          if (s.campaign.host || s.campaign.deferredSuspend) || s.campaign.window then .suspending
          else s.campaign.state } }
  have hk : ∀ cs, State.finishEntry { s with circuits := cs } c (b.outcome ok) = { k₁ with circuits := cs } := fun cs => by
    rw [State.finishEntry_goesOn (s := { s with circuits := cs })
      ⟨e, he, hne, e.status.isFinished_of_committing hcommitting⟩, Campaign.goesOn_eq hidle, if_pos hany]
  obtain ⟨cs, ls, hconclude, hread⟩ := State.concludeCapture_eq (s := s) (c := c) (b := b) (ok := ok) k₁ hk
  let v : State := { k₁ with circuits := cs, queue := s.queue ++ (s.circuit c).owed c, looks := ls }
  have hother : ∀ k ∈ gone.map (·.circuit), v.circuit k = s.circuit k := fun k hk =>
    (hread k).trans (if_neg fun (hkc : k = c) => hc (by rwa [hkc] at hk))
  obtain ⟨cs', ls', hdrop, hread'⟩ := State.handOn_dropped (s := v) (more := h :: rest) (n := rest.length + 1) hnd hinside
    hhand hroom rfl rfl (fun hreasons => if_pos hreasons)
    ⟨e, hended, fun hin => hfresh (by rw [← heh]; exact List.mem_cons_of_mem _ hin), hcommitting⟩
  refine ⟨cs', ls', ?_, fun k => (hread' k).trans ?_⟩
  · have hall : v.handOnAll = State.handOn (gone.length + (rest.length + 1)) v := by
      unfold State.handOnAll
      have hlength : v.campaign.handOff.length = gone.length + (rest.length + 1) := by
        rw [show v.campaign.handOff = gone ++ h :: rest from hhand, List.length_append, List.length_cons]
      rw [hlength]
    have howes : (gone.map (·.circuit)).flatMap (fun k => (v.circuit k).owed k) =
        (gone.map (·.circuit)).flatMap fun k => (s.circuit k).owed k :=
      List.flatMap_congr fun k hk => by rw [hother k hk]
    have hentries : ended.map (fun e : CaptureEntry =>
        if e.circuit ∈ gone.map (·.circuit) then { e with status := .finished .insideRegion } else e) =
        s.campaign.entries.map fun e : CaptureEntry =>
          if e.circuit = c then { e with status := .finished (b.outcome ok) }
          else if e.circuit ∈ gone.map (·.circuit) then { e with status := .finished .insideRegion } else e := by
      refine List.map_map.trans (List.map_congr_left fun e _ => ?_)
      by_cases hec : e.circuit = c
      · simp only [Function.comp, hec, if_true, if_neg hc]
      · simp only [Function.comp, if_neg hec]
    let v' : State := { v with
      circuits := cs', looks := ls', campaign := v.campaign.droppedInside (gone.map (·.circuit)) (h :: rest)
      queue := v.queue ++ (gone.map (·.circuit)).flatMap fun k => (v.circuit k).owed k }
    rw [hconclude]
    refine hall.trans (hdrop.trans ?_)
    refine (State.handOn_taken (s := v') (n := rest.length) rfl hroom houtside hwriting hrestart hqueue).trans ?_
    rw [State.handOn_ends]
    · dsimp only [v', v]
      rw [howes]
      unfold Campaign.droppedInside
      rw [hentries, List.flatMap_cons, ← List.append_assoc]
    · refine hlast.imp_right fun hseven => ?_
      unfold State.captureCommits at hseven ⊢
      dsimp only
      rw [← hqueue, List.countP_append, hseven]
      exact Nat.lt_irrefl 8
  · by_cases hk : k ∈ gone.map (·.circuit)
    · have hkc : k ≠ c := fun h' => hc (h' ▸ hk)
      rw [if_pos hk, hother k hk, if_pos (List.mem_cons_of_mem _ hk), if_neg fun h' => hkc h'.1]
      rfl
    · rw [if_neg hk]
      refine (hread k).trans ?_
      by_cases hkc : k = c
      · subst hkc
        rw [if_pos rfl, if_pos (List.mem_cons_self ..)]
        cases ok <;> simp
      · rw [if_neg hkc, if_neg (by rw [List.mem_cons, not_or]; exact ⟨hkc, hk⟩)]

end

end Sys2Proof.Machine

namespace Sys2Proof.Proofs

open Sys2Proof.Machine

/-- Settles O46: the entry ends, its circuit settles, and the baselines that wait are dropped or handed on. -/
theorem captureCommitConcludes : Obligations.CaptureCommitConcludes := by
  refine ⟨?_, ?_, ?_⟩
  · intro s agrees erased ok w c b x r result slot entries host h hbusy hc hw hx hend hhand hidle hopen hcommitting
    obtain ⟨-, -, -, -, -, -, -, hrest, -⟩ := s.calm_iff.mp h
    have hlooks := State.looks_of_atRest hrest
    let u : State := { s with baseSlots := tableWrite .erased s.baseSlots c slot, commits := [], writing := none }
    let k : State := { u with
      campaign :=
        { s.campaign with
          progressOwed := false, deferredSuspend := false, host := host, entries := entries
          state :=
            if host || s.campaign.window then if ∃ e ∈ entries, e.status.inFlight = true then .suspending else .suspended
            else s.campaign.state } }
    have hk : ∀ cs, State.finishEntry { u with circuits := cs } c result = { k with circuits := cs } := fun cs => by
      obtain ⟨e, he, hne, hunfinished⟩ := hopen
      rw [State.finishEntry_goesOn (s := { u with circuits := cs }) ⟨e, he, hne, hunfinished⟩, Campaign.goesOn_eq hidle]
      rfl
    obtain ⟨cs, ls, hconclude, hread⟩ := State.concludeCapture_eq (s := u) (c := c) (b := b) (ok := ok) k hk
    rw [State.handOnAll_empty (by exact hhand)] at hconclude
    have hf : s.endWrite agrees erased = (u.concludeCapture c b ok).beginCommit := State.endWrite_capture hc hw hx hend
    rw [hconclude, State.beginCommit_empty rfl] at hf
    have hrun : exec (.storeWriteDone agrees erased) s = _ := congrArg Host.Outcome.next
      (State.whenAlive_forget (f := fun s => s.endWrite agrees erased) h hf (State.noWork_of_busy hbusy) rfl)
    rw [← hlooks] at hrun
    exact ⟨_, hrun, rfl, hread⟩
  · intro s agrees erased ok w c b x r result slot entries h hbusy hsend hreserved hc hw hx hend hhand hidle hentry hall
    obtain ⟨-, -, -, hq, -, -, -, hrest, -⟩ := s.calm_iff.mp h
    have hlooks := State.looks_of_atRest hrest
    let u : State := { s with baseSlots := tableWrite .erased s.baseSlots c slot, commits := [], writing := none }
    let k : State := { u with
      campaign :=
        { s.campaign with
          state := .idle, host := false, window := false, progressOwed := false, deferredSuspend := false
          entries := entries }
      reserved := { s.reserved with captureDone := s.reserved.captureDone - 1 }
      notices := s.notices ++
        [.captureDone entries.length ({ s.campaign with entries := entries } : Campaign).resultCounts s.campaign.cancelled
          s.clock] }
    have hk : ∀ cs, State.finishEntry { u with circuits := cs } c result = { k with circuits := cs } := fun cs => by
      have hothers : ∀ e ∈ s.campaign.entries, e.circuit ≠ c → e.status.isFinished = true := fun e he hne => by
        simpa [hne] using hall e he
      exact State.finishEntry_last (s := { u with circuits := cs }) hothers hreserved
    obtain ⟨cs, ls, hconclude, hread⟩ := State.concludeCapture_eq (s := u) (c := c) (b := b) (ok := ok) k hk
    rw [State.handOnAll_empty (by exact hhand)] at hconclude
    have hf : s.endWrite agrees erased = (u.concludeCapture c b ok).beginCommit := State.endWrite_capture hc hw hx hend
    rw [hconclude, State.beginCommit_empty rfl] at hf
    have hsettled := (s.whenAlive_calm h (fun s => s.endWrite agrees erased)).trans (congrArg State.settle hf)
    have hrun : exec (.storeWriteDone agrees erased) s = _ := congrArg Host.Outcome.next
      (hsettled.trans (State.settle_forget (State.noWork_of_busy hbusy) hq hsend))
    rw [← hlooks] at hrun
    exact ⟨_, hrun, rfl, hread⟩
  · intro s agrees erased ok w c b x others tail gone rest h c₂ b₂ result slot slots entries host owed hcalm hbusy hc hw hx
      hend hhand hinside houtside hnd hroom hqueue hidle hfresh hflight
    obtain ⟨-, hrestart, -, -, -, -, -, hrest, -⟩ := s.calm_iff.mp hcalm
    have hlooks := State.looks_of_atRest hrest
    let u : State := { s with baseSlots := slots, commits := others, writing := none }
    obtain ⟨cs, ls, hconclude, hread⟩ := State.concludeCapture_hands (s := u) (c := c) (b := b) (ok := ok) hhand hinside
      houtside hnd hroom.1 hroom.2 hqueue rfl hrestart hidle hfresh hflight
    have hf : s.endWrite agrees erased = (u.concludeCapture c b ok).beginCommit := State.endWrite_capture hc hw hx hend
    rw [hconclude, State.beginCommit_writing (Option.some_ne_none _)] at hf
    have hrun : exec (.storeWriteDone agrees erased) s = _ := congrArg Host.Outcome.next
      (State.whenAlive_forget (f := fun s => s.endWrite agrees erased) hcalm hf (State.noWork_of_busy hbusy) rfl)
    rw [← hlooks] at hrun
    exact ⟨_, hrun, rfl, hread⟩

end Sys2Proof.Proofs


/-! # Entries that end one after another, and captures that are stopped -/

namespace Sys2Proof.Machine

section
variable {s t : State} {c : Nat} {r : CaptureResult}

/-! ## What a result reads and changes -/

/-- A result reads neither the circuits nor the lanes, the queue or the looks. -/
theorem State.finishEntry_table (s : State) (cs : Table Circuit) (ls : Vector Lane 8) (q : List QueueEntry)
    (looks : List LaneId) (c : Nat) (r : CaptureResult) :
    State.finishEntry { s with circuits := cs, lanes := ls, queue := q, looks := looks } c r =
      { s.finishEntry c r with circuits := cs, lanes := ls, queue := q, looks := looks } := by
  have hqueue : ∀ (t : State) (k : ReservedKind) (n : Notice),
      State.queueReserved { t with circuits := cs, lanes := ls, queue := q, looks := looks } k n =
        { t.queueReserved k n with circuits := cs, lanes := ls, queue := q, looks := looks } := fun t k n => by
    unfold State.queueReserved State.queueUnreserved
    have hfree : State.hasFree { t with circuits := cs, lanes := ls, queue := q, looks := looks } = t.hasFree := rfl
    dsimp only
    rw [hfree]
    by_cases hcount : t.reserved.count k = 0
    · rw [if_pos hcount, if_pos hcount]
      by_cases hf : t.hasFree = true
      · rw [if_pos hf, if_pos hf]
      · rw [if_neg hf, if_neg hf]
    · rw [if_neg hcount, if_neg hcount]
  let k : Campaign := { s.campaign.restatus c (.finished r) with progressOwed := false }
  have hfinish : ∀ t : State, t.campaign = s.campaign → t.finishEntry c r =
      if k.allFinished then State.endCampaign { t with campaign := k }
      else if k.deferredSuspend then { t with campaign := Campaign.addHost { k with deferredSuspend := false } }
      else { t with campaign := k.followReasons } := fun t ht => by
    have hk : { t.campaign.restatus c (.finished r) with progressOwed := false } = k := by rw [ht]
    rw [← hk]
    rfl
  rw [hfinish s rfl, hfinish { s with circuits := cs, lanes := ls, queue := q, looks := looks } rfl]
  by_cases hall : k.allFinished = true
  · rw [if_pos hall, if_pos hall]
    unfold State.endCampaign
    dsimp only
    rw [hqueue { s with campaign := k }]
  · rw [if_neg hall, if_neg hall]
    by_cases hdeferred : k.deferredSuspend = true
    · rw [if_pos hdeferred, if_pos hdeferred]
    · rw [if_neg hdeferred, if_neg hdeferred]

/-- A result changes the one entry among the entries. -/
theorem State.finishEntry_entries (s : State) (c : Nat) (r : CaptureResult) :
    (s.finishEntry c r).campaign.entries = (s.campaign.restatus c (.finished r)).entries := by
  let k : Campaign := { s.campaign.restatus c (.finished r) with progressOwed := false }
  have hfinish : s.finishEntry c r =
      if k.allFinished then State.endCampaign { s with campaign := k }
      else if k.deferredSuspend then { s with campaign := Campaign.addHost { k with deferredSuspend := false } }
      else { s with campaign := k.followReasons } := rfl
  have hfollow : ∀ k : Campaign, k.followReasons.entries = k.entries := fun k => by
    unfold Campaign.followReasons
    split <;> rfl
  rw [hfinish]
  split
  · unfold State.endCampaign State.queueReserved State.queueUnreserved
    dsimp only
    split
    · split <;> rfl
    · rfl
  · split
    · exact hfollow _
    · exact hfollow _

theorem Campaign.entryFor_restatus {k : Campaign} {c c' : Nat} {st : EntryStatus} (h : c' ≠ c) :
    (k.restatus c st).entryFor c' = k.entryFor c' := by
  have hcirc : ((fun e : CaptureEntry => e.circuit == c') ∘
      fun e : CaptureEntry => if e.circuit = c then { e with status := st } else e) = fun e => e.circuit == c' := by
    funext e
    simp only [Function.comp]
    split <;> rfl
  unfold Campaign.entryFor Campaign.restatus
  dsimp only
  rw [List.find?_map, hcirc]
  cases hf : k.entries.find? (fun e => e.circuit == c') with
  | none => rfl
  | some e =>
    have he : e.circuit = c' := by simpa using List.find?_some (p := fun e : CaptureEntry => e.circuit == c') hf
    exact congrArg some (if_neg fun h' => h (he ▸ h'))

/-- The entry for a circuit is a matter of the entries. -/
theorem Campaign.entryFor_congr {k k' : Campaign} (h : k.entries = k'.entries) (c : Nat) : k.entryFor c = k'.entryFor c := by
  unfold Campaign.entryFor
  rw [h]

theorem State.finishEntry_entryFor {c' : Nat} (h : c' ≠ c) :
    (s.finishEntry c r).campaign.entryFor c' = s.campaign.entryFor c' :=
  (Campaign.entryFor_congr (s.finishEntry_entries c r) c').trans (Campaign.entryFor_restatus h)

/-- A circuit whose entry has ended is not UNPROCESSED. -/
theorem State.finishEntry_namedUnprocessed : (s.finishEntry c r).namedUnprocessed c = false := by
  unfold State.namedUnprocessed State.entryIs
  rw [Campaign.entryFor_congr (s.finishEntry_entries c r) c]
  cases he : (s.campaign.restatus c (.finished r)).entryFor c with
  | none => exact Bool.and_false _
  | some e =>
    obtain ⟨hmem, hc⟩ := Campaign.entryFor_mem he
    obtain ⟨x, hx, hxe⟩ := List.mem_map.mp hmem
    have hxc : x.circuit = c := by
      rw [← hc, ← hxe]
      split <;> rfl
    rw [if_pos hxc] at hxe
    rw [← hxe]
    exact Bool.and_false _

theorem State.finishEntry_keeps (s : State) (c : Nat) (r : CaptureResult) :
    (s.finishEntry c r).circuits = s.circuits ∧ (s.finishEntry c r).lanes = s.lanes ∧
      (s.finishEntry c r).queue = s.queue ∧ (s.finishEntry c r).looks = s.looks := by
  rw [show s.finishEntry c r = _ from s.finishEntry_table s.circuits s.lanes s.queue s.looks c r]
  exact ⟨rfl, rfl, rfl, rfl⟩

/-- A chain of results reads neither the circuits nor the lanes, the queue or the looks. -/
theorem State.foldl_finishEntry_table (cs : List Nat) (r : CaptureResult) (s : State) (C : Table Circuit)
    (L : Vector Lane 8) (q : List QueueEntry) (looks : List LaneId) :
    cs.foldl (fun t c => t.finishEntry c r) { s with circuits := C, lanes := L, queue := q, looks := looks } =
      { cs.foldl (fun t c => t.finishEntry c r) s with circuits := C, lanes := L, queue := q, looks := looks } :=
  foldl_commute (g := fun t => { t with circuits := C, lanes := L, queue := q, looks := looks })
    (fun t c => t.finishEntry_table C L q looks c r) cs s

/-! ## Captures that are stopped -/

theorem Lane.stop_stop (r : Lane) : r.stop.stop = r.stop := by
  unfold Lane.stop
  cases hr : r.state <;> simp [Lane.endWork, Lane.park, hr]

/-- A capture is in the measuring phase where its entry is on a lane. -/
theorem State.entryIs_measuring (s : State) (c : Nat) :
    s.entryIs c EntryStatus.isMeasuring = true ↔ ∃ l, s.campaign.entryFor c = some ⟨c, .measuring l⟩ := by
  unfold State.entryIs
  cases he : s.campaign.entryFor c with
  | none => simp
  | some e =>
    obtain ⟨-, hc⟩ := Campaign.entryFor_mem he
    obtain ⟨circuit, status⟩ := e
    subst hc
    cases status <;> simp [EntryStatus.isMeasuring]

/-- The capture of a circuit is in the measuring phase, as a matter of the entries. -/
theorem State.entryIs_congr {p : EntryStatus → Bool} (h : t.campaign.entryFor c = s.campaign.entryFor c) :
    t.entryIs c p = s.entryIs c p := by
  unfold State.entryIs
  rw [h]

/-- The record of a lane, stopped where it measures one of some captures. -/
def State.stoppedLane (s : State) (cs : List Nat) (l : LaneId) : Lane :=
  if ∃ c ∈ cs, s.campaign.entryFor c = some ⟨c, .measuring l⟩ then (s.lane l).stop else s.lane l

/-- What interrupting the capture of one circuit after another does, where `op` stops the lane of a capture in the
measuring phase, ends its entry, changes its circuit and appends to the queue, and only changes the circuit of another. -/
theorem State.foldl_interrupt {op : State → Nat → State} {f g : Circuit → Circuit} {q : Nat → List QueueEntry}
    {r : CaptureResult}
    (hop : ∀ (t : State) (c : Nat) (l : LaneId), t.campaign.entryFor c = some ⟨c, .measuring l⟩ →
      ∃ looks, op t c = { t.finishEntry c r with
        circuits := (t.setCircuit c (f (t.circuit c))).circuits, lanes := t.lanes.set l (t.lane l).stop
        queue := t.queue ++ q c, looks := looks })
    (cs : List Nat) (s : State) (hnd : cs.Nodup)
    (hpass : ∀ (t : State), ∀ c ∈ cs, t.campaign.entryFor c = s.campaign.entryFor c →
      s.entryIs c EntryStatus.isMeasuring = false → op t c = t.setCircuit c (g (t.circuit c))) :
    ∃ C L looks, cs.foldl op s =
        { (cs.filter fun c => s.entryIs c EntryStatus.isMeasuring).foldl (fun t c => t.finishEntry c r) s with
          circuits := C, lanes := L, looks := looks
          queue := s.queue ++ (cs.filter fun c => s.entryIs c EntryStatus.isMeasuring).flatMap q } ∧
      (∀ k, tableRead {} C k =
        if k ∈ cs then (if s.entryIs k EntryStatus.isMeasuring then f (s.circuit k) else g (s.circuit k))
        else s.circuit k) ∧
      ∀ l : LaneId, L[l] = s.stoppedLane (cs.filter fun c => s.entryIs c EntryStatus.isMeasuring) l := by
  induction cs generalizing s with
  | nil =>
    refine ⟨s.circuits, s.lanes, s.looks, ?_, fun k => ?_, fun l => ?_⟩
    · rw [List.filter_nil, List.flatMap_nil, List.append_nil]
      rfl
    · rw [if_neg List.not_mem_nil]
      rfl
    · exact (if_neg (by simp)).symm
  | cons c cs ih =>
    obtain ⟨hc, hnd⟩ := List.nodup_cons.mp hnd
    have hne : ∀ k ∈ cs, k ≠ c := fun k hk h => hc (h ▸ hk)
    have hset : ∀ (r : Circuit) (k : Nat), (s.setCircuit c r).circuit k = if k = c then r else s.circuit k :=
      fun r k => by
        by_cases hk : k = c
        · subst hk
          rw [if_pos rfl, State.circuit_setCircuit_self]
        · rw [if_neg hk, State.circuit_setCircuit_other _ hk]
    cases hm : s.entryIs c EntryStatus.isMeasuring with
    | false =>
      obtain ⟨C, L, looks, hfold, hcircuits, hlanes⟩ := ih (s.setCircuit c (g (s.circuit c))) hnd
        fun t k hk => hpass t k (List.mem_cons_of_mem _ hk)
      have hsame : ∀ k, (s.setCircuit c (g (s.circuit c))).entryIs k EntryStatus.isMeasuring =
          s.entryIs k EntryStatus.isMeasuring := fun k => rfl
      refine ⟨C, L, looks, ?_, fun k => (hcircuits k).trans ?_, fun l => (hlanes l).trans ?_⟩
      · rw [List.foldl_cons, hpass s c (List.mem_cons_self ..) rfl hm, hfold, List.filter_cons, hm,
          if_neg Bool.false_ne_true]
        have hmove := State.foldl_finishEntry_table (cs.filter fun c => s.entryIs c EntryStatus.isMeasuring) r s
          (s.setCircuit c (g (s.circuit c))).circuits s.lanes s.queue s.looks
        exact congrArg (fun u : State => { u with
          circuits := C, lanes := L, looks := looks
          queue := s.queue ++ (cs.filter fun c => s.entryIs c EntryStatus.isMeasuring).flatMap q }) hmove
      · rw [hsame, hset]
        by_cases hk : k = c
        · subst hk
          rw [if_neg hc, if_pos rfl, if_pos (List.mem_cons_self ..), hm]
          rfl
        · rw [if_neg hk]
          exact if_congr (by simp [hk]) rfl rfl
      · rw [List.filter_cons, hm]
        rfl
    | true =>
      obtain ⟨l₀, hl₀⟩ := (s.entryIs_measuring c).mp hm
      obtain ⟨looks₁, hone⟩ := hop s c l₀ hl₀
      let t : State := { s.finishEntry c r with
        circuits := (s.setCircuit c (f (s.circuit c))).circuits, lanes := s.lanes.set l₀ (s.lane l₀).stop
        queue := s.queue ++ q c, looks := looks₁ }
      have hentry : ∀ k ∈ cs, t.campaign.entryFor k = s.campaign.entryFor k := fun k hk =>
        State.finishEntry_entryFor (hne k hk)
      have hfilter : (cs.filter fun c => t.entryIs c EntryStatus.isMeasuring) =
          cs.filter fun c => s.entryIs c EntryStatus.isMeasuring :=
        List.filter_congr fun k hk => State.entryIs_congr (hentry k hk)
      obtain ⟨C, L, looks, hfold, hcircuits, hlanes⟩ := ih t hnd fun u k hk hu hpassed =>
        hpass u k (List.mem_cons_of_mem _ hk) (hu.trans (hentry k hk)) ((State.entryIs_congr (hentry k hk)).symm.trans hpassed)
      rw [hfilter] at hfold hlanes
      refine ⟨C, L, looks, ?_, fun k => (hcircuits k).trans ?_, fun l => (hlanes l).trans ?_⟩
      · have hmove := State.foldl_finishEntry_table (cs.filter fun c => s.entryIs c EntryStatus.isMeasuring) r
          (s.finishEntry c r) t.circuits t.lanes t.queue t.looks
        rw [List.foldl_cons, hone, List.filter_cons, if_pos hm, List.foldl_cons, List.flatMap_cons, ← List.append_assoc]
        refine hfold.trans ?_
        exact congrArg (fun u : State => { u with
          circuits := C, lanes := L, looks := looks
          queue := (s.queue ++ q c) ++ (cs.filter fun c => s.entryIs c EntryStatus.isMeasuring).flatMap q }) hmove
      · have ht : t.circuit k = if k = c then f (s.circuit c) else s.circuit k := hset _ k
        rw [ht]
        by_cases hk : k = c
        · subst hk
          rw [if_neg hc, if_pos rfl, if_pos (List.mem_cons_self ..), hm, if_pos rfl]
        · by_cases hkcs : k ∈ cs
          · rw [if_pos hkcs, if_neg hk, if_pos (List.mem_cons_of_mem _ hkcs), State.entryIs_congr (hentry k hkcs)]
          · rw [if_neg hkcs, if_neg hk, if_neg (by simp [hk, hkcs])]
      · rw [List.filter_cons, if_pos hm]
        have ht : t.lane l = if l = l₀ then (s.lane l).stop else s.lane l := by
          by_cases hl : l = l₀
          · subst hl
            rw [if_pos rfl]
            exact State.lane_setLane_self s l _
          · rw [if_neg hl]
            exact State.lane_setLane_other s hl _
        have hexists : (∃ k ∈ cs.filter (fun c => s.entryIs c EntryStatus.isMeasuring),
              t.campaign.entryFor k = some ⟨k, .measuring l⟩) ↔
            ∃ k ∈ cs.filter (fun c => s.entryIs c EntryStatus.isMeasuring),
              s.campaign.entryFor k = some ⟨k, .measuring l⟩ :=
          exists_congr fun k => and_congr_right fun hk => by rw [hentry k (List.mem_filter.mp hk).1]
        unfold State.stoppedLane
        rw [if_congr hexists rfl rfl, ht]
        by_cases hl : l = l₀
        · subst hl
          rw [if_pos rfl, Lane.stop_stop, ite_self, if_pos ⟨c, List.mem_cons_self .., hl₀⟩]
        · rw [if_neg hl]
          refine if_congr ?_ rfl rfl
          constructor
          · exact fun ⟨k, hk, he⟩ => ⟨k, List.mem_cons_of_mem _ hk, he⟩
          · rintro ⟨k, hk, he⟩
            obtain rfl | hk := List.mem_cons.mp hk
            · rw [hl₀] at he
              cases he
              exact absurd rfl hl
            · exact ⟨k, hk, he⟩

end

end Sys2Proof.Machine


/-! # CANCEL_CAPTURE -/

namespace Sys2Proof.Machine

section
variable {s t : State} {c : Nat} {r : CaptureResult} {cs : List Nat}

/-! ## Entries that end one after another -/

/-- The entries of some circuits have ended with one result. -/
def Campaign.endedEntries (k : Campaign) (cs : List Nat) (r : CaptureResult) : List CaptureEntry :=
  k.entries.map fun e => if e.circuit ∈ cs then { e with status := .finished r } else e

/-- A campaign without a deferred suspend, after the entries of some circuits have ended and another goes on. -/
def Campaign.ended (k : Campaign) (cs : List Nat) (r : CaptureResult) : Campaign :=
  if cs = [] then k else Campaign.followReasons { k with progressOwed := false, entries := k.endedEntries cs r }

theorem Campaign.endedEntries_cons (k : Campaign) (c : Nat) (cs : List Nat) (r : CaptureResult) :
    (k.restatus c (.finished r)).endedEntries cs r = k.endedEntries (c :: cs) r := by
  unfold Campaign.endedEntries Campaign.restatus
  refine List.map_map.trans (List.map_congr_left fun e _ => ?_)
  by_cases he : e.circuit = c
  · by_cases hc : c ∈ cs <;> simp [he]
  · by_cases hc : e.circuit ∈ cs <;> simp [he, hc]

theorem Campaign.endedEntries_append (k : Campaign) (cs : List Nat) (c : Nat) (r : CaptureResult) :
    ({ k with entries := k.endedEntries cs r } : Campaign).restatus c (.finished r) =
      { k with entries := k.endedEntries (cs ++ [c]) r } := by
  have hmap : ((k.endedEntries cs r).map fun e => if e.circuit = c then { e with status := .finished r } else e) =
      k.endedEntries (cs ++ [c]) r := by
    unfold Campaign.endedEntries
    refine List.map_map.trans (List.map_congr_left fun e _ => ?_)
    by_cases hc : e.circuit ∈ cs
    · simp only [Function.comp, if_pos hc, if_pos (List.mem_append_left [c] hc)]
      split <;> rfl
    · simp only [Function.comp, List.mem_append, hc, false_or, if_false, List.mem_singleton]
  exact congrArg (fun es => ({ k with entries := es } : Campaign)) hmap

/-- Following the reasons changes the state alone. -/
theorem Campaign.followReasons_state (k : Campaign) : ∃ st, k.followReasons = { k with state := st } := by
  unfold Campaign.followReasons
  split
  · exact ⟨_, rfl⟩
  · exact ⟨_, rfl⟩

/-- The reasons are followed by the entries as they stand last. -/
theorem Campaign.followReasons_again (k : Campaign) (es : List CaptureEntry) :
    Campaign.followReasons { k.followReasons with entries := es } = Campaign.followReasons { k with entries := es } := by
  by_cases h : k.state ≠ .idle ∧ (k.host || k.window) = true
  · have hfollow : k.followReasons = { k with state := if k.anyInFlight then .suspending else .suspended } := if_pos h
    have hbusy : (if k.anyInFlight then CampaignState.suspending else .suspended) ≠ .idle := by split <;> nofun
    rw [hfollow]
    have hlast : Campaign.followReasons { k with entries := es } = { k with
        entries := es
        state := if Campaign.anyInFlight { k with entries := es } then .suspending else .suspended } := if_pos h
    exact (if_pos ⟨hbusy, h.2⟩).trans hlast.symm
  · rw [show k.followReasons = k from if_neg h]

theorem Campaign.goesOn_ended {k : Campaign} (hdeferred : k.deferredSuspend = false) : k.goesOn c r = k.ended [c] r := by
  have hsame : { k.restatus c (.finished r) with
      progressOwed := false, deferredSuspend := false, host := k.host || k.deferredSuspend } =
      { k with progressOwed := false, entries := k.endedEntries [c] r } := by
    have hmap : (k.restatus c (.finished r)).entries = k.endedEntries [c] r := by
      unfold Campaign.restatus Campaign.endedEntries
      simp only [List.mem_singleton]
    show ({ k with
      progressOwed := false, deferredSuspend := false, host := k.host || k.deferredSuspend
      entries := (k.restatus c (.finished r)).entries } : Campaign) = _
    rw [hmap, hdeferred, Bool.or_false]
  unfold Campaign.goesOn
  rw [hsame]
  exact (if_neg (List.cons_ne_nil _ _)).symm

/-- Ending more entries. -/
theorem Campaign.ended_ended {k : Campaign} {ds : List Nat} (hd : ds ≠ []) : (k.ended [c] r).ended ds r = k.ended (c :: ds) r := by
  let k₁ : Campaign := { k with progressOwed := false, entries := k.endedEntries [c] r }
  have hone : k.ended [c] r = k₁.followReasons := if_neg (List.cons_ne_nil _ _)
  obtain ⟨st, hst⟩ := k₁.followReasons_state
  have hentries : k₁.endedEntries ds r = k.endedEntries (c :: ds) r := by
    rw [← k.endedEntries_cons c ds r]
    have hmap : k.endedEntries [c] r = (k.restatus c (.finished r)).entries := by
      unfold Campaign.restatus Campaign.endedEntries
      simp only [List.mem_singleton]
    unfold Campaign.endedEntries
    exact congrArg (List.map _) hmap
  have hfollowed : k₁.followReasons.endedEntries ds r = k₁.endedEntries ds r := by rw [hst]; rfl
  have howed : { k₁.followReasons with progressOwed := false, entries := k₁.endedEntries ds r } =
      { k₁.followReasons with entries := k₁.endedEntries ds r } := by rw [hst]
  unfold Campaign.ended at hone ⊢
  rw [hone, if_neg hd, if_neg (List.cons_ne_nil _ _), hfollowed, howed, Campaign.followReasons_again, hentries]

theorem Campaign.ended_deferred {k : Campaign} (h : k.deferredSuspend = false) : (k.ended cs r).deferredSuspend = false := by
  unfold Campaign.ended
  split
  · exact h
  · obtain ⟨st, hst⟩ := Campaign.followReasons_state { k with progressOwed := false, entries := k.endedEntries cs r }
    rw [hst]
    exact h

theorem Campaign.ended_entries (k : Campaign) (cs : List Nat) (r : CaptureResult) :
    (k.ended cs r).entries = k.endedEntries cs r := by
  unfold Campaign.ended
  split
  · rename_i hcs
    subst hcs
    unfold Campaign.endedEntries
    simp
  · obtain ⟨st, hst⟩ := Campaign.followReasons_state { k with progressOwed := false, entries := k.endedEntries cs r }
    rw [hst]

/-- Without a reason to suspend, the results leave the state alone. -/
theorem Campaign.ended_free {k : Campaign} (h : k.host = false ∧ k.window = false) :
    k.ended cs r = { k with progressOwed := k.progressOwed && cs.isEmpty, entries := k.endedEntries cs r } := by
  cases cs with
  | nil =>
    have hsame : k.endedEntries [] r = k.entries := by
      unfold Campaign.endedEntries
      simp
    rw [hsame, List.isEmpty_nil, Bool.and_true]
    rfl
  | cons c cs =>
    refine (if_neg (List.cons_ne_nil _ _)).trans ?_
    rw [List.isEmpty_cons, Bool.and_false]
    exact Campaign.followReasons_none (.inr h)

/-- With an entry left COMMITTING a reason to suspend has the campaign SUSPENDING. -/
theorem Campaign.ended_committing {k : Campaign} (hidle : k.state ≠ .idle) (hcs : cs ≠ [])
    (hflight : ∃ e ∈ k.entries, e.circuit ∉ cs ∧ e.status.isCommitting = true) :
    k.ended cs r = { k with
      progressOwed := false, entries := k.endedEntries cs r
      state := if k.host || k.window then .suspending else k.state } := by
  refine (if_neg hcs).trans ?_
  by_cases h : (k.host || k.window) = true
  · have hany : Campaign.anyInFlight { k with progressOwed := false, entries := k.endedEntries cs r } = true := by
      obtain ⟨e, he, hout, hcommitting⟩ := hflight
      refine List.any_eq_true.mpr ⟨e, List.mem_map.mpr ⟨e, he, if_neg hout⟩, ?_⟩
      cases hs : e.status with
      | committing l => rfl
      | _ => rw [hs] at hcommitting; cases hcommitting
    refine (if_pos ⟨hidle, h⟩).trans ?_
    rw [hany, h]
    rfl
  · refine (if_neg fun hf => h hf.2).trans ?_
    rw [if_neg h]

/-- Results one after another, in a campaign with some other entry unfinished. -/
theorem State.foldl_finishEntry_goes (cs : List Nat) (s : State) (hdeferred : s.campaign.deferredSuspend = false)
    (hgoes : ∃ e ∈ s.campaign.entries, e.circuit ∉ cs ∧ e.status.isFinished = false) :
    cs.foldl (fun t c => t.finishEntry c r) s = { s with campaign := s.campaign.ended cs r } := by
  induction cs generalizing s with
  | nil => rfl
  | cons c cs ih =>
    obtain ⟨e, he, hout, hopen⟩ := hgoes
    rw [List.mem_cons, not_or] at hout
    have hone : s.finishEntry c r = { s with campaign := s.campaign.ended [c] r } := by
      rw [State.finishEntry_goesOn ⟨e, he, hout.1, hopen⟩, Campaign.goesOn_ended hdeferred]
    have hkept : e ∈ (s.campaign.ended [c] r).entries := by
      rw [Campaign.ended_entries]
      exact List.mem_map.mpr ⟨e, he, if_neg (by simpa using hout.1)⟩
    rw [List.foldl_cons, hone, ih { s with campaign := s.campaign.ended [c] r } (Campaign.ended_deferred hdeferred)
      ⟨e, hkept, hout.2, hopen⟩]
    by_cases hcs : cs = []
    · subst hcs
      rfl
    · rw [Campaign.ended_ended hcs]

/-- Results one after another, the last of which ends the campaign. -/
theorem State.foldl_finishEntry_ends (cs : List Nat) (s : State) (hdeferred : s.campaign.deferredSuspend = false)
    (hnd : cs.Nodup) (hcs : cs ≠ []) (hopen : ∀ c ∈ cs, ∃ e ∈ s.campaign.entries, e.circuit = c ∧ e.status.isFinished = false)
    (hothers : ∀ e ∈ s.campaign.entries, e.circuit ∉ cs → e.status.isFinished = true)
    (hreserved : 1 ≤ s.reserved.captureDone) :
    cs.foldl (fun t c => t.finishEntry c r) s =
      { s with
        campaign :=
          { s.campaign with
            state := .idle, host := false, window := false, progressOwed := false, deferredSuspend := false
            entries := s.campaign.endedEntries cs r }
        reserved := { s.reserved with captureDone := s.reserved.captureDone - 1 }
        notices := s.notices ++
          [.captureDone (s.campaign.endedEntries cs r).length
            ({ s.campaign with entries := s.campaign.endedEntries cs r } : Campaign).resultCounts s.campaign.cancelled
            s.clock] } := by
  obtain ⟨init, c, rfl⟩ := (List.eq_nil_or_concat cs).resolve_left hcs
  rw [List.concat_eq_append] at *
  have hc : c ∉ init := fun h => (List.nodup_append.mp hnd).2.2 c h c (by simp) rfl
  obtain ⟨e, he, hec, hunfinished⟩ := hopen c (by simp)
  rw [List.foldl_append, State.foldl_finishEntry_goes init s hdeferred ⟨e, he, hec ▸ hc, hunfinished⟩]
  have hlast : ∀ x ∈ (s.campaign.ended init r).entries, x.circuit ≠ c → x.status.isFinished = true := by
    intro x hx hne
    rw [Campaign.ended_entries] at hx
    obtain ⟨y, hy, rfl⟩ := List.mem_map.mp hx
    by_cases hin : y.circuit ∈ init
    · rw [if_pos hin]
      rfl
    · rw [if_neg hin] at hne ⊢
      exact hothers y hy (by simp [hin, hne])
  have hentries : ((s.campaign.ended init r).restatus c (.finished r)).entries = s.campaign.endedEntries (init ++ [c]) r := by
    have happend := congrArg Campaign.entries (s.campaign.endedEntries_append init c r)
    refine Eq.trans ?_ happend
    exact congrArg (List.map _) (s.campaign.ended_entries init r)
  have hrest : (s.campaign.ended init r).handOff = s.campaign.handOff ∧
      (s.campaign.ended init r).cancelled = s.campaign.cancelled := by
    unfold Campaign.ended
    split
    · exact ⟨rfl, rfl⟩
    · obtain ⟨st, hst⟩ :=
        Campaign.followReasons_state { s.campaign with progressOwed := false, entries := s.campaign.endedEntries init r }
      rw [hst]
      exact ⟨rfl, rfl⟩
  have hcounts : ((s.campaign.ended init r).restatus c (.finished r)).resultCounts =
      ({ s.campaign with entries := s.campaign.endedEntries (init ++ [c]) r } : Campaign).resultCounts := by
    unfold Campaign.resultCounts Campaign.countResult
    rw [hentries]
  refine (State.finishEntry_last (s := { s with campaign := s.campaign.ended init r }) hlast hreserved).trans ?_
  have hcampaign : ({ (s.campaign.ended init r).restatus c (.finished r) with
      state := .idle, host := false, window := false, progressOwed := false, deferredSuspend := false } : Campaign) =
      { s.campaign with
        state := .idle, host := false, window := false, progressOwed := false, deferredSuspend := false
        entries := s.campaign.endedEntries (init ++ [c]) r } := by
    have hfields : ∀ x y : Campaign, x.entries = y.entries → x.handOff = y.handOff → x.cancelled = y.cancelled →
        ({ x with state := .idle, host := false, window := false, progressOwed := false, deferredSuspend := false } : Campaign) =
          { y with state := .idle, host := false, window := false, progressOwed := false, deferredSuspend := false } :=
      fun x y he hh hc => by rw [he, hh, hc]
    exact hfields ((s.campaign.ended init r).restatus c (.finished r))
      { s.campaign with entries := s.campaign.endedEntries (init ++ [c]) r } hentries hrest.1 hrest.2
  rw [hcampaign, hcounts, hentries, hrest.2]

/-! ## CANCEL_CAPTURE -/

/-- Cancelling a capture stops its lane, ends its entry, and leaves its circuit IDLE. -/
theorem State.cancelMeasuring_eq {l : LaneId} (h : s.campaign.entryFor c = some ⟨c, .measuring l⟩) :
    s.cancelMeasuring c =
      { s.finishEntry c .cancelled with
        circuits := (s.setCircuit c { s.circuit c with state := .idle }).circuits
        lanes := s.lanes.set l (s.lane l).stop, queue := s.queue ++ [], looks := s.looks } := by
  have hstop : s.stopCapture c =
      { s with circuits := s.circuits, lanes := s.lanes.set l (s.lane l).stop, queue := s.queue, looks := s.looks } := by
    unfold State.stopCapture
    rw [h]
    rfl
  have hnamed : (s.finishEntry c .cancelled).namedUnprocessed c = false := State.finishEntry_namedUnprocessed
  unfold State.cancelMeasuring State.makeIdle
  rw [hstop, s.finishEntry_table, List.append_nil]
  exact if_neg (fun hn => Bool.false_ne_true (hnamed.symm.trans hn))

theorem State.cancelMeasuring_looks (s : State) (c : Nat) : (s.cancelMeasuring c).looks = s.looks := by
  have hstop : (s.stopCapture c).looks = s.looks := by
    unfold State.stopCapture
    split <;> rfl
  have hnamed : ((s.stopCapture c).finishEntry c .cancelled).namedUnprocessed c = false :=
    State.finishEntry_namedUnprocessed
  obtain ⟨-, -, -, hlooks⟩ := (s.stopCapture c).finishEntry_keeps c .cancelled
  unfold State.cancelMeasuring State.makeIdle
  exact (congrArg State.looks (if_neg (fun hn => Bool.false_ne_true (hnamed.symm.trans hn)))).trans (hlooks.trans hstop)

/-- The circuits of the entries with a status. -/
theorem Campaign.mem_withStatus {k : Campaign} {p : EntryStatus → Bool} (hnd : (k.entries.map (·.circuit)).Nodup)
    {e : CaptureEntry} (he : e ∈ k.entries) : e.circuit ∈ k.withStatus p ↔ p e.status = true := by
  unfold Campaign.withStatus
  rw [List.mem_map]
  constructor
  · rintro ⟨x, hx, hxe⟩
    obtain ⟨hx, hp⟩ := List.mem_filter.mp hx
    rwa [List.inj_on_of_nodup_map hnd hx he hxe] at hp
  · exact fun hp => ⟨e, List.mem_filter.mpr ⟨he, hp⟩, rfl⟩

theorem Campaign.withStatus_nodup {k : Campaign} {p : EntryStatus → Bool} (hnd : (k.entries.map (·.circuit)).Nodup) :
    (k.withStatus p).Nodup := (List.filter_sublist.map _).nodup hnd

theorem Campaign.withStatus_length (k : Campaign) (p : EntryStatus → Bool) :
    (k.withStatus p).length = k.entries.countP fun e => p e.status := by
  rw [Campaign.withStatus, List.length_map, List.countP_eq_length_filter]

/-- A circuit whose entry is MEASURING, as the list of such circuits and as the entry for it say. -/
theorem State.mem_measuring (hnd : (s.campaign.entries.map (·.circuit)).Nodup) :
    c ∈ s.campaign.withStatus EntryStatus.isMeasuring ↔ s.entryIs c EntryStatus.isMeasuring = true := by
  constructor
  · intro h
    obtain ⟨e, he, rfl⟩ := List.mem_map.mp h
    obtain ⟨he, hm⟩ := List.mem_filter.mp he
    unfold State.entryIs
    rw [Campaign.entryFor_of_mem hnd he]
    exact hm
  · intro h
    obtain ⟨l, hl⟩ := (s.entryIs_measuring c).mp h
    obtain ⟨he, -⟩ := Campaign.entryFor_mem hl
    exact (Campaign.mem_withStatus hnd he).mpr rfl

/-- What CANCEL_CAPTURE does to the table and the lanes, and to the campaign as a chain of results. -/
theorem State.cancel_eq (s : State) (hnd : (s.campaign.entries.map (·.circuit)).Nodup) :
    ∃ C L, s.cancel =
        ({ (s.campaign.withStatus EntryStatus.isMeasuring ++ s.campaign.withStatus (· == .unprocessed)).foldl
              (fun t c => t.finishEntry c .cancelled) { s with campaign := { s.campaign with cancelled := true } } with
            circuits := C, lanes := L, queue := s.queue, looks := s.looks },
          (s.campaign.withStatus EntryStatus.isMeasuring).length + (s.campaign.withStatus (· == .unprocessed)).length) ∧
      (∀ k, tableRead {} C k =
        if s.entryIs k EntryStatus.isMeasuring then { s.circuit k with state := .idle } else s.circuit k) ∧
      ∀ l : LaneId, L[l] = if ∃ e ∈ s.campaign.entries, e.status = .measuring l then (s.lane l).stop else s.lane l := by
  let s₀ : State := { s with campaign := { s.campaign with cancelled := true } }
  have hmem : ∀ c, c ∈ s.campaign.withStatus EntryStatus.isMeasuring ↔ s₀.entryIs c EntryStatus.isMeasuring = true :=
    fun c => State.mem_measuring hnd
  obtain ⟨C, L, looks, hfold, hcircuits, hlanes⟩ := State.foldl_interrupt (op := State.cancelMeasuring)
    (f := fun r => { r with state := .idle }) (g := id) (q := fun _ => []) (r := .cancelled)
    (fun t c l h => ⟨_, State.cancelMeasuring_eq h⟩) (s.campaign.withStatus EntryStatus.isMeasuring) s₀
    (Campaign.withStatus_nodup hnd)
    (fun t c hc _ hm => absurd ((hmem c).mp hc) (by rw [hm]; nofun))
  have hall : (s.campaign.withStatus EntryStatus.isMeasuring).filter (fun c => s₀.entryIs c EntryStatus.isMeasuring) =
      s.campaign.withStatus EntryStatus.isMeasuring := List.filter_eq_self.mpr fun c hc => (hmem c).mp hc
  have hlooks : looks = s.looks := by
    have hkept := foldl_frame (g := State.looks) State.cancelMeasuring_looks
      (s.campaign.withStatus EntryStatus.isMeasuring) s₀
    rwa [hfold] at hkept
  have hqueue : s₀.queue ++ (s.campaign.withStatus EntryStatus.isMeasuring).flatMap (fun _ => ([] : List QueueEntry)) =
      s.queue := by simp [s₀]
  rw [hall, hqueue, hlooks] at hfold
  rw [hall] at hlanes
  refine ⟨C, L, ?_, fun k => (hcircuits k).trans ?_, fun l => (hlanes l).trans ?_⟩
  · have hmove := State.foldl_finishEntry_table (s.campaign.withStatus (· == .unprocessed)) .cancelled
      ((s.campaign.withStatus EntryStatus.isMeasuring).foldl (fun t c => t.finishEntry c .cancelled) s₀) C L s.queue s.looks
    rw [List.foldl_append]
    have hfirst : s.cancel.1 = (s.campaign.withStatus (· == .unprocessed)).foldl (fun t c => t.finishEntry c .cancelled)
        ((s.campaign.withStatus EntryStatus.isMeasuring).foldl State.cancelMeasuring s₀) := rfl
    refine Prod.ext ?_ rfl
    rw [hfirst, hfold]
    exact hmove
  · by_cases hk : s₀.entryIs k EntryStatus.isMeasuring = true
    · rw [if_pos ((hmem k).mpr hk), if_pos hk, if_pos (by exact hk)]
      rfl
    · rw [if_neg fun h => hk ((hmem k).mp h), if_neg (by exact hk)]
      rfl
  · refine if_congr ?_ rfl rfl
    constructor
    · rintro ⟨c, -, he⟩
      exact ⟨_, (Campaign.entryFor_mem he).1, rfl⟩
    · rintro ⟨e, he, hl⟩
      obtain ⟨circuit, status⟩ := e
      subst hl
      have hentry : s.campaign.entryFor circuit = some ⟨circuit, .measuring l⟩ := Campaign.entryFor_of_mem hnd he
      exact ⟨circuit, (Campaign.mem_withStatus hnd he).mpr rfl, hentry⟩

/-- With no capture in the measuring phase CANCEL_CAPTURE ends entries alone. -/
theorem State.cancel_waiting (hnone : ∀ e ∈ s.campaign.entries, e.status.isMeasuring = false) :
    s.campaign.withStatus EntryStatus.isMeasuring = [] ∧
    s.cancel = ((s.campaign.withStatus (· == .unprocessed)).foldl (fun t c => t.finishEntry c .cancelled)
        { s with campaign := { s.campaign with cancelled := true } },
      s.campaign.entries.countP fun e => e.status == .unprocessed) := by
  have hempty : s.campaign.withStatus EntryStatus.isMeasuring = [] := List.map_eq_nil_iff.mpr
    (List.filter_eq_nil_iff.mpr fun e he => by rw [hnone e he]; nofun)
  refine ⟨hempty, ?_⟩
  rw [← s.campaign.withStatus_length (· == .unprocessed)]
  refine Prod.ext ?_ ?_
  · show (s.campaign.withStatus (· == .unprocessed)).foldl (fun t c => t.finishEntry c .cancelled)
      ((s.campaign.withStatus EntryStatus.isMeasuring).foldl State.cancelMeasuring _) = _
    rw [hempty]
    rfl
  · show (s.campaign.withStatus EntryStatus.isMeasuring).length + _ = _
    rw [hempty, List.length_nil, Nat.zero_add]
    rfl

theorem Campaign.mem_cancelled {k : Campaign} (hnd : (k.entries.map (·.circuit)).Nodup) {e : CaptureEntry}
    (he : e ∈ k.entries) :
    e.circuit ∈ k.withStatus EntryStatus.isMeasuring ++ k.withStatus (· == .unprocessed) ↔
      e.status = .unprocessed ∨ e.status.isMeasuring = true := by
  rw [List.mem_append, Campaign.mem_withStatus hnd he, Campaign.mem_withStatus hnd he, beq_iff_eq]
  exact Or.comm

/-- The circuits of the entries that CANCEL_CAPTURE ends are distinct. -/
theorem Campaign.cancelled_nodup {k : Campaign} (hnd : (k.entries.map (·.circuit)).Nodup) :
    (k.withStatus EntryStatus.isMeasuring ++ k.withStatus (· == .unprocessed)).Nodup := by
  refine List.nodup_append.mpr ⟨Campaign.withStatus_nodup hnd, Campaign.withStatus_nodup hnd, ?_⟩
  rintro c hm _ hw rfl
  obtain ⟨e, he, rfl⟩ := List.mem_map.mp hw
  obtain ⟨he, hs⟩ := List.mem_filter.mp he
  have hmeasuring := (Campaign.mem_withStatus hnd he).mp hm
  rw [beq_iff_eq.mp hs] at hmeasuring
  cases hmeasuring

/-- The entries that CANCEL_CAPTURE ends. -/
theorem Campaign.endedEntries_cancelled {k : Campaign} (hnd : (k.entries.map (·.circuit)).Nodup) :
    k.endedEntries (k.withStatus EntryStatus.isMeasuring ++ k.withStatus (· == .unprocessed)) .cancelled =
      k.entries.map fun e =>
        if e.status = .unprocessed ∨ e.status.isMeasuring = true then { e with status := .finished .cancelled } else e := by
  exact List.map_congr_left fun e he => if_congr (Campaign.mem_cancelled hnd he) rfl rfl

theorem Campaign.endedEntries_waiting {k : Campaign} (hnd : (k.entries.map (·.circuit)).Nodup) :
    k.endedEntries (k.withStatus (· == .unprocessed)) .cancelled =
      k.entries.map fun e => if e.status = .unprocessed then { e with status := .finished .cancelled } else e := by
  refine List.map_congr_left fun e he => if_congr ?_ rfl rfl
  rw [Campaign.mem_withStatus hnd he, beq_iff_eq]

theorem EntryStatus.isFinished_cases (st : EntryStatus) :
    st.isFinished = false ↔ st = .unprocessed ∨ st.isMeasuring = true ∨ st.isCommitting = true := by
  cases st <;> simp [EntryStatus.isFinished, EntryStatus.isMeasuring, EntryStatus.isCommitting]

theorem EntryStatus.not_cancelled_of_committing {st : EntryStatus} (h : st.isCommitting = true) :
    ¬(st = .unprocessed ∨ st.isMeasuring = true) := by
  cases st <;> simp_all [EntryStatus.isMeasuring, EntryStatus.isCommitting]

/-- A lane that is stopped is not left TUNED at the end of its work. -/
theorem Lane.stop_tunedAtEnd (r : Lane) : r.stop.tunedAtEnd = false := by
  unfold Lane.stop Lane.tunedAtEnd
  cases hr : r.state <;> simp [Lane.endWork, Lane.park, hr]

/-- Stopping lanes leaves a part between commands at rest. -/
theorem State.cancelled_atRest {p : LaneId → Prop} [DecidablePred p] {L : Vector Lane 8} (h : s.ready = true)
    (hlanes : ∀ l : LaneId, L[l] = if p l then (s.lane l).stop else s.lane l) (ht : t.lanes = L)
    (hlooks : t.looks = s.looks) : t.atRest = true := by
  obtain ⟨hempty, hidle⟩ := s.atRest_iff.mp (State.atRest_of_ready h)
  refine t.atRest_iff.mpr ⟨hlooks.trans hempty, fun l => ?_⟩
  have hl : t.lane l = if p l then (s.lane l).stop else s.lane l := by
    unfold State.lane
    rw [ht]
    exact hlanes l
  rw [hl]
  split
  · exact Lane.stop_tunedAtEnd _
  · exact hidle l

theorem cancelled_ne_nil {k : Campaign} (hnd : (k.entries.map (·.circuit)).Nodup)
    (h : ∃ e ∈ k.entries, e.status.isMeasuring = true) :
    k.withStatus EntryStatus.isMeasuring ++ k.withStatus (· == .unprocessed) ≠ [] := by
  obtain ⟨e, he, hm⟩ := h
  exact List.ne_nil_of_mem ((Campaign.mem_cancelled hnd he).mpr (.inr hm))

theorem Campaign.cancelled_count (k : Campaign) :
    (k.withStatus EntryStatus.isMeasuring).length + (k.withStatus (· == .unprocessed)).length =
      k.entries.countP fun e => e.status == .unprocessed || e.status.isMeasuring := by
  rw [Campaign.withStatus_length, Campaign.withStatus_length]
  induction k.entries with
  | nil => rfl
  | cons e es ih =>
    simp only [List.countP_cons, ← ih]
    cases e.status <;> simp [EntryStatus.isMeasuring] <;> omega

end

end Sys2Proof.Machine

namespace Sys2Proof.Proofs

open Sys2Proof.Machine

/-- Settles O25: the lanes of captures in the measuring phase stop, and the entries end one after another. -/
theorem cancelCaptureTaken : Obligations.CancelCaptureTaken := by
  have hhandle : ∀ (s : State) (tag : U8), s.campaign.state ≠ .idle →
      s.handleRequest tag .cancelCapture = s.cancel.1.answer tag 0x45 .ok (.cancelledEntries s.cancel.2) := fun s tag h =>
    if_neg h
  refine ⟨?_, ?_, ?_, ?_, ?_⟩
  · exact fun s tag h hidle => State.arrive_refused h (if_pos hidle) rfl
  · intro s tag n h hrunning hreasons hnd hcommitting hmeasuring
    obtain ⟨-, hcancel⟩ := State.cancel_waiting hmeasuring
    have hgoes : ∃ e ∈ s.campaign.entries, e.circuit ∉ s.campaign.withStatus (· == .unprocessed) ∧
        e.status.isFinished = false := by
      obtain ⟨e, he, hc⟩ := hcommitting
      refine ⟨e, he, fun hin => ?_, e.status.isFinished_of_committing hc⟩
      rw [Campaign.mem_withStatus hnd he, beq_iff_eq] at hin
      rw [hin] at hc
      cases hc
    have hempty : (s.campaign.withStatus (· == .unprocessed)).isEmpty = (n == 0) := by
      rw [← show _ = n from s.campaign.withStatus_length (· == .unprocessed)]
      cases s.campaign.withStatus (· == .unprocessed) <;> rfl
    have hfold := State.foldl_finishEntry_goes (r := .cancelled) (s.campaign.withStatus (· == .unprocessed))
      { s with campaign := { s.campaign with cancelled := true } } hreasons.2.2 hgoes
    rw [Campaign.ended_free (k := { s.campaign with cancelled := true }) ⟨hreasons.1, hreasons.2.1⟩, hempty] at hfold
    have hh := hhandle s tag (by rw [hrunning]; nofun)
    rw [hcancel, hfold] at hh
    rw [← Campaign.endedEntries_waiting hnd]
    exact State.arrive_changed h hh rfl rfl rfl rfl
  · intro s tag entries h hidle hdeferred hnd hwaiting hflight hreserved
    have hmeasuring : ∀ e ∈ s.campaign.entries, e.status.isMeasuring = false := fun e he => by
      have hf := hflight e he
      cases hs : e.status with
      | measuring l => rw [hs] at hf; cases hf
      | _ => rfl
    obtain ⟨-, hcancel⟩ := State.cancel_waiting hmeasuring
    have hsome : s.campaign.withStatus (· == .unprocessed) ≠ [] := by
      obtain ⟨e, he, hs⟩ := hwaiting
      exact List.ne_nil_of_mem ((Campaign.mem_withStatus hnd he).mpr (beq_iff_eq.mpr hs))
    have hopen : ∀ c ∈ s.campaign.withStatus (· == .unprocessed),
        ∃ e ∈ s.campaign.entries, e.circuit = c ∧ e.status.isFinished = false := fun c hc => by
      obtain ⟨e, he, hec⟩ := List.mem_map.mp hc
      obtain ⟨he, hs⟩ := List.mem_filter.mp he
      exact ⟨e, he, hec, e.status.isFinished_cases.mpr (.inl (beq_iff_eq.mp hs))⟩
    have hothers : ∀ e ∈ s.campaign.entries, e.circuit ∉ s.campaign.withStatus (· == .unprocessed) →
        e.status.isFinished = true := fun e he hout => by
      rw [Campaign.mem_withStatus hnd he, beq_iff_eq] at hout
      have hf := hflight e he
      cases hs : e.status with
      | finished r => rfl
      | unprocessed => exact absurd hs hout
      | _ => rw [hs] at hf; cases hf
    have hfold := State.foldl_finishEntry_ends (r := .cancelled) (s.campaign.withStatus (· == .unprocessed))
      { s with campaign := { s.campaign with cancelled := true } } hdeferred (Campaign.withStatus_nodup hnd) hsome hopen
      hothers hreserved
    have hh := hhandle s tag hidle
    rw [hcancel, hfold] at hh
    have hentries : entries = s.campaign.endedEntries (s.campaign.withStatus (· == .unprocessed)) .cancelled :=
      (Campaign.endedEntries_waiting hnd).symm
    rw [hentries]
    exact State.arrive_changed h hh rfl rfl rfl rfl
  · intro s tag entries n h hidle hdeferred hnd hcommitting hmeasuring
    obtain ⟨C, L, hcancel, hcircuits, hlanes⟩ := s.cancel_eq hnd
    have hsome := cancelled_ne_nil hnd hmeasuring
    obtain ⟨e, he, hc⟩ := hcommitting
    have hflight : e.circuit ∉ s.campaign.withStatus EntryStatus.isMeasuring ++ s.campaign.withStatus (· == .unprocessed) :=
      fun hin => EntryStatus.not_cancelled_of_committing hc ((Campaign.mem_cancelled hnd he).mp hin)
    have hfold := State.foldl_finishEntry_goes (r := .cancelled)
      (s.campaign.withStatus EntryStatus.isMeasuring ++ s.campaign.withStatus (· == .unprocessed))
      { s with campaign := { s.campaign with cancelled := true } } hdeferred
      ⟨e, he, hflight, e.status.isFinished_of_committing hc⟩
    rw [Campaign.ended_committing (k := { s.campaign with cancelled := true }) hidle hsome ⟨e, he, hflight, hc⟩] at hfold
    have hh := hhandle s tag hidle
    rw [hcancel, hfold, Campaign.cancelled_count] at hh
    have hentries : entries = s.campaign.endedEntries
        (s.campaign.withStatus EntryStatus.isMeasuring ++ s.campaign.withStatus (· == .unprocessed)) .cancelled :=
      (Campaign.endedEntries_cancelled hnd).symm
    refine ⟨_, State.arrive_answer h hh rfl (State.cancelled_atRest h hlanes rfl rfl) rfl, ?_, hcircuits, hlanes⟩
    rw [hentries]
    rfl
  · intro s tag entries n h hidle hdeferred hnd hcommitting hmeasuring hreserved
    obtain ⟨C, L, hcancel, hcircuits, hlanes⟩ := s.cancel_eq hnd
    have hopen : ∀ c ∈ s.campaign.withStatus EntryStatus.isMeasuring ++ s.campaign.withStatus (· == .unprocessed),
        ∃ e ∈ s.campaign.entries, e.circuit = c ∧ e.status.isFinished = false := fun c hc => by
      obtain hc | hc := List.mem_append.mp hc
      · obtain ⟨e, he, hec⟩ := List.mem_map.mp hc
        obtain ⟨he, hs⟩ := List.mem_filter.mp he
        exact ⟨e, he, hec, e.status.isFinished_cases.mpr (.inr (.inl hs))⟩
      · obtain ⟨e, he, hec⟩ := List.mem_map.mp hc
        obtain ⟨he, hs⟩ := List.mem_filter.mp he
        exact ⟨e, he, hec, e.status.isFinished_cases.mpr (.inl (beq_iff_eq.mp hs))⟩
    have hothers : ∀ e ∈ s.campaign.entries,
        e.circuit ∉ s.campaign.withStatus EntryStatus.isMeasuring ++ s.campaign.withStatus (· == .unprocessed) →
        e.status.isFinished = true := fun e he hout => by
      by_contra hf
      rw [Bool.not_eq_true, e.status.isFinished_cases] at hf
      rw [Campaign.mem_cancelled hnd he] at hout
      obtain hs | hm | hc := hf
      · exact hout (.inl hs)
      · exact hout (.inr hm)
      · rw [hcommitting e he] at hc
        cases hc
    have hfold := State.foldl_finishEntry_ends (r := .cancelled)
      (s.campaign.withStatus EntryStatus.isMeasuring ++ s.campaign.withStatus (· == .unprocessed))
      { s with campaign := { s.campaign with cancelled := true } } hdeferred (Campaign.cancelled_nodup hnd)
      (cancelled_ne_nil hnd hmeasuring) hopen hothers hreserved
    have hh := hhandle s tag hidle
    rw [hcancel, hfold, Campaign.cancelled_count] at hh
    have hentries : entries = s.campaign.endedEntries
        (s.campaign.withStatus EntryStatus.isMeasuring ++ s.campaign.withStatus (· == .unprocessed)) .cancelled :=
      (Campaign.endedEntries_cancelled hnd).symm
    refine ⟨_, State.arrive_answer h hh rfl (State.cancelled_atRest h hlanes rfl rfl) rfl, ?_, hcircuits, hlanes⟩
    rw [hentries]
    rfl

end Sys2Proof.Proofs


/-! # Sense lines: latching, and where an event goes -/

namespace Sys2Proof.Machine

section
variable {s t : State} {l : LineId} {r : SenseLine} {span : Nat}

/-! ## The window that logs an event -/

theorem logEvent_none {e : SenseEvent} {ws : List Window} (h : ∀ w ∈ ws, e.span ∉ w.spans) : logEvent e ws = (ws, none) := by
  induction ws with
  | nil => rfl
  | cons w ws ih =>
    obtain ⟨hw, hws⟩ := List.forall_mem_cons.mp h
    unfold logEvent
    rw [if_neg (by simpa using hw), ih hws]

/-- The window with an event appended, or marked as having had more. -/
def Window.logged (w : Window) (e : SenseEvent) : Window :=
  if w.events.length < 16 then { w with events := w.events ++ [e] } else { w with moreEvents := true }

theorem logEvent_found {e : SenseEvent} {before after : List Window} {w : Window} (hbefore : ∀ x ∈ before, e.span ∉ x.spans)
    (hw : e.span ∈ w.spans) :
    logEvent e (before ++ w :: after) =
      (before ++ w.logged e :: after, some (w.id, decide (w.events.length < 16))) := by
  induction before with
  | nil =>
    rw [List.nil_append, List.nil_append]
    unfold logEvent Window.logged
    rw [if_pos (by simpa using hw)]
    by_cases hroom : w.events.length < 16
    · rw [if_pos (by exact hroom), if_pos hroom, decide_eq_true hroom]
    · rw [if_neg (by exact hroom), if_neg hroom, decide_eq_false hroom]
  | cons x before ih =>
    obtain ⟨hx, hbefore⟩ := List.forall_mem_cons.mp hbefore
    rw [List.cons_append, List.cons_append]
    unfold logEvent
    rw [if_neg (by simpa using hx), ih hbefore]

/-! ## Routes -/

/-- An unbound line's event, or one outside every window of a line that is LOG_ONLY, goes nowhere. -/
theorem State.routeEvent_nowhere
    (h : (s.line l).span = 0 ∨ ((∀ w ∈ s.stack, (s.line l).span ∉ w.spans) ∧ (s.line l).action = .logOnly)) :
    s.routeEvent l = (s, .noticeOnly) := by
  unfold State.routeEvent
  dsimp only
  by_cases hspan : (s.line l).span = 0
  · rw [if_pos hspan]
  · obtain ⟨hstack, haction⟩ := h.resolve_left hspan
    rw [if_neg hspan, logEvent_none hstack, haction]

/-- A bound line's event is logged to the topmost window over its span. -/
theorem State.routeEvent_window {before after : List Window} {w : Window} (hspan : (s.line l).span ≠ 0)
    (hstack : s.stack = before ++ w :: after) (hbefore : ∀ x ∈ before, (s.line l).span ∉ x.spans)
    (hw : (s.line l).span ∈ w.spans) :
    s.routeEvent l =
      ({ s with stack := before ++ w.logged ⟨l, (s.line l).span, s.clock, (s.line l).mode⟩ :: after },
        .window w.id (decide (w.events.length < 16))) := by
  unfold State.routeEvent
  dsimp only
  rw [if_neg hspan, hstack, logEvent_found hbefore hw]

/-- Outside every window a VERIFY line's event verifies its span. -/
theorem State.routeEvent_verify (hspan : (s.line l).span ≠ 0) (hstack : ∀ w ∈ s.stack, (s.line l).span ∉ w.spans)
    (haction : (s.line l).action = .verify) : s.routeEvent l = s.verifySpan (s.line l).span := by
  unfold State.routeEvent
  dsimp only
  rw [if_neg hspan, logEvent_none hstack, haction]

/-- The entry that a sense event queues for a circuit. -/
theorem State.disturb_measuring {c : Nat} {k : LaneId} (h : s.campaign.entryFor c = some ⟨c, .measuring k⟩) :
    ∃ looks, s.disturb c =
      { s.finishEntry c .disturbed with
        circuits := (s.setCircuit c { s.circuit c with state := .pending }).circuits
        lanes := s.lanes.set k (s.lane k).stop, queue := s.queue ++ [plainEntry c .sense], looks := looks } := by
  have hstop : s.stopCapture c =
      { s with circuits := s.circuits, lanes := s.lanes.set k (s.lane k).stop, queue := s.queue, looks := s.looks } := by
    unfold State.stopCapture
    rw [h]
    rfl
  have hmeasuring : s.entryIs c EntryStatus.isMeasuring = true := (s.entryIs_measuring c).mpr ⟨k, h⟩
  obtain ⟨looks, hlooks⟩ := State.lookAtCircuit_eq (State.setCircuitState { s.finishEntry c .disturbed with
    circuits := s.circuits, lanes := s.lanes.set k (s.lane k).stop, queue := s.queue ++ [plainEntry c .sense]
    looks := s.looks } c .pending) c
  refine ⟨looks, ?_⟩
  unfold State.disturb
  rw [if_pos hmeasuring, hstop, s.finishEntry_table]
  exact hlooks

theorem State.disturb_other {c : Nat} (h : s.entryIs c EntryStatus.isMeasuring = false) :
    s.disturb c = s.setCircuit c { s.circuit c with disturbed := true } := by
  unfold State.disturb
  rw [h]
  rfl

/-- The circuits on the span whose captures are in the measuring phase. -/
def State.measuringOn (s : State) (span : Nat) : List Nat :=
  (s.toDisturb span).filter fun c => s.entryIs c EntryStatus.isMeasuring

/-- What a VERIFY event does to a span: its IDLE circuits are queued, and its captures disturbed. -/
theorem State.verifySpan_eq (hnd : (s.crossing span).Nodup) :
    ∃ C L looks, s.verifySpan span =
        ({ (s.measuringOn span).foldl (fun t c => t.finishEntry c .disturbed) s with
            circuits := C, lanes := L, looks := looks
            queue := s.queue ++ (s.toVerify span ++ s.measuringOn span).map fun c => plainEntry c .sense },
          .verify (s.toVerify span).length (s.toDisturb span).length) ∧
      (∀ c, tableRead {} C c =
        if c ∈ s.toVerify span ∨ c ∈ s.measuringOn span then { s.circuit c with state := .pending }
        else if c ∈ s.toDisturb span then { s.circuit c with disturbed := true }
        else s.circuit c) ∧
      ∀ k : LaneId, L[k] = s.stoppedLane (s.measuringOn span) k := by
  obtain ⟨C₁, looks₁, hqueued, hread₁⟩ := State.appendEntries (s := s) (e := fun _ c => plainEntry c .sense)
    (x := fun c => plainEntry c .sense) (cs := s.toVerify span) (fun _ _ _ _ => rfl) fun _ => rfl
  let t : State := { s with
    queue := s.queue ++ (s.toVerify span).map fun c => plainEntry c .sense, circuits := C₁, looks := looks₁ }
  obtain ⟨C, L, looks, hfold, hread, hlanes⟩ := State.foldl_interrupt (op := State.disturb)
    (f := fun r => { r with state := .pending }) (g := fun r => { r with disturbed := true })
    (q := fun c => [plainEntry c .sense]) (r := .disturbed) (fun t c k h => State.disturb_measuring h) (s.toDisturb span) t
    (hnd.filter _) (fun u c _ hu hm => State.disturb_other ((State.entryIs_congr hu).trans hm))
  have hmove := State.foldl_finishEntry_table (s.measuringOn span) .disturbed s C₁ s.lanes t.queue looks₁
  refine ⟨C, L, looks, ?_, fun c => (hread c).trans ?_, hlanes⟩
  · have hqueue : t.queue ++ (s.measuringOn span).flatMap (fun c => [plainEntry c .sense]) =
        s.queue ++ (s.toVerify span ++ s.measuringOn span).map fun c => plainEntry c .sense := by
      rw [List.map_append, ← List.append_assoc, ← List.map_eq_flatMap]
    have hverify : s.verifySpan span = ((s.toDisturb span).foldl State.disturb
        ((s.toVerify span).foldl (fun s c => s.appendEntry (plainEntry c .sense)) s),
        .verify (s.toVerify span).length (s.toDisturb span).length) := rfl
    rw [hverify, hqueued, ← hqueue]
    refine Prod.ext (hfold.trans ?_) rfl
    exact congrArg (fun u : State => { u with
      circuits := C, lanes := L, looks := looks
      queue := t.queue ++ (s.measuringOn span).flatMap fun c => [plainEntry c .sense] }) hmove
  · have ht : t.circuit c = if c ∈ s.toVerify span then { s.circuit c with state := .pending } else s.circuit c := hread₁ c
    have hm : c ∈ s.measuringOn span ↔ c ∈ s.toDisturb span ∧ s.entryIs c EntryStatus.isMeasuring = true :=
      List.mem_filter
    have hsame : t.entryIs c EntryStatus.isMeasuring = s.entryIs c EntryStatus.isMeasuring := rfl
    have hapart : c ∈ s.toDisturb span → c ∉ s.toVerify span := fun hd hv => by
      have hcapturing := (List.mem_filter.mp hd).2
      have hidle := (List.mem_filter.mp hv).2
      rw [beq_iff_eq] at hcapturing
      rw [hcapturing] at hidle
      cases hidle
    rw [ht, hsame]
    by_cases hd : c ∈ s.toDisturb span
    · rw [if_pos hd, if_neg (hapart hd)]
      by_cases hmeasuring : s.entryIs c EntryStatus.isMeasuring = true
      · rw [if_pos hmeasuring, if_pos (.inr (hm.mpr ⟨hd, hmeasuring⟩))]
      · rw [if_neg hmeasuring, if_neg (by rw [hm]; simp [hapart hd, hmeasuring]), if_pos hd]
    · rw [if_neg hd, if_neg hd]
      exact if_congr (by rw [hm]; simp [hd]) rfl rfl

/-- A VERIFY event in a campaign that goes on and has no reason to suspend. -/
theorem State.verifySpan_goes (hnd : (s.crossing span).Nodup)
    (hreasons : s.campaign.host = false ∧ s.campaign.window = false ∧ s.campaign.deferredSuspend = false)
    (hgoes : s.measuringOn span = [] ∨
      ∃ e ∈ s.campaign.entries, e.circuit ∉ s.measuringOn span ∧ e.status.isFinished = false) :
    ∃ C L looks, s.verifySpan span =
        ({ s with
            circuits := C, lanes := L, looks := looks
            queue := s.queue ++ (s.toVerify span ++ s.measuringOn span).map fun c => plainEntry c .sense
            campaign :=
              { s.campaign with
                progressOwed := s.campaign.progressOwed && (s.measuringOn span).isEmpty
                entries := s.campaign.endedEntries (s.measuringOn span) .disturbed } },
          .verify (s.toVerify span).length (s.toDisturb span).length) ∧
      (∀ c, tableRead {} C c =
        if c ∈ s.toVerify span ∨ c ∈ s.measuringOn span then { s.circuit c with state := .pending }
        else if c ∈ s.toDisturb span then { s.circuit c with disturbed := true }
        else s.circuit c) ∧
      ∀ k : LaneId, L[k] = s.stoppedLane (s.measuringOn span) k := by
  obtain ⟨hhost, hwindow, hdeferred⟩ := hreasons
  have hfold : (s.measuringOn span).foldl (fun t c => t.finishEntry c .disturbed) s =
      { s with campaign := s.campaign.ended (s.measuringOn span) .disturbed } := by
    obtain hnone | hgoes := hgoes
    · rw [hnone]
      rfl
    · exact State.foldl_finishEntry_goes _ s hdeferred hgoes
  rw [Campaign.ended_free ⟨hhost, hwindow⟩] at hfold
  obtain ⟨C, L, looks, hverify, hread, hlanes⟩ := State.verifySpan_eq hnd
  rw [hfold] at hverify
  exact ⟨C, L, looks, hverify, hread, hlanes⟩

/-- Without a capture on the span a VERIFY event queues its IDLE circuits alone. -/
theorem State.verifySpan_idle (hnone : ∀ c ∈ s.crossing span, (s.circuit c).state ≠ .capturing) :
    ∃ C looks, s.verifySpan span =
        ({ s with
            circuits := C, looks := looks, queue := s.queue ++ (s.toVerify span).map fun c => plainEntry c .sense },
          .verify (s.toVerify span).length 0) ∧
      ∀ c, tableRead {} C c = if c ∈ s.toVerify span then { s.circuit c with state := .pending } else s.circuit c := by
  have hdisturb : s.toDisturb span = [] := List.filter_eq_nil_iff.mpr fun c hc => by simpa using hnone c hc
  obtain ⟨C, looks, hqueued, hread⟩ := State.appendEntries (s := s) (e := fun _ c => plainEntry c .sense)
    (x := fun c => plainEntry c .sense) (cs := s.toVerify span) (fun _ _ _ _ => rfl) fun _ => rfl
  have hverify : s.verifySpan span = ((s.toDisturb span).foldl State.disturb
      ((s.toVerify span).foldl (fun s c => s.appendEntry (plainEntry c .sense)) s),
      .verify (s.toVerify span).length (s.toDisturb span).length) := rfl
  refine ⟨C, looks, ?_, hread⟩
  rw [hverify, hdisturb, hqueued]
  rfl

/-- The circuits that a VERIFY event queues, and those whose captures it disturbs, by their states. -/
theorem State.toVerify_eq (s : State) (span : Nat) :
    s.toVerify span =
      (s.crossing span).filter fun c => (s.circuit c).state = .idle ∧ (s.circuit c).changing = false :=
  List.filter_congr fun c _ => by cases (s.circuit c).state <;> simp

theorem State.toDisturb_eq (s : State) (span : Nat) :
    s.toDisturb span = (s.crossing span).filter fun c => (s.circuit c).state = .capturing := rfl

/-- Stopping lanes makes no lane ready. -/
theorem State.lanesBusy_stopped {cs : List Nat} {L : Vector Lane 8} (h : s.lanesBusy = true)
    (hlanes : ∀ k : LaneId, L[k] = s.stoppedLane cs k) (ht : t.lanes = L) : t.lanesBusy = true := by
  refine List.all_eq_true.mpr fun k _ => ?_
  have hk : t.lane k = s.stoppedLane cs k := by
    unfold State.lane
    rw [ht]
    exact hlanes k
  have hbusy := State.not_ready_of_busy h k
  rw [hk]
  unfold State.stoppedLane
  split
  · unfold Lane.ready at hbusy ⊢
    rw [Lane.stop_tunedAtEnd]
    unfold Lane.stop
    cases hr : (s.lane k).state <;> simp_all [Lane.endWork, Lane.park]
  · rw [hbusy]
    rfl

/-! ## Events -/

/-- A masked status that does not go from clear to set is no event. -/
theorem State.settleLine_quiet (h : (s.line l).masked = true ∨ r.masking.masked = false) :
    s.settleLine l r = s.setLine l r.masking := by
  unfold State.settleLine
  dsimp only
  exact if_neg (by obtain h | h := h <;> simp [h])

theorem State.settleLine_event (h : (s.line l).masked = false ∧ r.masking.masked = true) :
    s.settleLine l r = (s.setLine l r.masking).takeEvent l := by
  unfold State.settleLine
  dsimp only
  exact if_pos (by simp [h.1, h.2])

/-- An event is routed, and its notice queued or discarded. -/
theorem State.takeEvent_eq {route : SenseRoute} (h : s.routeEvent l = (t, route)) :
    s.takeEvent l = t.queueUnreserved (.sense l (s.line l).span (s.line l).mode s.clock route) := by
  unfold State.takeEvent
  dsimp only
  rw [h]

/-- A notice changes neither the circuits nor the lanes. -/
theorem State.noticed_circuits (s : State) (n : Notice) : (s.noticed n).circuits = s.circuits := by
  unfold State.noticed
  split
  · rfl
  · split <;> rfl

theorem State.noticed_lanes (s : State) (n : Notice) : (s.noticed n).lanes = s.lanes := by
  unfold State.noticed
  split
  · rfl
  · split <;> rfl

/-! ## Transitions -/

theorem SenseLine.latches_eq (r : SenseLine) (high : Bool) :
    r.latches high = ((r.mode == .edge && r.bothEdges) || high == (r.polarity == .high)) := by
  unfold SenseLine.latches
  cases r.mode <;> cases r.bothEdges <;> cases r.polarity <;> cases high <;> rfl

/-- The record of a line after a transition of its input. -/
def SenseLine.moved (r : SenseLine) (high : Bool) : SenseLine :=
  SenseLine.masking { r with input := high, raw := r.raw || r.latches high }

/-- A transition on a calm part is an event of it. -/
theorem exec_senseInputTransition (h : s.calm = true) (high : Bool) :
    exec (.senseInputTransition l high) s = .next (s.whenAlive fun s => s.senseInput l high) := by
  obtain ⟨hrun, -⟩ := s.calm_iff.mp h
  have hexec : exec (.senseInputTransition l high) s =
      .next (if s.takeDue.phase = .off then s.takeDue.setLine l { s.takeDue.line l with input := high }
        else (s.takeDue.senseInput l high).settle) := rfl
  rw [hexec, s.takeDue_calm h, if_neg (by rw [hrun]; nofun), s.whenAlive_calm h]

theorem State.senseInput_same {high : Bool} (h : (s.line l).input = high) : s.senseInput l high = s := if_pos h

theorem State.senseInput_moved {high : Bool} (h : (s.line l).input ≠ high) :
    s.senseInput l high = s.settleLine l { s.line l with input := high, raw := (s.line l).raw || (s.line l).latches high } :=
  if_neg h

/-- A transition that is an event, taken by `t`. -/
theorem State.exec_event {high : Bool} {route : SenseRoute} (h : s.calm = true) (hmoved : (s.line l).input ≠ high)
    (hevent : (s.line l).masked = false ∧ ((s.line l).moved high).masked = true)
    (hroute : (s.setLine l ((s.line l).moved high)).routeEvent l = (t, route)) (hwork : t.NoWork)
    (hframes : t.frames = s.frames) (hphase : t.phase = s.phase) (hsent : t.restartReplySent = s.restartReplySent) :
    exec (.senseInputTransition l high) s =
      .next (State.noticed { t with looks := [] }
        (.sense l ((s.line l).moved high).span ((s.line l).moved high).mode s.clock route)) := by
  have hf : s.senseInput l high =
      t.queueUnreserved (.sense l ((s.line l).moved high).span ((s.line l).moved high).mode s.clock route) := by
    rw [State.senseInput_moved hmoved, State.settleLine_event hevent]
    refine (State.takeEvent_eq hroute).trans ?_
    rw [State.line_setLine_self]
    rfl
  rw [exec_senseInputTransition h]
  exact congrArg Host.Outcome.next
    (State.whenAlive_noticed (f := fun s => s.senseInput l high) h hf hwork hframes hphase hsent)

end

end Sys2Proof.Machine

namespace Sys2Proof.Proofs

open Sys2Proof.Machine

/-- Settles O43: the line latches by its mode and polarity, and an event goes where its route says. -/
theorem senseTransition : Obligations.SenseTransition := by
  have hmoved : ∀ (s : State) (l : LineId) (high : Bool), (s.line l).moved high =
      { s.line l with
        input := high
        raw := (s.line l).raw ||
          (((s.line l).mode == .edge && (s.line l).bothEdges) || high == ((s.line l).polarity == .high))
        masked := ((s.line l).raw ||
          (((s.line l).mode == .edge && (s.line l).bothEdges) || high == ((s.line l).polarity == .high))) &&
            (s.line l).enabled } := fun s l high => by
    rw [← SenseLine.latches_eq]
    rfl
  refine ⟨?_, ?_, ?_, ?_, ?_, ?_, ?_⟩
  · intro s l high h hsame
    obtain ⟨-, -, -, -, -, -, -, hrest, -⟩ := s.calm_iff.mp h
    rw [exec_senseInputTransition h, State.whenAlive_forget (f := fun s => s.senseInput l high) h
      (State.senseInput_same hsame) (State.noWork_of_atRest hrest) rfl, State.forget_looks (State.looks_of_atRest hrest)]
  · intro s l high latched r h hne hquiet
    have hr : (s.line l).moved high = r := hmoved s l high
    obtain ⟨-, -, -, -, -, -, -, hrest, -⟩ := s.calm_iff.mp h
    have hlooks := State.looks_of_atRest hrest
    have hset : s.senseInput l high = s.setLine l r := by
      rw [State.senseInput_moved hne, ← hr]
      exact State.settleLine_quiet (by rw [← hr] at hquiet; exact hquiet)
    have hrun := State.whenAlive_forget (f := fun s => s.senseInput l high) h hset
      (State.noWork_of_atRest ((State.atRest_congr rfl rfl).trans hrest)) rfl
    rw [← hlooks] at hrun
    rw [exec_senseInputTransition h]
    exact congrArg Host.Outcome.next hrun
  · intro s l high latched r h hne hevent hnowhere
    have hr : (s.line l).moved high = r := hmoved s l high
    rw [← hr] at hevent hnowhere ⊢
    obtain ⟨-, -, -, -, -, -, -, hrest, -⟩ := s.calm_iff.mp h
    have hlooks := State.looks_of_atRest hrest
    have hline := State.line_setLine_self s l ((s.line l).moved high)
    have hroute := State.routeEvent_nowhere (s := s.setLine l ((s.line l).moved high)) (l := l) (by rw [hline]; exact hnowhere)
    have hrun := State.exec_event h hne hevent hroute (State.noWork_of_atRest ((State.atRest_congr rfl rfl).trans hrest)) rfl
      rfl rfl
    rw [← hlooks] at hrun
    exact hrun
  · intro s l high before after w latched r h hne hevent hspan hstack hbefore hw
    have hr : (s.line l).moved high = r := hmoved s l high
    rw [← hr] at hevent hspan hbefore hw ⊢
    obtain ⟨-, -, -, -, -, -, -, hrest, -⟩ := s.calm_iff.mp h
    have hlooks := State.looks_of_atRest hrest
    have hline := State.line_setLine_self s l ((s.line l).moved high)
    have hroute := State.routeEvent_window (s := s.setLine l ((s.line l).moved high)) (l := l) (by rw [hline]; exact hspan)
      hstack (by rw [hline]; exact hbefore) (by rw [hline]; exact hw)
    rw [hline] at hroute
    have hrun := State.exec_event h hne hevent hroute (State.noWork_of_atRest ((State.atRest_congr rfl rfl).trans hrest)) rfl
      rfl rfl
    rw [← hlooks] at hrun
    exact hrun
  · intro s l high latched r found h hne hevent hbusy hspan hstack haction hnone hnd
    have hr : (s.line l).moved high = r := hmoved s l high
    have hfound : s.toVerify r.span = found := s.toVerify_eq _
    rw [← hfound]
    rw [← hr] at hevent hspan hstack haction hnone ⊢
    obtain ⟨-, -, -, -, -, -, -, hrest, -⟩ := s.calm_iff.mp h
    have hlooks := State.looks_of_atRest hrest
    have hline := State.line_setLine_self s l ((s.line l).moved high)
    have hroute := State.routeEvent_verify (s := s.setLine l ((s.line l).moved high)) (l := l) (by rw [hline]; exact hspan)
      (by rw [hline]; exact hstack) (by rw [hline]; exact haction)
    rw [hline] at hroute
    obtain ⟨C, looks, hverify, hread⟩ := State.verifySpan_idle (s := s.setLine l ((s.line l).moved high)) hnone
    have hrun := State.exec_event h hne hevent (hroute.trans hverify) (State.noWork_of_busy hbusy) rfl rfl rfl
    rw [← hlooks] at hrun
    refine ⟨_, hrun, ?_, fun c => ?_⟩
    · rw [State.noticed_circuits]
      rfl
    · unfold State.circuit
      rw [State.noticed_circuits]
      exact hread c
  · intro s l high hoff
    have hdue : s.takeDue = s := by
      unfold State.takeDue State.restartDue State.alive
      rw [hoff]
      rfl
    have hexec : exec (.senseInputTransition l high) s =
        .next (if s.takeDue.phase = .off then s.takeDue.setLine l { s.takeDue.line l with input := high }
          else (s.takeDue.senseInput l high).settle) := rfl
    rw [hexec, hdue, if_pos hoff]
  · intro s l high latched r found capturing measuring h hne hevent hbusy hspan hstack haction hnd hentries hreasons hgoes
    have hr : (s.line l).moved high = r := hmoved s l high
    have hfound : s.toVerify r.span = found := s.toVerify_eq _
    have hcapturing : s.toDisturb r.span = capturing := s.toDisturb_eq _
    have hmeasuring : s.measuringOn r.span = measuring := congrArg (List.filter _) hcapturing
    rw [← hmeasuring] at hgoes
    rw [← hfound, ← hcapturing, ← hmeasuring]
    rw [← hr] at hevent hspan hstack haction hnd hgoes ⊢
    obtain ⟨-, -, -, -, -, -, -, hrest, -⟩ := s.calm_iff.mp h
    have hlooks := State.looks_of_atRest hrest
    have hline := State.line_setLine_self s l ((s.line l).moved high)
    have hroute := State.routeEvent_verify (s := s.setLine l ((s.line l).moved high)) (l := l) (by rw [hline]; exact hspan)
      (by rw [hline]; exact hstack) (by rw [hline]; exact haction)
    rw [hline] at hroute
    obtain ⟨C, L, looks, hverify, hread, hlanes⟩ :=
      State.verifySpan_goes (s := s.setLine l ((s.line l).moved high)) hnd hreasons hgoes
    have hrun := State.exec_event h hne hevent (hroute.trans hverify)
      (State.noWork_of_busy (State.lanesBusy_stopped (s := s) hbusy hlanes rfl)) rfl rfl rfl
    rw [← hlooks] at hrun
    refine ⟨_, hrun, ?_, fun c => ?_, fun k => ?_⟩
    · rw [State.noticed_circuits, State.noticed_lanes]
      rfl
    · unfold State.circuit
      rw [State.noticed_circuits]
      exact hread c
    · unfold State.lane
      rw [State.noticed_lanes]
      exact hlanes k

end Sys2Proof.Proofs


/-! # Requests on sense lines -/

namespace Sys2Proof

open Machine

section
variable {l : LineId} {f : SetSenseFields}

/-! ## The fields of SET_SENSE -/

/-- The fields of a SET_SENSE are within their values (R154). -/
def SetSenseFields.fits (f : SetSenseFields) : Prop :=
  f.enabled.toNat ≤ 1 ∧ f.mode.toNat ≤ 1 ∧ f.polarity.toNat ≤ 1 ∧ f.bothEdges.toNat ≤ 1 ∧ f.action.toNat ≤ 1

/-- The configuration that the fields give to a record. -/
def SetSenseFields.configured (f : SetSenseFields) (r : SenseLine) : SenseLine :=
  { r with
    enabled := f.enabled == 1, mode := if f.mode == 1 then .level else .edge
    polarity := if f.polarity == 1 then .low else .high, bothEdges := f.bothEdges == 1, span := f.binding.toNat
    action := if f.action == 1 then .verify else .logOnly }

theorem SetSenseFields.configure_of_fits (hl : f.line.toNat = l.val) (hfits : f.fits) (hbinding : f.binding.toNat ≤ 256)
    (hmode : f.mode = 0 ∨ f.bothEdges = 0) : f.configure = some (l, f.configured) := by
  obtain ⟨henabled, hm, hpolarity, hboth, haction⟩ := hfits
  have hline : lineOfNat f.line.toNat = some l := by
    unfold lineOfNat
    rw [dif_pos (by rw [hl]; exact l.isLt)]
    exact congrArg some (Fin.ext hl)
  have hlevel : (!(f.mode == 1 && f.bothEdges == 1)) = true := by
    obtain h | h := hmode <;> rw [h]
    · rfl
    · simp
  unfold SetSenseFields.configure
  rw [hline, flagOf_of_le henabled, flagOf_of_le hm, flagOf_of_le hpolarity, flagOf_of_le hboth, flagOf_of_le haction]
  exact if_pos ⟨hbinding, hlevel⟩

/-- A SET_SENSE with a field outside its values names no configuration. -/
theorem SetSenseFields.configure_of_not_fits
    (h : ¬(f.line.toNat < 16 ∧ f.enabled.toNat ≤ 1 ∧ f.mode.toNat ≤ 1 ∧ f.polarity.toNat ≤ 1 ∧ f.bothEdges.toNat ≤ 1 ∧
      f.action.toNat ≤ 1 ∧ f.binding.toNat ≤ 256 ∧ (f.mode = 0 ∨ f.bothEdges = 0))) : f.configure = none := by
  unfold SetSenseFields.configure
  by_cases hl : f.line.toNat < 16
  case neg =>
    have hline : lineOfNat f.line.toNat = none := dif_neg hl
    rw [hline]
  by_cases he : f.enabled.toNat ≤ 1
  case neg =>
    rw [flagOf_of_lt (Nat.lt_of_not_le he)]
    cases lineOfNat f.line.toNat <;> rfl
  by_cases hm : f.mode.toNat ≤ 1
  case neg =>
    rw [flagOf_of_lt (Nat.lt_of_not_le hm), flagOf_of_le he]
    cases lineOfNat f.line.toNat <;> rfl
  by_cases hp : f.polarity.toNat ≤ 1
  case neg =>
    rw [flagOf_of_lt (Nat.lt_of_not_le hp), flagOf_of_le he, flagOf_of_le hm]
    cases lineOfNat f.line.toNat <;> rfl
  by_cases hb : f.bothEdges.toNat ≤ 1
  case neg =>
    rw [flagOf_of_lt (Nat.lt_of_not_le hb), flagOf_of_le he, flagOf_of_le hm, flagOf_of_le hp]
    cases lineOfNat f.line.toNat <;> rfl
  by_cases ha : f.action.toNat ≤ 1
  case neg =>
    rw [flagOf_of_lt (Nat.lt_of_not_le ha), flagOf_of_le he, flagOf_of_le hm, flagOf_of_le hp, flagOf_of_le hb]
    cases lineOfNat f.line.toNat <;> rfl
  have hline : lineOfNat f.line.toNat = some ⟨f.line.toNat, hl⟩ := dif_pos hl
  rw [hline, flagOf_of_le he, flagOf_of_le hm, flagOf_of_le hp, flagOf_of_le hb, flagOf_of_le ha]
  refine if_neg fun hok => h ⟨hl, he, hm, hp, hb, ha, hok.1, ?_⟩
  have hzero : ∀ {b : U8}, b.toNat ≤ 1 → (b == 1) = false → b = 0 := fun {b} hle hne => by
    refine BitVec.eq_of_toNat_eq (Nat.le_zero.mp (Nat.le_of_lt_succ (lt_of_le_of_ne hle fun h1 => ?_)))
    rw [BitVec.eq_of_toNat_eq (y := 1) h1] at hne
    cases hne
  have hnot := hok.2
  rw [Bool.not_eq_true', Bool.and_eq_false_iff] at hnot
  exact hnot.imp (hzero hm) (hzero hb)

/-- The record that a taken SET_SENSE leaves, in the terms of its fields. -/
def SetSenseFields.record (f : SetSenseFields) (r : SenseLine) : SenseLine :=
  { r with
    enabled := f.enabled == 1, mode := if f.mode = 0 then .edge else .level
    polarity := if f.polarity = 0 then .high else .low, bothEdges := f.bothEdges == 1, span := f.binding.toNat
    action := if f.action = 0 then .logOnly else .verify
    raw := r.raw || (f.mode == 1 && r.input == (f.polarity == 0))
    masked := f.enabled == 1 && (r.raw || (f.mode == 1 && r.input == (f.polarity == 0))) }

theorem SetSenseFields.record_eq (hfits : f.fits) (r : SenseLine) : (f.configured r).latchLevel.masking = f.record r := by
  obtain ⟨-, hm, hp, -, ha⟩ := hfits
  have hbit : ∀ {b : U8}, b.toNat ≤ 1 → b = 0 ∨ b = 1 := fun {b} h => by
    obtain h | h := Nat.le_one_iff_eq_zero_or_eq_one.mp h
    · exact .inl (BitVec.eq_of_toNat_eq h)
    · exact .inr (BitVec.eq_of_toNat_eq h)
  unfold SetSenseFields.record SetSenseFields.configured SenseLine.latchLevel SenseLine.masking SenseLine.atActive
  obtain hm | hm := hbit hm <;> obtain hp | hp := hbit hp <;> obtain ha | ha := hbit ha <;> rw [hm, hp, ha] <;>
    cases r.raw <;> cases r.input <;> simp [Bool.and_comm]

end

end Sys2Proof

namespace Sys2Proof.Machine

section
variable {s t : State} {l : LineId} {f : SetSenseFields}

/-! ## Answers after an event -/

/-- The notice of an event, queued while an entry is FREE. -/
theorem State.queueUnreserved_occupied (hocc : t.occupied = s.occupied) (n : Notice) :
    t.queueUnreserved n =
      if s.occupied < 32 then { t with notices := t.notices ++ [n] } else { t with discarded := true } := by
  unfold State.queueUnreserved
  rw [← hocc]
  exact if_congr t.hasFree_iff rfl rfl

/-- The notice of an event is queued while `s` has a FREE entry. -/
def State.queuedAt (s u : State) (n : Notice) : State :=
  if s.occupied < 32 then { u with notices := u.notices ++ [n] } else { u with discarded := true }

theorem State.queuedAt_circuits (s u : State) (n : Notice) : (s.queuedAt u n).circuits = u.circuits := by
  unfold State.queuedAt
  split <;> rfl

theorem State.queuedAt_lanes (s u : State) (n : Notice) : (s.queuedAt u n).lanes = u.lanes := by
  unfold State.queuedAt
  split <;> rfl

/-- A request that takes one event and is then answered. -/
theorem State.arrive_event {tag ans code : U8} {request : Request} {body : ReplyBody} {n : Notice} (h : s.ready = true)
    (hh : s.handleRequest tag request = (t.queueUnreserved n).answer ans code .ok body) (hlink : t.link = s.link)
    (hocc : t.occupied = s.occupied) (hshort : body.isLong = false) (hwork : t.NoWork) (u : State)
    (hu : { t with looks := [] } = u) :
    s.arrive tag request = .next (State.replied (s.queuedAt u n) ans code .ok body) := by
  subst hu
  have hqueued : (t.queueUnreserved n).link = t.link ∧ (t.queueUnreserved n).NoWork := by
    unfold State.queueUnreserved
    split <;> exact ⟨rfl, hwork.congr rfl rfl rfl rfl rfl rfl rfl⟩
  rw [State.arrive_forget h hh (hqueued.1.trans hlink) hshort hqueued.2, State.queueUnreserved_looks,
    State.queueUnreserved_occupied (t := { t with looks := [] }) hocc]
  rfl

/-- Such a request where the event leaves the looks and the lanes alone. -/
theorem State.arrive_event_atRest {tag ans code : U8} {request : Request} {body : ReplyBody} {n : Notice}
    (h : s.ready = true) (hh : s.handleRequest tag request = (t.queueUnreserved n).answer ans code .ok body)
    (hlink : t.link = s.link) (hocc : t.occupied = s.occupied) (hshort : body.isLong = false) (hlooks : t.looks = s.looks)
    (hlanes : t.lanes = s.lanes) : s.arrive tag request = .next (State.replied (s.queuedAt t n) ans code .ok body) := by
  have hrest : t.atRest = true := (State.atRest_congr hlooks hlanes).trans (State.atRest_of_ready h)
  exact State.arrive_event h hh hlink hocc hshort (State.noWork_of_atRest hrest) t
    (State.forget_looks (State.looks_of_atRest hrest))

/-- Such a request where no lane is ready and the arbiter was told of some lanes. -/
theorem State.arrive_event_busy {tag ans code : U8} {request : Request} {body : ReplyBody} {n : Notice} {looks : List LaneId}
    (h : s.ready = true)
    (hh : s.handleRequest tag request = (State.queueUnreserved { t with looks := looks } n).answer ans code .ok body)
    (hlink : t.link = s.link) (hocc : t.occupied = s.occupied) (hshort : body.isLong = false) (hlooks : t.looks = s.looks)
    (hbusy : t.lanesBusy = true) : s.arrive tag request = .next (State.replied (s.queuedAt t n) ans code .ok body) := by
  have hempty : t.looks = [] := hlooks.trans (State.looks_of_atRest (State.atRest_of_ready h))
  exact State.arrive_event (t := { t with looks := looks }) h hh hlink hocc hshort (State.noWork_of_busy hbusy) t
    (congrArg (fun v => { t with looks := v }) hempty.symm)

/-! ## SET_SENSE -/

/-- A SET_SENSE that is no event. -/
theorem State.handleSetSense_quiet {tag : U8} (hl : f.line.toNat = l.val) (hfits : f.fits) (hbinding : f.binding.toNat ≤ 256)
    (hmode : f.mode = 0 ∨ f.bothEdges = 0)
    (hquiet : (s.line l).masked = true ∨ (f.record (s.line l)).masked = false) :
    s.handleRequest tag (.setSense (.fields f)) =
      (s.setLine l (f.record (s.line l))).answer tag 0x60 .ok (.senseSet (f.record (s.line l)) false) := by
  have hrecord := f.record_eq hfits (s.line l)
  have hsettle : s.settleLine l (f.configured (s.line l)).latchLevel = s.setLine l (f.record (s.line l)) := by
    rw [← hrecord] at hquiet ⊢
    exact State.settleLine_quiet hquiet
  have hevent : (!(s.line l).masked && (f.configured (s.line l)).latchLevel.masking.masked) = false := by
    rw [hrecord]
    obtain h | h := hquiet <;> simp [h]
  show s.handleSetSense tag f = _
  unfold State.handleSetSense
  rw [f.configure_of_fits hl hfits hbinding hmode]
  dsimp only
  rw [hevent, hsettle, State.line_setLine_self]

/-- A SET_SENSE that is an event takes it before it answers. -/
theorem State.handleSetSense_event {tag : U8} {route : SenseRoute} (hl : f.line.toNat = l.val) (hfits : f.fits)
    (hbinding : f.binding.toNat ≤ 256) (hmode : f.mode = 0 ∨ f.bothEdges = 0)
    (hevent : (s.line l).masked = false ∧ (f.record (s.line l)).masked = true)
    (hroute : (s.setLine l (f.record (s.line l))).routeEvent l = (t, route))
    (hlines : t.senseLines = (s.setLine l (f.record (s.line l))).senseLines) :
    s.handleRequest tag (.setSense (.fields f)) =
      (t.queueUnreserved (.sense l (f.record (s.line l)).span (f.record (s.line l)).mode s.clock route)).answer tag 0x60 .ok
        (.senseSet (f.record (s.line l)) true) := by
  have hrecord := f.record_eq hfits (s.line l)
  have hself := State.line_setLine_self s l (f.record (s.line l))
  have htake := State.takeEvent_eq hroute
  rw [hself] at htake
  have hsettle : s.settleLine l (f.configured (s.line l)).latchLevel =
      t.queueUnreserved (.sense l (f.record (s.line l)).span (f.record (s.line l)).mode s.clock route) := by
    rw [State.settleLine_event (by rw [hrecord]; exact hevent), hrecord]
    exact htake
  have hline : State.line (t.queueUnreserved (.sense l (f.record (s.line l)).span (f.record (s.line l)).mode s.clock route)) l =
      f.record (s.line l) := by
    obtain ⟨ns, d, hq⟩ := State.queueUnreserved_eq (t := t)
      (.sense l (f.record (s.line l)).span (f.record (s.line l)).mode s.clock route)
    rw [hq]
    exact (congrArg (fun v : Vector SenseLine 16 => v[l]) hlines).trans hself
  have hflag : (!(s.line l).masked && (f.configured (s.line l)).latchLevel.masking.masked) = true := by
    rw [hrecord, hevent.1, hevent.2]
    rfl
  show s.handleSetSense tag f = _
  unfold State.handleSetSense
  rw [f.configure_of_fits hl hfits hbinding hmode]
  dsimp only
  rw [hflag, hsettle, hline]

end

end Sys2Proof.Machine


/-! # CLEAR_SENSE -/

namespace Sys2Proof.Machine

section
variable {s t : State} {l : LineId}

/-! ## Notices queued one after another -/

/-- The state after some unreserved notices, queued while entries are FREE and discarded after. -/
def State.queueAll (t : State) (ns : List Notice) : State :=
  { t with
    notices := t.notices ++ ns.take (32 - t.occupied)
    discarded := t.discarded || decide (32 - t.occupied < ns.length) }

theorem State.queueAll_nil (t : State) : t.queueAll [] = t := by
  unfold State.queueAll
  simp

theorem State.queueAll_append (t : State) (ns : List Notice) (n : Notice) :
    (t.queueAll ns).queueUnreserved n = t.queueAll (ns ++ [n]) := by
  have hocc : (t.queueAll ns).occupied = t.occupied + min ns.length (32 - t.occupied) := by
    unfold State.queueAll State.occupied
    simp only [List.length_append, List.length_take]
    omega
  by_cases hroom : t.occupied + ns.length < 32
  · have hfree : (t.queueAll ns).hasFree = true := by
      rw [State.hasFree_iff, hocc]
      omega
    unfold State.queueUnreserved
    rw [if_pos hfree]
    have hall : ns.take (32 - t.occupied) = ns := List.take_of_length_le (by omega)
    have hall' : (ns ++ [n]).take (32 - t.occupied) = ns ++ [n] :=
      List.take_of_length_le (by rw [List.length_append, List.length_singleton]; omega)
    have hnone : decide (32 - t.occupied < ns.length) = false := decide_eq_false (by omega)
    have hnone' : decide (32 - t.occupied < (ns ++ [n]).length) = false :=
      decide_eq_false (by rw [List.length_append, List.length_singleton]; omega)
    unfold State.queueAll
    rw [hall, hall', hnone, hnone', List.append_assoc]
  · have hfull : (t.queueAll ns).hasFree = false := by
      rw [State.hasFree_eq_false_iff, hocc]
      omega
    unfold State.queueUnreserved
    rw [hfull]
    have htake : (ns ++ [n]).take (32 - t.occupied) = ns.take (32 - t.occupied) :=
      List.take_append_of_le_length (by omega)
    have hsome' : decide (32 - t.occupied < (ns ++ [n]).length) = true :=
      decide_eq_true (by rw [List.length_append, List.length_singleton]; omega)
    unfold State.queueAll
    rw [htake, hsome', Bool.or_true]
    rfl

/-! ## Events logged one after another -/

/-- A window with the events of some lines: appended up to sixteen, and marked where there were more. -/
def Window.loggedAll (w : Window) (ev : LineId → SenseEvent) (ls : List LineId) : Window :=
  { w with
    events := w.events ++ (ls.map ev).take (16 - w.events.length)
    moreEvents := w.moreEvents || decide (ls ≠ [] ∧ 16 < w.events.length + ls.length) }

theorem Window.loggedAll_nil (w : Window) (ev : LineId → SenseEvent) : w.loggedAll ev [] = w := by
  unfold Window.loggedAll
  simp

theorem Window.loggedAll_length (w : Window) (ev : LineId → SenseEvent) (ls : List LineId) :
    (w.loggedAll ev ls).events.length < 16 ↔ w.events.length + ls.length < 16 := by
  unfold Window.loggedAll
  simp only [List.length_append, List.length_take, List.length_map]
  omega

theorem Window.loggedAll_append (w : Window) (ev : LineId → SenseEvent) (ls : List LineId) (l : LineId) :
    (w.loggedAll ev ls).logged (ev l) = w.loggedAll ev (ls ++ [l]) := by
  have hlength : (ls ++ [l]).length = ls.length + 1 := by rw [List.length_append, List.length_singleton]
  by_cases hroom : w.events.length + ls.length < 16
  · unfold Window.logged
    rw [if_pos ((w.loggedAll_length ev ls).mpr hroom)]
    have hall : (ls.map ev).take (16 - w.events.length) = ls.map ev :=
      List.take_of_length_le (by rw [List.length_map]; omega)
    have hall' : ((ls ++ [l]).map ev).take (16 - w.events.length) = ls.map ev ++ [ev l] := by
      rw [List.map_append]
      exact List.take_of_length_le (by rw [List.length_append, List.length_map, List.length_map, List.length_singleton]; omega)
    have hnone : decide (ls ≠ [] ∧ 16 < w.events.length + ls.length) = false := decide_eq_false (by omega)
    have hnone' : decide (ls ++ [l] ≠ [] ∧ 16 < w.events.length + (ls ++ [l]).length) = false :=
      decide_eq_false (by rw [hlength]; omega)
    unfold Window.loggedAll
    rw [hall, hall', hnone, hnone', List.append_assoc]
  · unfold Window.logged
    rw [if_neg fun h => hroom ((w.loggedAll_length ev ls).mp h)]
    have htake : ((ls ++ [l]).map ev).take (16 - w.events.length) = (ls.map ev).take (16 - w.events.length) := by
      rw [List.map_append]
      exact List.take_append_of_le_length (by rw [List.length_map]; omega)
    have hmore : decide (ls ++ [l] ≠ [] ∧ 16 < w.events.length + (ls ++ [l]).length) = true :=
      decide_eq_true ⟨by simp, by rw [hlength]; omega⟩
    unfold Window.loggedAll
    rw [htake, hmore, Bool.or_true]

/-! ## The lines that latch again -/

/-- A line in LEVEL mode whose input stands at its active level. -/
def State.again (s : State) (l : LineId) : Bool := (s.line l).mode == .level && (s.line l).atActive

/-- The position of the window that logs an event of the line. -/
def State.windowOf (s : State) (l : LineId) : Option Nat :=
  if (s.line l).span = 0 then none else s.stack.findIdx? fun w => w.spans.contains (s.line l).span

/-- The event of a line that latches again. -/
def State.levelEvent (s : State) (l : LineId) : SenseEvent := ⟨l, (s.line l).span, s.clock, .level⟩

/-- The route of a line's event among the events of a CLEAR_SENSE. -/
def State.levelRoute (s : State) (events : List LineId) (l : LineId) : SenseRoute :=
  match (s.windowOf l).bind fun i => s.stack[i]? with
  | some w =>
    .window w.id (decide (w.events.length + (events.countP fun k => k < l ∧ s.windowOf k = s.windowOf l) < 16))
  | none => .noticeOnly

/-- The stack after the events of some lines. -/
def State.levelStack (s : State) (ls : List LineId) : List Window :=
  s.stack.mapIdx fun i w => w.loggedAll s.levelEvent (ls.filter fun l => s.windowOf l = some i)

/-- The record of a line that a CLEAR_SENSE has cleared, and of one that it has let latch again. -/
def SenseLine.cleared (r : SenseLine) : SenseLine := { r with raw := false, masked := false }

def SenseLine.relatched (r : SenseLine) : SenseLine :=
  { r with
    raw := r.mode == .level && r.atActive, masked := (r.mode == .level && r.atActive) && r.enabled }

theorem SenseLine.relatched_eq (r : SenseLine) : r.cleared.latchLevel.masking = r.relatched := by
  have hactive : r.cleared.atActive = r.atActive := rfl
  unfold SenseLine.latchLevel SenseLine.masking SenseLine.relatched
  rw [hactive]
  by_cases h : r.mode = .level ∧ r.atActive = true
  · rw [if_pos (by exact h)]
    simp [SenseLine.cleared, h.1, h.2]
  · rw [if_neg (by exact h)]
    have hnot : (r.mode == .level && r.atActive) = false := by
      rw [Bool.and_eq_false_iff, beq_eq_false_iff_ne, ← Bool.not_eq_true]
      exact not_and_or.mp h
    rw [hnot]
    rfl

/-- No window of the stack holds the span of the line. -/
theorem State.levelStack_none {ls : List LineId} (hw : s.windowOf l = none) (hspan : (s.line l).span ≠ 0) :
    ∀ w ∈ s.levelStack ls, (s.line l).span ∉ w.spans := by
  intro w hmem
  obtain ⟨i, hi, rfl⟩ := List.mem_mapIdx.mp hmem
  unfold State.windowOf at hw
  rw [if_neg hspan, List.findIdx?_eq_none_iff] at hw
  have hnone := hw s.stack[i] (List.getElem_mem hi)
  simpa [Window.loggedAll] using hnone

/-- The window that logs an event of the line, in the stack as it stands after other events. -/
theorem State.levelStack_some {ls : List LineId} {i : Nat} (hw : s.windowOf l = some i) :
    ∃ (hi : i < s.stack.length) (before after : List Window),
      (s.line l).span ≠ 0 ∧
      s.levelStack ls =
        before ++ s.stack[i].loggedAll s.levelEvent (ls.filter fun k => s.windowOf k = some i) :: after ∧
      (∀ x ∈ before, (s.line l).span ∉ x.spans) ∧ (s.line l).span ∈ s.stack[i].spans ∧
      before ++ s.stack[i].loggedAll s.levelEvent ((ls ++ [l]).filter fun k => s.windowOf k = some i) :: after =
        s.levelStack (ls ++ [l]) := by
  have hspan : (s.line l).span ≠ 0 := fun h => by
    unfold State.windowOf at hw
    rw [if_pos h] at hw
    cases hw
  have hfind := hw
  unfold State.windowOf at hfind
  rw [if_neg hspan] at hfind
  obtain ⟨hi, hp, hbefore⟩ := List.findIdx?_eq_some_iff_getElem.mp hfind
  have hlength : i < (s.levelStack ls).length := by
    unfold State.levelStack
    rwa [List.length_mapIdx]
  have hat : (s.levelStack ls)[i] =
      s.stack[i].loggedAll s.levelEvent (ls.filter fun k => s.windowOf k = some i) := List.getElem_mapIdx ..
  refine ⟨hi, (s.levelStack ls).take i, (s.levelStack ls).drop (i + 1), hspan, ?_, ?_, by simpa using hp, ?_⟩
  · rw [← hat]
    exact (List.take_append_drop i _).symm.trans (congrArg _ (List.drop_eq_getElem_cons hlength))
  · intro x hx
    obtain ⟨j, hj, rfl⟩ := List.mem_take_iff_getElem.mp hx
    have hji : j < i := lt_of_lt_of_le hj (Nat.min_le_left ..)
    have hnot := hbefore j hji
    have hjat : (s.levelStack ls)[j]'(hji.trans hlength) =
        s.stack[j].loggedAll s.levelEvent (ls.filter fun k => s.windowOf k = some j) := List.getElem_mapIdx ..
    rw [hjat]
    simpa [Window.loggedAll] using hnot
  · refine (List.set_eq_take_append_cons_drop.trans (if_pos hlength)).symm.trans ?_
    refine List.ext_getElem (by simp [State.levelStack]) fun j hj hj' => ?_
    have hjs : j < s.stack.length := by simpa [State.levelStack] using hj'
    have hjat : (s.levelStack (ls ++ [l]))[j] =
        s.stack[j].loggedAll s.levelEvent ((ls ++ [l]).filter fun k => s.windowOf k = some j) := List.getElem_mapIdx ..
    rw [hjat, List.getElem_set]
    by_cases hij : i = j
    · subst hij
      rw [if_pos rfl]
    · rw [if_neg hij]
      have hskip : ((ls ++ [l]).filter fun k => s.windowOf k = some j) = ls.filter fun k => s.windowOf k = some j := by
        rw [List.filter_append]
        have hne : s.windowOf l ≠ some j := by
          rw [hw]
          exact fun h => hij (Option.some.inj h)
        simp [hne]
      rw [hskip]
      exact List.getElem_mapIdx ..

/-! ## The lines in their order -/

/-- The notice of a line's event among the events of a CLEAR_SENSE. -/
def State.levelNotice (s : State) (events : List LineId) (l : LineId) : Notice :=
  .sense l (s.line l).span .level s.clock (s.levelRoute events l)

/-- The lines that have an event: they latch again and are enabled. -/
def State.levelEvents (s : State) (named : List LineId) : List LineId :=
  named.filter fun l => s.again l && (s.line l).enabled

/-- One line that latches again without an event. -/
theorem State.relatchLine_quiet (ht : t.line l = (s.line l).cleared)
    (hquiet : (s.again l && (s.line l).enabled) = false) : t.relatchLine l = t.setLine l (s.line l).relatched := by
  have hmask : (s.line l).relatched.masked = false := hquiet
  unfold State.relatchLine
  rw [State.settleLine_quiet (.inr (by rw [ht, SenseLine.relatched_eq]; exact hmask)), ht, SenseLine.relatched_eq]

/-- One line that latches again with an event. -/
theorem State.relatchLine_event (ht : t.line l = (s.line l).cleared)
    (hevent : (s.again l && (s.line l).enabled) = true) :
    t.relatchLine l = (t.setLine l (s.line l).relatched).takeEvent l := by
  have hmask : (s.line l).relatched.masked = true := hevent
  unfold State.relatchLine
  rw [State.settleLine_event ⟨by rw [ht]; rfl, by rw [ht, SenseLine.relatched_eq]; exact hmask⟩, ht, SenseLine.relatched_eq]

/-- The part of the state that the event of a line among others changes besides its own record. -/
def State.levelled (s : State) (events : List LineId) (ls : List LineId) (V : Vector SenseLine 16) : State :=
  State.queueAll { s with senseLines := V, stack := s.levelStack ls } (ls.map (s.levelNotice events))

theorem State.levelled_nil (s : State) (events : List LineId) (V : Vector SenseLine 16) :
    s.levelled events [] V = { s with senseLines := V } := by
  have hstack : s.levelStack [] = s.stack :=
    List.ext_getElem List.length_mapIdx fun i _ _ => List.getElem_mapIdx.trans (Window.loggedAll_nil ..)
  show State.queueAll { s with senseLines := V, stack := s.levelStack [] } [] = _
  rw [State.queueAll_nil, hstack]

/-- The event of a line, after those of the lines before it. -/
theorem State.takeEvent_levelled {events ls rest : List LineId} {V : Vector SenseLine 16}
    (hevents : events = ls ++ l :: rest) (hsorted : events.Pairwise (· < ·)) (hmode : (s.line l).mode = .level)
    (hV : V[l] = (s.line l).relatched)
    (hroute : (s.line l).span = 0 ∨ s.windowOf l ≠ none ∨ (s.line l).action = .logOnly) :
    (s.levelled events ls V).takeEvent l = s.levelled events (ls ++ [l]) V := by
  have hspan : ((s.levelled events ls V).line l).span = (s.line l).span := by
    show V[l].span = _
    rw [hV]
    rfl
  have haction : ((s.levelled events ls V).line l).action = (s.line l).action := by
    show V[l].action = _
    rw [hV]
    rfl
  have hlevel : ((s.levelled events ls V).line l).mode = .level := by
    show V[l].mode = _
    rw [hV]
    exact hmode
  have hnotice : ∀ route, s.levelRoute events l = route → ∀ u : State,
      State.queueUnreserved (State.queueAll u (ls.map (s.levelNotice events)))
        (.sense l ((s.levelled events ls V).line l).span ((s.levelled events ls V).line l).mode s.clock route) =
      u.queueAll ((ls ++ [l]).map (s.levelNotice events)) := fun route hr u => by
    rw [State.queueAll_append, hspan, hlevel, List.map_append, ← hr]
    rfl
  cases hw : s.windowOf l with
  | none =>
    have hnowhere : (s.levelled events ls V).routeEvent l = (s.levelled events ls V, .noticeOnly) := by
      refine State.routeEvent_nowhere ?_
      rw [hspan, haction]
      by_cases hzero : (s.line l).span = 0
      · exact .inl hzero
      · exact .inr ⟨s.levelStack_none hw hzero, (hroute.resolve_left hzero).resolve_left fun h => h hw⟩
    have hstack : s.levelStack (ls ++ [l]) = s.levelStack ls := by
      unfold State.levelStack
      refine List.mapIdx_eq_mapIdx_iff.mpr fun i hi => ?_
      have hskip : ((ls ++ [l]).filter fun k => s.windowOf k = some i) = ls.filter fun k => s.windowOf k = some i := by
        rw [List.filter_append]
        simp [hw]
      rw [hskip]
    have hlast : s.levelRoute events l = .noticeOnly := by
      unfold State.levelRoute
      rw [hw]
      rfl
    rw [State.takeEvent_eq hnowhere]
    refine (hnotice _ hlast { s with senseLines := V, stack := s.levelStack ls }).trans ?_
    unfold State.levelled
    rw [hstack]
  | some i =>
    obtain ⟨hi, before, after, hne, hstack, hbefore, hin, hnext⟩ := s.levelStack_some (ls := ls) hw
    have hwindow := State.routeEvent_window (s := s.levelled events ls V) (l := l) (by rw [hspan]; exact hne) hstack
      (by rw [hspan]; exact hbefore) (by rw [hspan]; exact hin)
    have hev : (⟨l, ((s.levelled events ls V).line l).span, (s.levelled events ls V).clock,
        ((s.levelled events ls V).line l).mode⟩ : SenseEvent) = s.levelEvent l := by
      rw [hspan, hlevel]
      rfl
    have hfilter : (ls ++ [l]).filter (fun k => s.windowOf k = some i) = ls.filter (fun k => s.windowOf k = some i) ++ [l] := by
      rw [List.filter_append]
      simp [hw]
    have hcount : (events.countP fun k => k < l ∧ s.windowOf k = s.windowOf l) =
        (ls.filter fun k => s.windowOf k = some i).length := by
      rw [hevents] at hsorted ⊢
      obtain ⟨-, hrest, hbefore⟩ := List.pairwise_append.mp hsorted
      obtain ⟨hafter, -⟩ := List.pairwise_cons.mp hrest
      have hnone : (l :: rest).countP (fun k => k < l ∧ s.windowOf k = s.windowOf l) = 0 :=
        List.countP_eq_zero.mpr fun k hk => by
          obtain rfl | hk := List.mem_cons.mp hk
          · simp
          · simp [not_lt_of_gt (hafter k hk)]
      rw [List.countP_append, hnone, Nat.add_zero, List.countP_eq_length_filter]
      refine congrArg List.length (List.filter_congr fun k hk => ?_)
      simp [hbefore k hk l (List.mem_cons_self ..), hw]
    have hlast : s.levelRoute events l = .window s.stack[i].id
        (decide ((s.stack[i].loggedAll s.levelEvent (ls.filter fun k => s.windowOf k = some i)).events.length < 16)) := by
      unfold State.levelRoute
      rw [hcount, hw]
      simp only [Option.bind_some, List.getElem?_eq_getElem hi]
      rw [decide_eq_decide.mpr (Window.loggedAll_length ..).symm]
    rw [hev, Window.loggedAll_append, ← hfilter, hnext] at hwindow
    rw [State.takeEvent_eq hwindow]
    exact hnotice _ hlast { s with senseLines := V, stack := s.levelStack (ls ++ [l]) }

theorem State.set_line (V : Vector SenseLine 16) (l k : LineId) (r : SenseLine) :
    (V.set l r)[k] = if k = l then r else V[k] := by
  by_cases hk : k = l
  · subst hk
    rw [if_pos rfl]
    exact Vector.getElem_set_self ..
  · rw [if_neg hk]
    exact Vector.getElem_set_ne _ _ fun h => hk (Fin.ext h.symm)

/-- The lines that a CLEAR_SENSE names lose their raw and masked status. -/
theorem State.foldl_clearLine (named : List LineId) (s : State) :
    ∃ V, named.foldl State.clearLine s = { s with senseLines := V } ∧
      ∀ k : LineId, V[k] = if k ∈ named then (s.line k).cleared else s.line k := by
  induction named generalizing s with
  | nil => exact ⟨s.senseLines, rfl, fun k => (if_neg List.not_mem_nil).symm⟩
  | cons l named ih =>
    obtain ⟨V, hV, hread⟩ := ih (s.clearLine l)
    refine ⟨V, by rw [List.foldl_cons, hV]; rfl, fun k => (hread k).trans ?_⟩
    have hline : (s.clearLine l).line k = if k = l then (s.line l).cleared else s.line k := State.set_line ..
    rw [hline]
    by_cases hk : k = l
    · subst hk
      rw [if_pos rfl, if_pos (List.mem_cons_self ..)]
      exact ite_self _
    · rw [if_neg hk]
      exact if_congr (by simp [hk]) rfl rfl

/-- The lines named latch again in ascending order, with their events. -/
theorem State.foldl_relatchLine {named : List LineId} {V₀ : Vector SenseLine 16} (hsorted : named.Pairwise (· < ·))
    (hV₀ : ∀ k : LineId, V₀[k] = if k ∈ named then (s.line k).cleared else s.line k)
    (hroutes : ∀ l ∈ s.levelEvents named, (s.line l).span = 0 ∨ s.windowOf l ≠ none ∨ (s.line l).action = .logOnly)
    (done rest : List LineId) (hnamed : named = done ++ rest) :
    ∃ V, done.foldl State.relatchLine { s with senseLines := V₀ } =
        s.levelled (s.levelEvents named) (s.levelEvents done) V ∧
      ∀ k : LineId, V[k] =
        if k ∈ done then (s.line k).relatched else if k ∈ named then (s.line k).cleared else s.line k := by
  induction done using List.reverseRecOn generalizing rest with
  | nil => exact ⟨V₀, (s.levelled_nil _ V₀).symm, fun k => (hV₀ k).trans (if_neg List.not_mem_nil).symm⟩
  | append_singleton done l ih =>
    have hsplit : named = done ++ l :: rest := by rw [hnamed, List.append_assoc]; rfl
    obtain ⟨V, hV, hread⟩ := ih (l :: rest) hsplit
    have hin : l ∈ named := by rw [hsplit]; simp
    have hout : l ∉ done := fun hd => by
      rw [hsplit] at hsorted
      exact lt_irrefl l ((List.pairwise_append.mp hsorted).2.2 l hd l (List.mem_cons_self ..))
    have hline : V[l] = (s.line l).cleared := (hread l).trans ((if_neg hout).trans (if_pos hin))
    refine ⟨V.set l (s.line l).relatched, ?_, fun k => ?_⟩
    · rw [List.foldl_append, hV]
      show State.relatchLine _ l = _
      have hset : (s.levelled (s.levelEvents named) (s.levelEvents done) V).setLine l (s.line l).relatched =
          s.levelled (s.levelEvents named) (s.levelEvents done) (V.set l (s.line l).relatched) := rfl
      cases hevent : s.again l && (s.line l).enabled with
      | false =>
        have hsame : s.levelEvents (done ++ [l]) = s.levelEvents done := by
          unfold State.levelEvents
          rw [List.filter_append]
          simp [hevent]
        rw [State.relatchLine_quiet (s := s) (t := s.levelled _ _ V) hline hevent, hset, hsame]
      | true =>
        have hmore : s.levelEvents (done ++ [l]) = s.levelEvents done ++ [l] := by
          unfold State.levelEvents
          rw [List.filter_append]
          simp [hevent]
        have hevents : s.levelEvents named = s.levelEvents done ++ l :: s.levelEvents rest := by
          unfold State.levelEvents
          rw [hsplit, List.filter_append, List.filter_cons, if_pos hevent]
        have hlevel : (s.line l).mode = .level := by
          unfold State.again at hevent
          simp only [Bool.and_eq_true, beq_iff_eq] at hevent
          exact hevent.1.1
        rw [State.relatchLine_event (s := s) (t := s.levelled _ _ V) hline hevent, hset, hmore]
        refine State.takeEvent_levelled hevents (hsorted.filter _) hlevel ((State.set_line ..).trans (if_pos rfl)) ?_
        exact hroutes l (by rw [hevents]; simp)
    · rw [State.set_line, hread k]
      by_cases hk : k = l
      · subst hk
        rw [if_pos rfl, if_pos (by simp)]
      · rw [if_neg hk]
        exact if_congr (by simp [hk]) rfl rfl

/-! ## CLEAR_SENSE as a request -/

/-- The lines that a CLEAR_SENSE names, in ascending order. -/
def namedLines (lines : List U8) : List LineId := allLines.filter fun l => l.val ∈ lines.map BitVec.toNat

theorem namedLines_sorted (lines : List U8) : (namedLines lines).Pairwise (· < ·) := (List.pairwise_lt_finRange 16).filter _

theorem clearedLines_some {lines : List U8} (h : lines ≠ [] ∧ ∀ n ∈ lines, n.toNat < 16) :
    clearedLines lines = some (namedLines lines) := by
  unfold clearedLines
  dsimp only
  rw [if_pos ⟨by simpa using h.1, by simpa using h.2⟩]
  refine congrArg some (List.filter_congr fun l _ => ?_)
  rw [List.contains_eq_mem]

theorem clearedLines_none {lines : List U8} (h : lines = [] ∨ ∃ n ∈ lines, 16 ≤ n.toNat) : clearedLines lines = none := by
  unfold clearedLines
  dsimp only
  refine if_neg fun hok => ?_
  obtain rfl | ⟨n, hn, hle⟩ := h
  · exact hok.1 rfl
  · have hlt := List.all_eq_true.mp hok.2 n.toNat (List.mem_map_of_mem hn)
    exact absurd (of_decide_eq_true hlt) (Nat.not_lt.mpr hle)

/-- A CLEAR_SENSE of one line. -/
theorem namedLines_one {lines : List U8} (h : lines ≠ [] ∧ ∀ n ∈ lines, n.toNat = l.val) : namedLines lines = [l] := by
  obtain ⟨n, rest, rfl⟩ := List.exists_cons_of_ne_nil h.1
  have hmem : ∀ k : LineId, k.val ∈ (n :: rest).map BitVec.toNat ↔ k = l := fun k => by
    constructor
    · intro hk
      obtain ⟨m, hm, hmk⟩ := List.mem_map.mp hk
      exact Fin.ext (hmk.symm.trans (h.2 m hm))
    · rintro rfl
      exact List.mem_map.mpr ⟨n, List.mem_cons_self .., h.2 n (List.mem_cons_self ..)⟩
  have hfilter : namedLines (n :: rest) = allLines.filter (· == l) :=
    List.filter_congr fun k _ => decide_eq_decide.mpr (hmem k)
  have hcount : allLines.count l = 1 := List.count_eq_one_of_mem (List.nodup_finRange 16) (List.mem_finRange l)
  rw [hfilter, List.filter_beq, hcount]
  rfl

/-- A CLEAR_SENSE of lines whose events go to no verification. -/
theorem State.handleClearSense_many {tag : U8} {lines : List U8} (h : lines ≠ [] ∧ ∀ n ∈ lines, n.toNat < 16)
    (hroutes : ∀ l ∈ s.levelEvents (namedLines lines),
      (s.line l).span = 0 ∨ s.windowOf l ≠ none ∨ (s.line l).action = .logOnly) :
    ∃ V, s.handleRequest tag (.clearSense (.fields lines)) =
        (s.levelled (s.levelEvents (namedLines lines)) (s.levelEvents (namedLines lines)) V).answer tag 0x61 .ok
          (.senseCleared
            ((namedLines lines).map fun l => ⟨l, s.again l, s.again l && (s.line l).enabled⟩)
            (s.levelEvents (namedLines lines)).length) ∧
      ∀ k : LineId, V[k] = if k ∈ namedLines lines then (s.line k).relatched else s.line k := by
  obtain ⟨V₀, hclear, hV₀⟩ := State.foldl_clearLine (namedLines lines) s
  obtain ⟨V, hrelatch, hV⟩ := State.foldl_relatchLine (namedLines_sorted lines) hV₀ hroutes (namedLines lines) []
    (List.append_nil _).symm
  have hV' : ∀ k : LineId, V[k] = if k ∈ namedLines lines then (s.line k).relatched else s.line k := fun k => by
    rw [hV k]
    by_cases hk : k ∈ namedLines lines
    · rw [if_pos hk, if_pos hk]
    · rw [if_neg hk, if_neg hk, if_neg hk]
  refine ⟨V, ?_, hV'⟩
  have hcount : (namedLines lines).countP (fun l => (State.line { s with senseLines := V₀ } l).latchLevel.masking.masked) =
      (s.levelEvents (namedLines lines)).length := by
    unfold State.levelEvents
    rw [← List.countP_eq_length_filter]
    refine List.countP_congr fun l hl => ?_
    have hline : State.line { s with senseLines := V₀ } l = (s.line l).cleared := (hV₀ l).trans (if_pos hl)
    rw [hline, SenseLine.relatched_eq]
    rfl
  have hreply : (namedLines lines).map (fun l => (⟨l,
        ((s.levelled (s.levelEvents (namedLines lines)) (s.levelEvents (namedLines lines)) V).line l).raw,
        ((s.levelled (s.levelEvents (namedLines lines)) (s.levelEvents (namedLines lines)) V).line l).masked⟩ : ClearedLine)) =
      (namedLines lines).map fun l => ⟨l, s.again l, s.again l && (s.line l).enabled⟩ := by
    refine List.map_congr_left fun l hl => ?_
    have hline : (s.levelled (s.levelEvents (namedLines lines)) (s.levelEvents (namedLines lines)) V).line l =
        (s.line l).relatched := (hV' l).trans (if_pos hl)
    rw [hline]
    rfl
  show s.handleClearSense tag lines = _
  unfold State.handleClearSense
  rw [clearedLines_some h]
  dsimp only
  rw [hclear, hcount, hrelatch, hreply]

/-- A CLEAR_SENSE of lines none of which has an event. -/
theorem State.arrive_clearSense_quiet {tag : U8} {lines : List U8} (hready : s.ready = true)
    (h : lines ≠ [] ∧ ∀ n ∈ lines, n.toNat < 16)
    (hquiet : ∀ l ∈ namedLines lines, (s.again l && (s.line l).enabled) = false) :
    s.arrive tag (.clearSense (.fields lines)) = .next
      (State.replied
        { s with
          senseLines := Vector.ofFn fun (l : LineId) =>
            if l ∈ namedLines lines then { s.line l with raw := s.again l, masked := false } else s.line l }
        tag 0x61 .ok (.senseCleared ((namedLines lines).map fun l => ⟨l, s.again l, false⟩) 0)) := by
  have hnone : s.levelEvents (namedLines lines) = [] :=
    List.filter_eq_nil_iff.mpr fun l hl => by rw [hquiet l hl]; nofun
  obtain ⟨V, hh, hV⟩ := State.handleClearSense_many (tag := tag) h (s := s) (by rw [hnone]; nofun)
  have hlines : V = Vector.ofFn fun (l : LineId) =>
      if l ∈ namedLines lines then { s.line l with raw := s.again l, masked := false } else s.line l := by
    refine Vector.ext fun i hi => (hV ⟨i, hi⟩).trans ?_
    rw [Vector.getElem_ofFn]
    split
    · rename_i hl
      have hmask := hquiet _ hl
      exact congrArg (fun b => ({ s.line ⟨i, hi⟩ with raw := s.again ⟨i, hi⟩, masked := b } : SenseLine)) hmask
    · rfl
  have hreply : ((namedLines lines).map fun l => (⟨l, s.again l, s.again l && (s.line l).enabled⟩ : ClearedLine)) =
      (namedLines lines).map fun l => ⟨l, s.again l, false⟩ :=
    List.map_congr_left fun l hl => by rw [hquiet l hl]
  rw [hnone, State.levelled_nil, hlines, hreply] at hh
  exact State.arrive_changed hready hh rfl rfl rfl rfl

/-- A CLEAR_SENSE of one line that latches again with an event. -/
theorem State.handleClearSense_one {tag : U8} {lines : List U8} {route : SenseRoute} (h : lines ≠ [] ∧ ∀ n ∈ lines, n.toNat = l.val)
    (hagain : (s.line l).mode = .level ∧ (s.line l).atActive = true ∧ (s.line l).enabled = true)
    (hroute : (s.setLine l { s.line l with raw := true, masked := true }).routeEvent l = (t, route))
    (hlines : t.senseLines = (s.setLine l { s.line l with raw := true, masked := true }).senseLines) :
    s.handleRequest tag (.clearSense (.fields lines)) =
      (t.queueUnreserved (.sense l (s.line l).span .level s.clock route)).answer tag 0x61 .ok
        (.senseCleared [⟨l, true, true⟩] 1) := by
  obtain ⟨hlevel, hactive, henabled⟩ := hagain
  have hrelatched : (s.line l).relatched = { s.line l with raw := true, masked := true } := by
    have hraw : ((s.line l).mode == .level && (s.line l).atActive) = true := by rw [hlevel, hactive]; rfl
    unfold SenseLine.relatched
    rw [hraw, Bool.true_and]
    exact congrArg (fun b => ({ s.line l with raw := true, masked := b } : SenseLine)) henabled
  have hnamed : clearedLines lines = some [l] := by
    rw [clearedLines_some ⟨h.1, fun n hn => by rw [h.2 n hn]; exact l.isLt⟩, namedLines_one h]
  have hcleared : (s.clearLine l).line l = (s.line l).cleared := State.line_setLine_self ..
  have hset : (s.clearLine l).setLine l { s.line l with raw := true, masked := true } =
      s.setLine l { s.line l with raw := true, masked := true } :=
    congrArg (fun v => { s with senseLines := v }) (Vector.set_set ..)
  have hself := State.line_setLine_self s l { s.line l with raw := true, masked := true }
  have htake := State.takeEvent_eq hroute
  rw [hself] at htake
  have hrelatch : (s.clearLine l).relatchLine l = t.queueUnreserved (.sense l (s.line l).span .level s.clock route) := by
    rw [State.relatchLine_event (s := s) hcleared (by unfold State.again; rw [hlevel, hactive, henabled]; rfl), hrelatched,
      hset, htake]
    exact congrArg (fun m => t.queueUnreserved (.sense l (s.line l).span m s.clock route)) hlevel
  have hline : State.line (t.queueUnreserved (.sense l (s.line l).span .level s.clock route)) l =
      { s.line l with raw := true, masked := true } := by
    obtain ⟨ns, d, hq⟩ := State.queueUnreserved_eq (t := t) (.sense l (s.line l).span .level s.clock route)
    rw [hq]
    exact (congrArg (fun v : Vector SenseLine 16 => v[l]) hlines).trans hself
  have hmask : ((s.clearLine l).line l).latchLevel.masking.masked = true := by
    rw [hcleared, SenseLine.relatched_eq, hrelatched]
  show s.handleClearSense tag lines = _
  unfold State.handleClearSense
  rw [hnamed]
  simp only [List.foldl_cons, List.foldl_nil, List.map_cons, List.map_nil]
  rw [hrelatch, hline, List.countP_singleton, if_pos hmask]

/-! ## Routes on a part whose line has a new record -/

section
variable {r : SenseLine}

/-- A bound VERIFY line's event outside every window, in a campaign that goes on. -/
theorem State.routeEvent_goes (hspan : r.span ≠ 0) (hstack : ∀ w ∈ s.stack, r.span ∉ w.spans) (haction : r.action = .verify)
    (hnd : (s.crossing r.span).Nodup)
    (hreasons : s.campaign.host = false ∧ s.campaign.window = false ∧ s.campaign.deferredSuspend = false)
    (hgoes : s.measuringOn r.span = [] ∨
      ∃ e ∈ s.campaign.entries, e.circuit ∉ s.measuringOn r.span ∧ e.status.isFinished = false) :
    ∃ C L looks, (s.setLine l r).routeEvent l =
        ({ s.setLine l r with
            circuits := C, lanes := L, looks := looks
            queue := s.queue ++ (s.toVerify r.span ++ s.measuringOn r.span).map fun c => plainEntry c .sense
            campaign :=
              { s.campaign with
                progressOwed := s.campaign.progressOwed && (s.measuringOn r.span).isEmpty
                entries := s.campaign.endedEntries (s.measuringOn r.span) .disturbed } },
          .verify (s.toVerify r.span).length (s.toDisturb r.span).length) ∧
      (∀ c, tableRead {} C c =
        if c ∈ s.toVerify r.span ∨ c ∈ s.measuringOn r.span then { s.circuit c with state := .pending }
        else if c ∈ s.toDisturb r.span then { s.circuit c with disturbed := true }
        else s.circuit c) ∧
      ∀ k : LaneId, L[k] = s.stoppedLane (s.measuringOn r.span) k := by
  have hself := State.line_setLine_self s l r
  obtain ⟨C, L, looks, hverify, hread, hlanes⟩ := State.verifySpan_goes (s := s.setLine l r) hnd hreasons hgoes
  refine ⟨C, L, looks, ?_, hread, hlanes⟩
  rw [State.routeEvent_verify (by rw [hself]; exact hspan) (by rw [hself]; exact hstack) (by rw [hself]; exact haction),
    hself, hverify]
  rfl

end

theorem bound_span {b : U16} (h : b ≠ 0) : b.toNat ≠ 0 := fun hz => h (BitVec.eq_of_toNat_eq hz)

end

end Sys2Proof.Machine

namespace Sys2Proof.Proofs

open Sys2Proof.Machine

/-- Settles O27: a record is settled, an event takes its route, and the reply follows. -/
theorem senseRequestsAnswered : Obligations.SenseRequestsAnswered := by
  refine ⟨?_, ?_, ?_, ?_, ?_, ?_, ?_, ?_, ?_, ?_, ?_, ?_, ?_, ?_⟩
  · intro s tag f h hbad
    refine State.arrive_refused h ?_ rfl
    show s.handleSetSense tag f = _
    unfold State.handleSetSense
    rw [f.configure_of_not_fits hbad]
  · intro s tag f l r h hl hfits hbinding hmode hquiet
    exact State.arrive_changed h (State.handleSetSense_quiet hl hfits hbinding hmode hquiet) rfl rfl rfl rfl
  · intro s tag f l r h hl hfits hbinding hmode hzero hevent
    have hself := State.line_setLine_self s l (f.record (s.line l))
    have hspan : (f.record (s.line l)).span = 0 := congrArg BitVec.toNat hzero
    have hroute := State.routeEvent_nowhere (s := s.setLine l (f.record (s.line l))) (l := l) (.inl (by rw [hself, hspan]))
    have hh := State.handleSetSense_event (tag := tag) hl hfits hbinding hmode hevent hroute rfl
    rw [hspan] at hh
    exact State.arrive_event_atRest h hh rfl rfl rfl rfl rfl
  · intro s tag f l before after w r queued h hl hfits hbinding hmode hbound hevent hstack hbefore hw
    have hself := State.line_setLine_self s l (f.record (s.line l))
    have hroute := State.routeEvent_window (s := s.setLine l (f.record (s.line l))) (l := l)
      (by rw [hself]; exact bound_span hbound) hstack (by rw [hself]; exact hbefore) (by rw [hself]; exact hw)
    rw [hself] at hroute
    exact State.arrive_event_atRest h (State.handleSetSense_event hl hfits hbinding hmode hevent hroute rfl) rfl rfl rfl rfl rfl
  · intro s tag f l r queued h hl hfits hbinding hmode hbound hevent hstack haction
    have hself := State.line_setLine_self s l (f.record (s.line l))
    have hroute := State.routeEvent_nowhere (s := s.setLine l (f.record (s.line l))) (l := l)
      (.inr (by rw [hself]; exact ⟨hstack, if_pos haction⟩))
    exact State.arrive_event_atRest h (State.handleSetSense_event hl hfits hbinding hmode hevent hroute rfl) rfl rfl rfl rfl rfl
  · intro s tag f l r queued found h hl hfits hbinding hmode hbound hevent hstack haction hbusy hnone hnd
    have hfound : s.toVerify r.span = found := s.toVerify_eq _
    rw [← hfound]
    have hself := State.line_setLine_self s l (f.record (s.line l))
    obtain ⟨C, looks, hverify, hread⟩ := State.verifySpan_idle (s := s.setLine l (f.record (s.line l))) hnone
    have hroute := State.routeEvent_verify (s := s.setLine l (f.record (s.line l))) (l := l)
      (by rw [hself]; exact bound_span hbound) (by rw [hself]; exact hstack) (by rw [hself]; exact if_neg (by rw [haction]; nofun))
    rw [hself] at hroute
    have hrun := State.arrive_event_busy (tag := tag) (ans := tag)
      (t := { s.setLine l r with circuits := C, queue := s.queue ++ (s.toVerify r.span).map fun c => plainEntry c .sense })
      h (State.handleSetSense_event hl hfits hbinding hmode hevent (hroute.trans hverify) rfl) rfl rfl rfl rfl hbusy
    have hcircuits := s.queuedAt_circuits
      { s.setLine l r with circuits := C, queue := s.queue ++ (s.toVerify r.span).map fun c => plainEntry c .sense }
      (.sense l r.span r.mode s.clock (.verify (s.toVerify r.span).length 0))
    refine ⟨_, hrun, ?_, fun c => (congrArg (fun v => tableRead ({} : Circuit) v c) hcircuits).trans (hread c)⟩
    exact congrArg (fun v => State.replied (queued
      { s.setLine l r with circuits := v, queue := s.queue ++ (s.toVerify r.span).map fun c => plainEntry c .sense }
      (.sense l r.span r.mode s.clock (.verify (s.toVerify r.span).length 0))) tag 0x60 .ok (.senseSet r true)) hcircuits.symm
  · intro s tag lines l queued h hlines hagain hnowhere
    have hself := State.line_setLine_self s l { s.line l with raw := true, masked := true }
    have hroute := State.routeEvent_nowhere (s := s.setLine l { s.line l with raw := true, masked := true }) (l := l)
      (by rw [hself]; exact hnowhere)
    exact State.arrive_event_atRest h (State.handleClearSense_one hlines hagain hroute rfl) rfl rfl rfl rfl rfl
  · intro s tag lines l before after w queued h hlines hagain hspan hstack hbefore hw
    have hself := State.line_setLine_self s l { s.line l with raw := true, masked := true }
    have hroute := State.routeEvent_window (s := s.setLine l { s.line l with raw := true, masked := true }) (l := l)
      (by rw [hself]; exact hspan) hstack (by rw [hself]; exact hbefore) (by rw [hself]; exact hw)
    rw [hself] at hroute
    have hlevel : (⟨l, (s.line l).span, s.clock, (s.line l).mode⟩ : SenseEvent) = s.levelEvent l :=
      congrArg (fun m => (⟨l, (s.line l).span, s.clock, m⟩ : SenseEvent)) hagain.1
    have hroute' : (s.setLine l { s.line l with raw := true, masked := true }).routeEvent l =
        ({ s.setLine l { s.line l with raw := true, masked := true } with
            stack := before ++ w.logged (s.levelEvent l) :: after },
          .window w.id (decide (w.events.length < 16))) := by
      rw [← hlevel]
      exact hroute
    exact State.arrive_event_atRest h (State.handleClearSense_one hlines hagain hroute' rfl) rfl rfl rfl rfl rfl
  · intro s tag lines named again h hlines hquiet
    refine State.arrive_clearSense_quiet h hlines fun l hl => ?_
    cases hagain : s.again l with
    | false => rfl
    | true => exact hquiet l hl hagain
  · intro s tag lines h hbad
    refine State.arrive_refused h ?_ rfl
    show s.handleClearSense tag lines = _
    unfold State.handleClearSense
    rw [clearedLines_none hbad]
  · intro s tag lines named h hlines hnone
    have hagain : ∀ l ∈ namedLines lines, s.again l = false := fun l hl => by
      unfold State.again
      obtain hedge | hpassive := hnone l hl
      · rw [hedge]
        rfl
      · rw [hpassive, Bool.and_false]
    have hrun := State.arrive_clearSense_quiet (tag := tag) h hlines fun l hl => by rw [hagain l hl, Bool.false_and]
    have hreply : ((namedLines lines).map fun l => (⟨l, s.again l, false⟩ : ClearedLine)) =
        (namedLines lines).map fun l => ⟨l, false, false⟩ := List.map_congr_left fun l hl => by rw [hagain l hl]
    have hvector : (Vector.ofFn fun (l : LineId) =>
          if l ∈ namedLines lines then ({ s.line l with raw := s.again l, masked := false } : SenseLine) else s.line l) =
        Vector.ofFn fun (l : LineId) =>
          if l ∈ namedLines lines then ({ s.line l with raw := false, masked := false } : SenseLine) else s.line l := by
      refine congrArg Vector.ofFn (funext fun l => ?_)
      split
      · rw [hagain l ‹_›]
      · rfl
    rw [hreply, hvector] at hrun
    exact hrun
  · intro s tag f l r queued found capturing measuring h hl hfits hbinding hmode hbound hevent hbusy hstack haction hnd
      hentries hreasons hgoes
    have hfound : s.toVerify r.span = found := s.toVerify_eq _
    have hcapturing : s.toDisturb r.span = capturing := s.toDisturb_eq _
    have hmeasuring : s.measuringOn r.span = measuring := congrArg (List.filter _) hcapturing
    rw [← hmeasuring] at hgoes
    rw [← hfound, ← hcapturing, ← hmeasuring]
    obtain ⟨C, L, looks, hroute, hread, hlanes⟩ :=
      State.routeEvent_goes (l := l) (bound_span hbound) hstack haction hnd hreasons hgoes
    let u : State := { s.setLine l r with
      circuits := C, lanes := L
      queue := s.queue ++ (s.toVerify r.span ++ s.measuringOn r.span).map fun c => plainEntry c .sense
      campaign :=
        { s.campaign with
          progressOwed := s.campaign.progressOwed && (s.measuringOn r.span).isEmpty
          entries := s.campaign.endedEntries (s.measuringOn r.span) .disturbed } }
    let n : Notice := .sense l r.span r.mode s.clock (.verify (s.toVerify r.span).length (s.toDisturb r.span).length)
    have hrun := State.arrive_event_busy (tag := tag) (ans := tag) (t := u) h
      (State.handleSetSense_event hl hfits hbinding hmode hevent hroute rfl) rfl rfl rfl rfl
      (State.lanesBusy_stopped hbusy hlanes rfl)
    have hcircuits := s.queuedAt_circuits u n
    have hkept := s.queuedAt_lanes u n
    refine ⟨_, hrun, ?_, fun c => (congrArg (fun v => tableRead ({} : Circuit) v c) hcircuits).trans (hread c),
      fun k => (congrArg (fun v : Vector Lane 8 => v[k]) hkept).trans (hlanes k)⟩
    exact congrArg₂ (fun v w => State.replied (queued { u with circuits := v, lanes := w } n) tag 0x60 .ok (.senseSet r true))
      hcircuits.symm hkept.symm
  · intro s tag lines l r queued found capturing measuring h hlines hagain hspan hbusy hstack haction hnd hentries hreasons
      hgoes
    have hfound : s.toVerify r.span = found := s.toVerify_eq _
    have hcapturing : s.toDisturb r.span = capturing := s.toDisturb_eq _
    have hmeasuring : s.measuringOn r.span = measuring := congrArg (List.filter _) hcapturing
    rw [← hmeasuring] at hgoes
    rw [← hfound, ← hcapturing, ← hmeasuring]
    obtain ⟨C, L, looks, hroute, hread, hlanes⟩ := State.routeEvent_goes (l := l) hspan hstack haction hnd hreasons hgoes
    let u : State := { s.setLine l r with
      circuits := C, lanes := L
      queue := s.queue ++ (s.toVerify r.span ++ s.measuringOn r.span).map fun c => plainEntry c .sense
      campaign :=
        { s.campaign with
          progressOwed := s.campaign.progressOwed && (s.measuringOn r.span).isEmpty
          entries := s.campaign.endedEntries (s.measuringOn r.span) .disturbed } }
    let n : Notice := .sense l r.span r.mode s.clock (.verify (s.toVerify r.span).length (s.toDisturb r.span).length)
    have hh := State.handleClearSense_one (tag := tag) hlines hagain hroute rfl
    have hmode : (Notice.sense l (s.line l).span .level s.clock
        (.verify (s.toVerify r.span).length (s.toDisturb r.span).length)) = n :=
      congrArg (fun m => Notice.sense l r.span m s.clock
        (.verify (s.toVerify r.span).length (s.toDisturb r.span).length)) hagain.1.symm
    rw [hmode] at hh
    have hrun := State.arrive_event_busy (t := u) h hh rfl rfl rfl rfl (State.lanesBusy_stopped hbusy hlanes rfl)
    have hcircuits := s.queuedAt_circuits u n
    have hkept := s.queuedAt_lanes u n
    refine ⟨_, hrun, ?_, fun c => (congrArg (fun v => tableRead ({} : Circuit) v c) hcircuits).trans (hread c),
      fun k => (congrArg (fun v : Vector Lane 8 => v[k]) hkept).trans (hlanes k)⟩
    exact congrArg₂ (fun v w => State.replied (queued { u with circuits := v, lanes := w } n) tag 0x61 .ok
      (.senseCleared [⟨l, true, true⟩] 1)) hcircuits.symm hkept.symm
  · intro s tag lines named again events window route notices h hlines hroutes
    obtain ⟨V, hh, hV⟩ := State.handleClearSense_many (tag := tag) (s := s) hlines hroutes
    have hlines : V = Vector.ofFn fun (l : LineId) =>
        if l ∈ named then { s.line l with raw := again l, masked := again l && (s.line l).enabled } else s.line l :=
      Vector.ext fun i hi => (hV ⟨i, hi⟩).trans (by rw [Vector.getElem_ofFn]; rfl)
    rw [hlines] at hh
    exact State.arrive_changed h hh rfl rfl rfl rfl

end Sys2Proof.Proofs


/-! # START_CAPTURE taken -/

namespace Sys2Proof.Machine

section
variable {s : State} {ids done : List Nat} {c : Nat}

/-! ## The entries of slots without a definition -/

/-- The status of an entry that R126 has reached. -/
def State.reachedStatus (s : State) (c : Nat) : EntryStatus :=
  if (s.circuit c).state = .empty then .finished .notDefined
  else if (s.circuit c).state = .unreadable then .finished .unreadable
  else .unprocessed

/-- The campaign over a list of circuits, some of whose entries have been reached. -/
def State.reachedCampaign (s : State) (ids done : List Nat) : Campaign where
  state := .running
  entries := ids.map fun c => ⟨c, if c ∈ done then s.reachedStatus c else .unprocessed⟩

/-- A part whose campaign is such a one, and ends when every entry has a result. -/
def State.reaching (s : State) (ids done : List Nat) : State :=
  if (s.reachedCampaign ids done).allFinished then State.endCampaign { s with campaign := s.reachedCampaign ids done }
  else { s with campaign := s.reachedCampaign ids done }

theorem State.reachedStatus_defined (h : (s.circuit c).state ≠ .empty ∧ (s.circuit c).state ≠ .unreadable) :
    s.reachedStatus c = .unprocessed := by
  unfold State.reachedStatus
  rw [if_neg h.1, if_neg h.2]

theorem State.reachedStatus_undefined (h : (s.circuit c).state = .empty ∨ (s.circuit c).state = .unreadable) :
    s.reachedStatus c = .finished (if (s.circuit c).state = .empty then .notDefined else .unreadable) := by
  unfold State.reachedStatus
  by_cases he : (s.circuit c).state = .empty
  · rw [if_pos he, if_pos he]
  · rw [if_neg he, if_pos (h.resolve_left he), if_neg he]

theorem State.reachedCampaign_congr {done' : List Nat}
    (h : ∀ x ∈ ids, (x ∈ done' ↔ x ∈ done) ∨ s.reachedStatus x = .unprocessed) :
    s.reachedCampaign ids done' = s.reachedCampaign ids done := by
  unfold State.reachedCampaign
  congr 1
  refine List.map_congr_left fun x hx => ?_
  obtain h | h := h x hx
  · simp only [h]
  · simp only [h, ite_self]

theorem State.reachedCampaign_allFinished :
    (s.reachedCampaign ids done).allFinished = true ↔ ∀ x ∈ ids, x ∈ done ∧ (s.reachedStatus x).isFinished = true := by
  unfold Campaign.allFinished State.reachedCampaign
  rw [List.all_eq_true, List.forall_mem_map]
  refine forall₂_congr fun x _ => ?_
  by_cases hx : x ∈ done
  · simp [hx]
  · simp [hx, EntryStatus.isFinished]

theorem State.reachedCampaign_entryFor (hc : c ∈ ids) :
    (s.reachedCampaign ids done).entryFor c = some ⟨c, if c ∈ done then s.reachedStatus c else .unprocessed⟩ := by
  unfold Campaign.entryFor State.reachedCampaign
  rw [List.find?_map]
  have hfind : ids.find? ((fun e : CaptureEntry => e.circuit == c) ∘
      fun c => ⟨c, if c ∈ done then s.reachedStatus c else .unprocessed⟩) = some c := by
    have hp : ((fun e : CaptureEntry => e.circuit == c) ∘
        fun c => ⟨c, if c ∈ done then s.reachedStatus c else .unprocessed⟩) = fun x => x == c := rfl
    rw [hp]
    obtain ⟨y, hy⟩ := Option.isSome_iff_exists.mp
      (List.find?_isSome (p := fun x => x == c).mpr ⟨c, hc, beq_self_eq_true c⟩)
    rw [hy, beq_iff_eq.mp (List.find?_some (p := fun x => x == c) hy)]
  rw [hfind]
  rfl

theorem State.reachedCampaign_restatus :
    (s.reachedCampaign ids done).entries.map (fun e => if e.circuit = c then { e with status := s.reachedStatus c } else e) =
      (s.reachedCampaign ids (done ++ [c])).entries := by
  unfold State.reachedCampaign
  refine List.map_map.trans (List.map_congr_left fun x _ => ?_)
  by_cases hx : x = c
  · simp [hx]
  · simp [hx]

/-- A further result, which may be the campaign's last. -/
theorem State.finishEntry_reaching {r : CaptureResult} (hr : s.reachedStatus c = .finished r) :
    State.finishEntry { s with campaign := s.reachedCampaign ids done } c r = s.reaching ids (done ++ [c]) := by
  have hset : State.setEntry { s with campaign := s.reachedCampaign ids done } c (.finished r) =
      { s with campaign := s.reachedCampaign ids (done ++ [c]) } := by
    rw [← hr]
    exact congrArg (fun es => ({ s with campaign := { s.reachedCampaign ids done with entries := es } } : State))
      (State.reachedCampaign_restatus)
  unfold State.finishEntry State.reaching
  rw [hset]
  rfl

/-- An entry reached at its turn. -/
theorem State.reachUndefined_reaching (hc : c ∈ ids)
    (hchanging : (s.circuit c).state = .empty ∨ (s.circuit c).state = .unreadable → (s.circuit c).changing = false) :
    (s.reaching ids done).reachUndefined c = s.reaching ids (done ++ [c]) := by
  by_cases hall : (s.reachedCampaign ids done).allFinished = true
  · have hsame : s.reaching ids (done ++ [c]) = s.reaching ids done := by
      have hk := State.reachedCampaign_congr (s := s) (ids := ids) (done := done) (done' := done ++ [c]) fun x hx =>
        .inl (by simp [(State.reachedCampaign_allFinished.mp hall x hx).1])
      unfold State.reaching
      rw [hk]
    rw [hsame]
    refine State.reachUndefined_processed ?_
    unfold State.reaching
    rw [if_pos hall]
    rfl
  have hgoing : s.reaching ids done = { s with campaign := s.reachedCampaign ids done } := if_neg hall
  by_cases hd : (s.circuit c).state = .empty ∨ (s.circuit c).state = .unreadable
  · have hstatus := State.reachedStatus_undefined hd
    by_cases hin : c ∈ done
    · have hsame : s.reaching ids (done ++ [c]) = s.reaching ids done := by
        have hk := State.reachedCampaign_congr (s := s) (ids := ids) (done := done) (done' := done ++ [c]) fun x hx => .inl
          (by
            rw [List.mem_append, List.mem_singleton]
            exact or_iff_left_of_imp fun h => h ▸ hin)
        unfold State.reaching
        rw [hk]
      rw [hsame, hgoing]
      refine State.reachUndefined_processed ?_
      unfold State.namedUnprocessed State.entryIs
      rw [State.reachedCampaign_entryFor hc, if_pos hin, hstatus]
      rfl
    · rw [hgoing, ← State.finishEntry_reaching hstatus]
      have hnamed : State.namedUnprocessed { s with campaign := s.reachedCampaign ids done } c = true := by
        unfold State.namedUnprocessed State.entryIs
        rw [State.reachedCampaign_entryFor hc, if_neg hin]
        rfl
      unfold State.reachUndefined
      refine (if_pos ⟨rfl, hnamed, hchanging hd⟩).trans ?_
      by_cases he : (s.circuit c).state = .empty
      · rw [if_pos he]
        exact if_pos he
      · rw [if_neg he]
        exact (if_neg he).trans (if_pos (hd.resolve_left he))
  · rw [not_or] at hd
    have hk := State.reachedCampaign_congr (s := s) (ids := ids) (done := done) (done' := done ++ [c]) fun x hx => by
      by_cases hx : x = c
      · exact .inr (hx ▸ State.reachedStatus_defined hd)
      · exact .inl (by simp [hx])
    have hsame : s.reaching ids (done ++ [c]) = s.reaching ids done := by
      unfold State.reaching
      rw [hk]
    rw [hsame, hgoing]
    exact State.reachUndefined_defined hd

theorem State.foldl_reachUndefined {cs : List Nat} (hcs : ∀ c ∈ cs, c ∈ ids)
    (hchanging : ∀ c ∈ ids,
      (s.circuit c).state = .empty ∨ (s.circuit c).state = .unreadable → (s.circuit c).changing = false) :
    cs.foldl State.reachUndefined (s.reaching ids done) = s.reaching ids (done ++ cs) := by
  induction cs generalizing done with
  | nil => simp
  | cons c cs ih =>
    rw [List.forall_mem_cons] at hcs
    rw [List.foldl_cons, State.reachUndefined_reaching hcs.1 (hchanging c hcs.1), ih hcs.2, List.append_assoc]
    rfl

/-- A campaign with an entry that has no result goes on. -/
theorem State.reaching_goes (h : ∃ c ∈ ids, (s.circuit c).state ≠ .empty ∧ (s.circuit c).state ≠ .unreadable) :
    s.reaching ids ids =
      { s with campaign := { state := .running, entries := ids.map fun c => ⟨c, s.reachedStatus c⟩ } } := by
  obtain ⟨c, hc, hd⟩ := h
  have hall : ¬(s.reachedCampaign ids ids).allFinished = true := fun hf => by
    have := (State.reachedCampaign_allFinished.mp hf c hc).2
    rw [State.reachedStatus_defined hd] at this
    cases this
  refine (if_neg hall).trans ?_
  have hentries : s.reachedCampaign ids ids =
      { state := .running, entries := ids.map fun c => ⟨c, s.reachedStatus c⟩ } := by
    unfold State.reachedCampaign
    congr 1
    exact List.map_congr_left fun x hx => by rw [if_pos hx]
  rw [hentries]

/-- A campaign whose circuits are all undefined ends. -/
theorem State.reaching_ends (h : ∀ c ∈ ids, (s.circuit c).state = .empty ∨ (s.circuit c).state = .unreadable) :
    s.reaching ids ids =
      State.endCampaign { s with campaign :=
        { state := .running
          entries := ids.map fun c =>
            ⟨c, .finished (if (s.circuit c).state = .empty then .notDefined else .unreadable)⟩ } } := by
  have hstatus : ∀ c ∈ ids, s.reachedStatus c =
      .finished (if (s.circuit c).state = .empty then .notDefined else .unreadable) := fun c hc =>
    State.reachedStatus_undefined (h c hc)
  have hall : (s.reachedCampaign ids ids).allFinished = true := State.reachedCampaign_allFinished.mpr fun c hc =>
    ⟨hc, by rw [hstatus c hc]; rfl⟩
  refine (if_pos hall).trans ?_
  have hentries : s.reachedCampaign ids ids =
      { state := .running
        entries := ids.map fun c =>
          ⟨c, .finished (if (s.circuit c).state = .empty then .notDefined else .unreadable)⟩ } := by
    unfold State.reachedCampaign
    congr 1
    exact List.map_congr_left fun x hx => by rw [if_pos hx, hstatus x hx]
  rw [hentries]

/-! ## Every lane looked at -/

theorem State.mem_foldl_lookAt (l : LaneId) (ls : List LaneId) (s : State) :
    l ∈ (ls.foldl State.lookAt s).looks ↔ l ∈ s.looks ∨ l ∈ ls := by
  induction ls generalizing s with
  | nil => simp
  | cons x ls ih =>
    have hone : l ∈ (s.lookAt x).looks ↔ l ∈ s.looks ∨ l = x := by
      unfold State.lookAt
      split
      · next hx =>
        rw [List.contains_iff_mem] at hx
        exact (or_iff_left_of_imp fun h => h ▸ hx).symm
      · simp
    rw [List.foldl_cons, ih, hone, List.mem_cons, or_assoc]

theorem State.mem_lookAtAll (s : State) (l : LaneId) : l ∈ s.lookAtAll.looks :=
  (State.mem_foldl_lookAt l allLanes s).mpr (.inr (List.mem_finRange l))

/-- Of the lanes looked at one alone may be served. -/
theorem State.offerCaptures_only {t : State} {l : LaneId} (hl : l ∈ s.looks) (hoffer : s.offerCapture l = t)
    (hbefore : ∀ j, j ≠ l → s.served j = false) (hafter : ∀ j, j ≠ l → t.served j = false) : s.offerCaptures = t := by
  have hmem : l ∈ s.lookedAt := List.mem_filter.mpr ⟨List.mem_finRange l, by simpa using hl⟩
  have hnd : s.lookedAt.Nodup := (List.nodup_finRange 8).filter _
  obtain ⟨as, bs, hsplit⟩ := List.append_of_mem hmem
  rw [hsplit, List.nodup_append, List.nodup_cons] at hnd
  obtain ⟨-, ⟨hbs, -⟩, has⟩ := hnd
  have hpassed : ∀ (u : State) (ls : List LaneId), (∀ j ∈ ls, u.served j = false) → ls.foldl State.offerCapture u = u := by
    intro u ls hls
    induction ls with
    | nil => rfl
    | cons j ls ih =>
      rw [List.forall_mem_cons] at hls
      rw [List.foldl_cons, State.offerCapture_unserved hls.1, ih hls.2]
  unfold State.offerCaptures
  rw [hsplit, List.foldl_append, List.foldl_cons, hpassed s as fun j hj => hbefore j fun he => has j hj l (by simp) he,
    hoffer, hpassed t bs fun j hj => hafter j fun he => hbs (he ▸ hj)]

/-! ## The request -/

/-- The circuits that a START_CAPTURE takes: its list without later duplicates, or ALL_UNREFERENCED. -/
def State.startNames (s : State) (f : StartFields) (ids : List Nat) : Prop :=
  (f.option = 0 ∧ f.ids ≠ [] ∧ f.ids.length ≤ 512 ∧ (∀ c ∈ f.ids, 1 ≤ c.toNat ∧ c.toNat ≤ 512) ∧
      ids = keepFirst (f.ids.map BitVec.toNat)) ∨
    (f.option = 1 ∧ f.count = 0 ∧ ids = s.unreferenced)

variable {f : StartFields} {tag : U8}

theorem State.handleStartCapture_taken (hids : s.startNames f ids) (hidle : s.campaign.state = .idle)
    (hpermit : s.permit = true) (hfree : s.occupied < 32) :
    s.handleStartCapture tag f =
      (s.startCampaign ids).1.usePermit.answer tag 0x42 .accepted
        (.captureStarted ids.length (s.startCampaign ids).2
          ((s.startCampaign ids).1.campaign.entries.countP fun e => e.status.isFinished)) := by
  have hrefusal : s.startRefusal = none := by
    unfold State.startRefusal
    rw [if_neg (by simp [hidle]), if_neg (by simp [hpermit]), if_neg (by simp [s.hasFree_iff.mpr hfree])]
  obtain ⟨ho, hne, hlen, hrange, rfl⟩ | ⟨ho, hcount, rfl⟩ := hids
  · unfold State.handleStartCapture
    rw [choice_of_list ho hne hlen hrange]
    dsimp only
    rw [hrefusal]
  · unfold State.handleStartCapture
    rw [choice_of_option ho hcount]
    dsimp only
    rw [hrefusal]

/-- With no window open the campaign becomes RUNNING, the undefined slots are reached, and every lane is looked at. -/
theorem State.startCampaign_runs (hne : ids ≠ []) (hstack : s.stack = [])
    (hchanging : ∀ c ∈ ids,
      (s.circuit c).state = .empty ∨ (s.circuit c).state = .unreadable → (s.circuit c).changing = false) :
    ∃ ls, (∀ l, l ∈ ls) ∧
      s.startCampaign ids = ({ State.reaching (s.reserve .captureDone) ids ids with looks := ls }, .running) := by
  let t := s.reserve .captureDone
  have hfresh : { t with campaign := { freshCampaign ids with state := .running } } = t.reaching ids [] := by
    have hopen : ¬(t.reachedCampaign ids []).allFinished = true := fun h => by
      obtain ⟨c, hc⟩ := List.exists_mem_of_ne_nil ids hne
      simpa using (State.reachedCampaign_allFinished.mp h c hc).1
    refine Eq.trans ?_ (if_neg hopen).symm
    have hk : { freshCampaign ids with state := .running } = t.reachedCampaign ids [] := by
      simp [freshCampaign, State.reachedCampaign]
    rw [hk]
  have hfold : ((freshCampaign ids).entries.map (·.circuit)).foldl State.reachUndefined
      { t with campaign := { freshCampaign ids with state := .running } } = t.reaching ids ids := by
    have hnames : (freshCampaign ids).entries.map (·.circuit) = ids := by
      simp [freshCampaign, Function.comp_def]
    rw [hnames, hfresh, State.foldl_reachUndefined (s := t) (fun _ h => h) hchanging, List.nil_append]
  obtain ⟨ls, hls⟩ := (t.reaching ids ids).lookAtAll_eq
  refine ⟨ls, fun l => ?_, ?_⟩
  · have := (t.reaching ids ids).mem_lookAtAll l
    rwa [hls] at this
  · have hstart : (State.startRunning { t with campaign := freshCampaign ids }) =
        { t.reaching ids ids with looks := ls } := by
      refine Eq.trans ?_ hls
      exact congrArg State.lookAtAll hfold
    unfold State.startCampaign
    rw [← hstart]
    exact (if_neg hne).trans (if_pos hstack)

end

end Sys2Proof.Machine


/-! # START_CAPTURE: what it starts with -/

namespace Sys2Proof.Machine

/-! ## ALL_UNREFERENCED -/

section
variable {α : Type} [DecidableEq α] {d : α} {t : Table α}

theorem tableWf_keys (h : tableWf d t = true) : (t.map (·.1)).Pairwise (· < ·) := by
  induction t with
  | nil => exact .nil
  | cons e t ih =>
    obtain ⟨k, v⟩ := e
    obtain ⟨-, habove, ht⟩ := (tableWf_cons d k v t).mp h
    refine List.pairwise_cons.mpr ⟨fun x hx => ?_, ih ht⟩
    obtain ⟨y, hy, rfl⟩ := List.mem_map.mp hx
    exact habove y hy

/-- A canonical table reads an entry of its list as that entry's value. -/
theorem tableRead_of_mem (h : tableWf d t = true) {k : Nat} {v : α} (hm : (k, v) ∈ t) : tableRead d t k = v := by
  induction t with
  | nil => cases hm
  | cons e t ih =>
    obtain ⟨k', v'⟩ := e
    obtain ⟨-, habove, ht⟩ := (tableWf_cons d k' v' t).mp h
    obtain he | hm := List.mem_cons.mp hm
    · cases he
      simp [tableRead, tableGet]
    · have hne : k' ≠ k := (habove _ hm).ne
      simpa [tableRead, tableGet, hne] using ih ht hm

end

section
variable {s : State} {c : Nat}

/-- The circuits that ALL_UNREFERENCED takes. -/
theorem State.mem_unreferenced (h : tableWf {} s.circuits = true) :
    c ∈ s.unreferenced ↔
      (s.circuit c).defined = true ∧ (s.circuit c).state ≠ .capturing ∧ (s.circuit c).baseline = none := by
  unfold State.unreferenced
  rw [List.mem_map]
  constructor
  · rintro ⟨⟨k, r⟩, hm, rfl⟩
    obtain ⟨hm, hp⟩ := List.mem_filter.mp hm
    have hr : s.circuit k = r := tableRead_of_mem h hm
    simpa [hr, and_assoc] using hp
  · rintro ⟨hd, hs, hb⟩
    cases hg : tableGet s.circuits c with
    | none =>
      have hr : s.circuit c = {} := by
        unfold State.circuit tableRead
        rw [hg]
        rfl
      rw [hr] at hd
      cases hd
    | some r =>
      have hr : s.circuit c = r := by
        unfold State.circuit tableRead
        rw [hg]
        rfl
      rw [hr] at hd hs hb
      exact ⟨(c, r), List.mem_filter.mpr ⟨mem_of_tableGet hg, by simp [hd, hs, hb]⟩, rfl⟩

theorem State.unreferenced_rising (h : tableWf {} s.circuits = true) : s.unreferenced.Pairwise (· < ·) :=
  (tableWf_keys h).sublist (List.filter_sublist.map _)

theorem CircuitState.defined_cases (st : CircuitState) :
    (st != .empty && st != .unreadable) = true ∧ st ≠ .capturing ↔
      st = .idle ∨ st = .held ∨ st = .pending ∨ st = .probing := by
  cases st <;> simp

/-! ## How the request ends -/

variable {f : StartFields} {tag : U8} {ids : List Nat} {ls : List LaneId}

/-- The part whose campaign over a list runs, with its notice reserved and the permit used. -/
def State.started (s : State) (entries : List CaptureEntry) : State :=
  { s with
    campaign := { state := .running, entries := entries }
    reserved := { s.reserved with captureDone := s.reserved.captureDone + 1 }
    permit := false }

/-- A list with some circuit defined, handled with no window open. -/
theorem State.handleStartCapture_runs (hids : s.startNames f ids) (hidle : s.campaign.state = .idle)
    (hpermit : s.permit = true) (hfree : s.occupied < 32) (hstack : s.stack = [])
    (hgoes : ∃ c ∈ ids, (s.circuit c).state ≠ .empty ∧ (s.circuit c).state ≠ .unreadable)
    (hchanging : ∀ c ∈ ids,
      (s.circuit c).state = .empty ∨ (s.circuit c).state = .unreadable → (s.circuit c).changing = false) :
    ∃ ls, (∀ l, l ∈ ls) ∧
      s.handleStartCapture tag f =
        State.answer { s.started (ids.map fun c => ⟨c, s.reachedStatus c⟩) with looks := ls } tag 0x42 .accepted
          (.captureStarted ids.length .running (ids.countP fun c => (s.reachedStatus c).isFinished)) := by
  have hne : ids ≠ [] := by
    obtain ⟨c, hc, -⟩ := hgoes
    exact List.ne_nil_of_mem hc
  obtain ⟨ls, hall, hstart⟩ := State.startCampaign_runs hne hstack hchanging
  have hreached : State.reaching (s.reserve .captureDone) ids ids = { s.reserve .captureDone with campaign :=
      { state := .running, entries := ids.map fun c => ⟨c, s.reachedStatus c⟩ } } := State.reaching_goes hgoes
  refine ⟨ls, hall, ?_⟩
  have hcount : (ids.map fun c => (⟨c, s.reachedStatus c⟩ : CaptureEntry)).countP (fun e => e.status.isFinished) =
      ids.countP fun c => (s.reachedStatus c).isFinished := by
    rw [List.countP_map]
    rfl
  rw [State.handleStartCapture_taken hids hidle hpermit hfree, hstart, hreached, ← hcount]
  rfl

/-- A list with some circuit defined, on a part whose lanes are busy. -/
theorem State.startCapture_runs (h : s.ready = true) (hids : s.startNames f ids) (hidle : s.campaign.state = .idle)
    (hpermit : s.permit = true) (hfree : s.occupied < 32) (hstack : s.stack = []) (hbusy : s.lanesBusy = true)
    (hgoes : ∃ c ∈ ids, (s.circuit c).state ≠ .empty ∧ (s.circuit c).state ≠ .unreadable)
    (hchanging : ∀ c ∈ ids,
      (s.circuit c).state = .empty ∨ (s.circuit c).state = .unreadable → (s.circuit c).changing = false) :
    exec (.startCapture tag (.fields f)) s =
      .next ((s.started (ids.map fun c => ⟨c, s.reachedStatus c⟩)).replied tag 0x42 .accepted
        (.captureStarted ids.length .running (ids.countP fun c => (s.reachedStatus c).isFinished))) := by
  obtain ⟨ls, -, hh⟩ := State.handleStartCapture_runs (tag := tag) hids hidle hpermit hfree hstack hgoes hchanging
  have hlooks := State.looks_of_atRest (State.atRest_of_ready h)
  have hwork : State.NoWork { s.started (ids.map fun c => ⟨c, s.reachedStatus c⟩) with looks := ls } :=
    State.noWork_of_busy hbusy
  have hrun : exec (.startCapture tag (.fields f)) s = _ := State.arrive_forget h hh rfl rfl hwork
  rw [← hlooks] at hrun
  exact hrun

/-- A list of undefined slots alone. -/
theorem State.startCapture_ends (h : s.ready = true) (hids : s.startNames f ids) (hne : ids ≠ [])
    (hidle : s.campaign.state = .idle) (hpermit : s.permit = true) (hfree : s.occupied < 32) (hstack : s.stack = [])
    (hbusy : s.lanesBusy = true)
    (hundefined : ∀ c ∈ ids,
      ((s.circuit c).state = .empty ∨ (s.circuit c).state = .unreadable) ∧ (s.circuit c).changing = false) :
    exec (.startCapture tag (.fields f)) s =
      .next
        (State.replied
          { s with
            campaign :=
              { entries := ids.map fun c =>
                  ⟨c, .finished (if (s.circuit c).state = .empty then .notDefined else .unreadable)⟩ }
            notices := s.notices ++
              [.captureDone ids.length
                ({ entries := ids.map fun c =>
                    ⟨c, .finished (if (s.circuit c).state = .empty then .notDefined else
                        .unreadable)⟩ } : Campaign).resultCounts
                false s.clock]
            permit := false }
          tag 0x42 .accepted (.captureStarted ids.length .running ids.length)) := by
  obtain ⟨ls, -, hstart⟩ := State.startCampaign_runs hne hstack fun c hc _ => (hundefined c hc).2
  let entries : List CaptureEntry := ids.map fun c =>
    ⟨c, .finished (if (s.circuit c).state = .empty then .notDefined else .unreadable)⟩
  have hreached : State.reaching (s.reserve .captureDone) ids ids =
      State.endCampaign { s.reserve .captureDone with campaign := { state := .running, entries := entries } } :=
    State.reaching_ends fun c hc => (hundefined c hc).1
  have hcount : entries.countP (fun e => e.status.isFinished) = ids.length := by
    rw [List.countP_map]
    exact List.countP_eq_length.mpr fun _ _ => rfl
  have hlength : entries.length = ids.length := List.length_map _
  let t : State :=
    { s with
      campaign := { entries := entries }
      notices := s.notices ++ [.captureDone ids.length ({ entries := entries } : Campaign).resultCounts false s.clock]
      permit := false }
  have hended : { State.endCampaign
        { s.reserve .captureDone with campaign := { state := .running, entries := entries } } with
        looks := ls, permit := false } = { t with looks := ls } := by
    have ht : t = { t with notices := s.notices ++
        [.captureDone entries.length ({ entries := entries } : Campaign).resultCounts false s.clock] } := by
      rw [hlength]
    rw [ht]
    rfl
  have hh : s.handleRequest tag (.startCapture (.fields f)) =
      State.answer { t with looks := ls } tag 0x42 .accepted (.captureStarted ids.length .running ids.length) := by
    show s.handleStartCapture tag f = _
    rw [State.handleStartCapture_taken hids hidle hpermit hfree, hstart, hreached, ← hended]
    dsimp only
    rw [show State.campaign (State.endCampaign
      { s.reserve .captureDone with campaign := { state := .running, entries := entries } }) = { entries := entries }
      from rfl, hcount]
    rfl
  have hwork : State.NoWork { t with looks := ls } := State.noWork_of_busy hbusy
  have hlooks := State.looks_of_atRest (State.atRest_of_ready h)
  have hrun : exec (.startCapture tag (.fields f)) s = _ := State.arrive_forget h hh rfl rfl hwork
  rw [← hlooks] at hrun
  exact hrun

end

end Sys2Proof.Machine


/-! # START_CAPTURE on a part with one lane free -/

namespace Sys2Proof.Machine

section
variable {s t : State} {c : Nat} {l : LaneId}

theorem Lane.capturing_not_ready (r : Lane) (p : Profile) (c channel : Nat) : (r.capturing p c channel).ready = false := rfl

/-- The arbiter's look at lanes of which one, PARKED and FRESH, reaches an entry: that circuit is measured there. -/
theorem State.arbitrate_captures {before after : List Nat} {d : Definition} (hl : l ∈ s.looks)
    (hothers : ∀ j, j ≠ l → (s.lane j).ready = false) (hq : ∀ e ∈ s.queue, s.laneOf e.circuit ≠ some l)
    (hpending : s.pendingProfile = none) (hparked : (s.lane l).state = .parked) (hfresh : (s.lane l).fresh = true)
    (hdue : (s.lane l).due s.profile = false) (hrunning : s.campaign.state = .running)
    (hcommits : s.campaign.pendingCommits < Config.grantPendingLimit)
    (hentries : s.campaign.entries.map (·.circuit) = before ++ c :: after)
    (hbefore : ∀ x ∈ before, s.reachable l x = false) (hc : s.reachable l c = true)
    (hd : (s.circuit c).definition = some d) (hregion : s.insideRegion c = false) :
    s.arbitrate = { s.grantCapture l c d.channel with looks := [] } := by
  have hqueue : s.offerQueue = s := State.offerQueue_unserved fun e he j _ hj =>
    State.served_of_not_ready (hothers j fun h => hq e he (h ▸ hj))
  have hlane : (s.grantCapture l c d.channel).lane l = (s.lane l).capturing s.profile c d.channel := by
    rw [State.grantCapture_parked hparked]
    exact State.lane_setLane_self (s.setCircuit c { s.circuit c with state := .capturing }) l _
  have hkept : ∀ j, j ≠ l → (s.grantCapture l c d.channel).lane j = s.lane j := fun j hj => by
    rw [State.grantCapture_parked hparked]
    exact State.lane_setLane_other (s.setCircuit c { s.circuit c with state := .capturing }) hj _
  have hready : ∀ j, ((s.grantCapture l c d.channel).lane j).ready = false := fun j => by
    by_cases hj : j = l
    · rw [hj, hlane]
      exact Lane.capturing_not_ready ..
    · rw [hkept j hj]
      exact hothers j hj
  have hask : State.askCapture l (s.campaign.entries.map (·.circuit)) s = (s, some c) := by
    rw [hentries, State.askCapture_passed hrunning hbefore]
    exact State.askCapture_offers hrunning hc hregion (by rw [hparked]; nofun) hfresh hcommits
  have hoffer : s.offerCapture l = s.grantCapture l c d.channel :=
    State.offerCapture_granted (State.served_settled hpending (.inr ⟨hparked, hdue⟩)) (State.hasEntry_eq_false hq) hask hd
      (by simp [Lane.takes, hparked])
  have hcaptures := State.offerCaptures_only hl hoffer (fun j hj => State.served_of_not_ready (hothers j hj))
    fun j _ => State.served_of_not_ready (hready j)
  rw [State.arbitrate, hqueue, hcaptures]
  exact congrArg (fun u : State => { u with looks := [] })
    (State.parkIfIdle_none _ _ fun j => Lane.tunedAtEnd_of_not_ready (hready j))

/-- The entries of a campaign that starts, by circuit. -/
theorem State.started_entry {ids : List Nat} {x : Nat} (hx : x ∈ ids) {es : List CaptureEntry}
    (hes : es = ids.map fun c => ⟨c, .unprocessed⟩) (hk : t.campaign.entries = es) (hrunning : t.campaign.state = .running) :
    t.namedUnprocessed x = true := by
  have hentry : t.campaign.entryFor x = some ⟨x, .unprocessed⟩ := by
    unfold Campaign.entryFor
    rw [hk, hes, List.find?_map]
    have hp : ((fun e : CaptureEntry => e.circuit == x) ∘ fun c => ⟨c, .unprocessed⟩) = fun y => y == x := rfl
    rw [hp]
    obtain ⟨y, hy⟩ := Option.isSome_iff_exists.mp
      (List.find?_isSome (p := fun y => y == x).mpr ⟨x, hx, beq_self_eq_true x⟩)
    rw [hy, beq_iff_eq.mp (List.find?_some (p := fun y => y == x) hy)]
    rfl
  unfold State.namedUnprocessed State.entryIs
  rw [hentry, hrunning]
  rfl

theorem measuring_started (ids : List Nat) :
    ((ids.map fun x => (⟨x, .unprocessed⟩ : CaptureEntry)).map fun e =>
        if e.circuit = c then { e with status := .measuring l } else e) =
      ids.map fun x => ⟨x, if x = c then .measuring l else .unprocessed⟩ := by
  refine List.map_map.trans (List.map_congr_left fun x _ => ?_)
  by_cases hx : x = c
  · simp [hx]
  · simp [hx]

variable {f : StartFields} {tag : U8}

/-- A list of defined circuits, with one lane free for the first of them that it reaches. -/
theorem State.startCapture_granted {ids before after : List Nat} {d : Definition} (h : s.ready = true)
    (hids : s.startNames f ids) (hidle : s.campaign.state = .idle) (hpermit : s.permit = true) (hfree : s.occupied < 32)
    (hstack : s.stack = []) (hdefined : ∀ c ∈ ids, (s.circuit c).state ≠ .empty ∧ (s.circuit c).state ≠ .unreadable)
    (hothers : ∀ j : LaneId, j ≠ l → (s.lane j).ready = false) (hq : ∀ e ∈ s.queue, s.laneOf e.circuit ≠ some l)
    (hpending : s.pendingProfile = none) (hparked : (s.lane l).state = .parked) (hfresh : (s.lane l).fresh = true)
    (hdue : (s.lane l).due s.profile = false) (hsplit : ids = before ++ c :: after)
    (hbefore : ∀ x ∈ before, s.laneOf x ≠ some l ∨ (s.circuit x).state ≠ .idle ∨ (s.circuit x).changing = true)
    (hd : (s.circuit c).definition = some d) (hlane : d.lane = l) (hstate : (s.circuit c).state = .idle)
    (hchanging : (s.circuit c).changing = false) (hregion : s.insideRegion c = false) :
    exec (.startCapture tag (.fields f)) s =
      .next
        (State.replied
          { (s.setCircuit c { s.circuit c with state := .capturing }).setLane l
              ((s.lane l).capturing s.profile c d.channel) with
            campaign :=
              { state := .running, entries := ids.map fun x => ⟨x, if x = c then .measuring l else .unprocessed⟩ }
            reserved := { s.reserved with captureDone := s.reserved.captureDone + 1 }
            permit := false }
          tag 0x42 .accepted (.captureStarted ids.length .running 0)) := by
  have hmem : c ∈ ids := by simp [hsplit]
  have hstatus : ∀ x ∈ ids, s.reachedStatus x = .unprocessed := fun x hx => State.reachedStatus_defined (hdefined x hx)
  have hentries : (ids.map fun x => (⟨x, s.reachedStatus x⟩ : CaptureEntry)) = ids.map fun x => ⟨x, .unprocessed⟩ :=
    List.map_congr_left fun x hx => by rw [hstatus x hx]
  have hcount : (ids.countP fun x => (s.reachedStatus x).isFinished) = 0 := List.countP_eq_zero.mpr fun x hx => by
    rw [hstatus x hx]
    nofun
  obtain ⟨ls, hall, hh⟩ := State.handleStartCapture_runs (tag := tag) hids hidle hpermit hfree hstack
    ⟨c, hmem, hdefined c hmem⟩ fun x hx hu => absurd hu (not_or.mpr (hdefined x hx))
  rw [hentries, hcount] at hh
  let u : State := { s.started (ids.map fun x => ⟨x, .unprocessed⟩) with looks := ls }
  let body : ReplyBody := .captureStarted ids.length .running 0
  let v : State := { u with replies := s.replies ++ [⟨tag, 0x42, .accepted, body, []⟩], processor := .free }
  have hans : u.answer tag 0x42 .accepted body = v := u.answer_room _ _ _ _ (s.ready_iff.mp h).2.2
  have hnamed : ∀ x ∈ ids, v.namedUnprocessed x = true := fun x hx => State.started_entry (t := v) hx rfl rfl rfl
  have hreach : v.reachable l c = true := by
    unfold State.reachable
    rw [hnamed c hmem]
    have hlaneOf : v.laneOf c = some l := hlane ▸ State.laneOf_of_definition hd
    rw [hlaneOf, show v.circuit c = s.circuit c from rfl, hstate, hchanging]
    simp
  have hpassed : ∀ x ∈ before, v.reachable l x = false := fun x hx => by
    have hno : (s.laneOf x == some l && (s.circuit x).state == .idle && !(s.circuit x).changing) = false := by
      obtain hx | hx | hx := hbefore x hx
      · simp [hx]
      · simp [hx]
      · simp [hx]
    have hx' : v.reachable l x = (v.namedUnprocessed x && s.laneOf x == some l && (s.circuit x).state == .idle &&
      !(s.circuit x).changing) := rfl
    rw [hx', Bool.and_assoc, Bool.and_assoc, ← Bool.and_assoc (s.laneOf x == some l), hno, Bool.and_false]
  have hcommits : v.campaign.pendingCommits < Config.grantPendingLimit := by
    have hnone : v.campaign.pendingCommits = 0 := by
      refine List.countP_eq_zero.mpr fun e he => ?_
      obtain ⟨x, -, rfl⟩ := List.mem_map.mp he
      nofun
    rw [hnone]
    decide
  have hsplit' : v.campaign.entries.map (·.circuit) = before ++ c :: after := by
    rw [← hsplit]
    exact List.map_map.trans (List.map_id ids)
  have harb := State.arbitrate_captures (s := v) (hall l) hothers hq hpending hparked hfresh hdue rfl hcommits hsplit' hpassed
    hreach hd hregion
  have hkept : v.campaign.entries = ids.map fun x => (⟨x, .unprocessed⟩ : CaptureEntry) := rfl
  rw [State.grantCapture_parked (t := v) hparked, hkept, measuring_started] at harb
  let x : State :=
    { (s.setCircuit c { s.circuit c with state := .capturing }).setLane l ((s.lane l).capturing s.profile c d.channel) with
      campaign :=
        { state := .running, entries := ids.map fun x => ⟨x, if x = c then .measuring l else .unprocessed⟩ }
      reserved := { s.reserved with captureDone := s.reserved.captureDone + 1 }
      permit := false }
  have hx : x.answer tag 0x42 .accepted body = v.arbitrate := by
    rw [harb, x.answer_room _ _ _ _ (s.ready_iff.mp h).2.2]
    have hlooks := State.looks_of_atRest (State.atRest_of_ready h)
    rw [← hlooks]
    rfl
  have hh' : s.handleRequest tag (.startCapture (.fields f)) = u.answer tag 0x42 .accepted body := hh
  show s.arrive tag _ = _
  rw [s.arrive_ready h, hh', hans, ← hx]
  exact congrArg Host.Outcome.next (State.transmit_answer (t := x) h rfl rfl)

end

end Sys2Proof.Machine

namespace Sys2Proof.Proofs

open Sys2Proof.Machine

/-- Settles O22: what the campaign starts with, by the open windows, the slots it names and the lanes. -/
theorem startCaptureTaken : Obligations.StartCaptureTaken := by
  refine ⟨?_, ?_, ?_, ?_, ?_, ?_, ?_⟩
  · intro s tag f ids h hids hne hidle hpermit hfree hstack
    have hstart : s.startCampaign ids =
        ({ s.reserve .captureDone with campaign :=
            { entries := ids.map fun c => ⟨c, .unprocessed⟩, state := .suspended, window := true } }, .suspended) :=
      (if_neg hne).trans (if_neg hstack)
    have hcount : (ids.map fun c => (⟨c, .unprocessed⟩ : CaptureEntry)).countP (fun e => e.status.isFinished) = 0 := by
      refine List.countP_eq_zero.mpr fun e he => ?_
      obtain ⟨c, -, rfl⟩ := List.mem_map.mp he
      nofun
    have hh : s.handleRequest tag (.startCapture (.fields f)) = _ :=
      State.handleStartCapture_taken (tag := tag) hids hidle hpermit hfree
    rw [hstart, show State.campaign _ = _ from rfl, hcount] at hh
    exact State.arrive_changed h hh rfl rfl rfl rfl
  · intro s tag f ids h hids hne hidle hpermit hfree hstack hbusy hdefined
    obtain ⟨c, hc⟩ := List.exists_mem_of_ne_nil ids hne
    have hstatus : ∀ x ∈ ids, s.reachedStatus x = .unprocessed := fun x hx => State.reachedStatus_defined (hdefined x hx)
    have hrun := State.startCapture_runs (tag := tag) h hids hidle hpermit hfree hstack hbusy ⟨c, hc, hdefined c hc⟩
      fun x hx hu => absurd hu (not_or.mpr (hdefined x hx))
    have hcount : (ids.countP fun x => (s.reachedStatus x).isFinished) = 0 := List.countP_eq_zero.mpr fun x hx => by
      rw [hstatus x hx]
      nofun
    rw [hcount, List.map_congr_left fun x hx => congrArg (CaptureEntry.mk x) (hstatus x hx)] at hrun
    exact hrun
  · intro s tag f ids h hids hidle hpermit hfree hstack hbusy hgoes hchanging
    have hrun := State.startCapture_runs (tag := tag) h hids hidle hpermit hfree hstack hbusy hgoes
      fun x hx _ => hchanging x hx
    have hcount : (ids.countP fun x => (s.reachedStatus x).isFinished) =
        ids.countP fun c => (s.circuit c).state == .empty || (s.circuit c).state == .unreadable := by
      refine congrArg (fun p => List.countP p ids) (funext fun x => ?_)
      unfold State.reachedStatus
      cases (s.circuit x).state <;> rfl
    rw [hcount] at hrun
    exact hrun
  · exact fun s tag f ids h hids hne hidle hpermit hfree hstack hbusy hundefined =>
      State.startCapture_ends h hids hne hidle hpermit hfree hstack hbusy hundefined
  · intro s tag f ids before after c d l h hids hidle hpermit hfree hstack hdefined hothers hq hpending hparked hfresh hage
      hsplit hbefore hd hlane hstate hchanging hregion
    exact State.startCapture_granted h hids hidle hpermit hfree hstack hdefined hothers hq hpending hparked hfresh
      (by simp [Lane.due, hage.1, hage.2]) hsplit hbefore hd hlane hstate hchanging hregion
  · intro s tag f h hoption hnone hidle hpermit hfree
    have hh : s.handleRequest tag (.startCapture (.fields f)) = _ :=
      State.handleStartCapture_taken (tag := tag) (ids := s.unreferenced) (.inr ⟨hoption.1, hoption.2, rfl⟩) hidle hpermit
        hfree
    have hstart : s.startCampaign s.unreferenced =
        (State.endCampaign { s.reserve .captureDone with campaign := {} }, .idle) := by
      rw [hnone]
      rfl
    rw [hstart, hnone] at hh
    exact State.arrive_changed h hh rfl rfl rfl rfl
  · intro s hcanonical
    have htable : tableWf {} s.circuits = true := by
      simp only [State.tablesCanonical, Bool.and_eq_true] at hcanonical
      obtain ⟨⟨⟨⟨hcircuits, -⟩, -⟩, -⟩, -⟩ := hcanonical
      exact hcircuits
    refine ⟨State.unreferenced_rising htable, fun c => ?_⟩
    rw [State.mem_unreferenced htable, ← CircuitState.defined_cases, and_assoc]
    rfl

end Sys2Proof.Proofs


/-! # The start-up scan -/

namespace Sys2Proof.Machine

section
variable {s t : State}

/-! ## What the scan makes of the store -/

/-- The scan changes the working copies alone, and takes the region and the level from the protection slot (R149). -/
theorem State.scanStore_copies (s : State) :
    s.scanStore =
      { s with
        circuits := s.scanStore.circuits
        codeMap := s.scanStore.codeMap
        spanIndex := s.scanStore.spanIndex
        region := ((s.protSlot.valid ProtectionRecord.inRange).map (·.region)).getD {}
        storedLevel := ((s.protSlot.valid ProtectionRecord.inRange).map (·.level)).getD .openLevel } := by
  have hslot : ∀ (ids : List Nat) (u : State) (c : Nat),
      ({ u.scanSlot ids c with circuits := [], codeMap := [], spanIndex := [] } : State) =
        { u with circuits := [], codeMap := [], spanIndex := [] } := fun ids u c => by
    obtain ⟨_, _, _, e⟩ := u.scanSlot_eq ids c
    rw [e]
  have hfold := foldl_frame (f := fun u c => u.scanSlot (s.defSlots.map (·.1)) c)
    (g := fun u : State => ({ u with circuits := [], codeMap := [], spanIndex := [] } : State)) (hslot (s.defSlots.map (·.1)))
    (s.defSlots.map (·.1)) { s.scanProtection with circuits := [], codeMap := [], spanIndex := [] }
  have hprotection : s.scanProtection =
      { s with
        region := ((s.protSlot.valid ProtectionRecord.inRange).map (·.region)).getD {}
        storedLevel := ((s.protSlot.valid ProtectionRecord.inRange).map (·.level)).getD .openLevel } := by
    unfold State.scanProtection
    cases s.protSlot.valid ProtectionRecord.inRange <;> rfl
  rw [hprotection] at hfold
  refine Eq.trans ?_ (congrArg (fun u : State =>
    { u with
      circuits := s.scanStore.circuits, codeMap := s.scanStore.codeMap, spanIndex := s.scanStore.spanIndex }) hfold)
  unfold State.scanStore
  rw [hprotection]

theorem State.scanStore_circuits_wf (s : State) : tableWf {} s.scanStore.circuits = true := by
  have hslot : ∀ (ids : List Nat) (u : State) (c : Nat), tableWf {} u.circuits = true →
      tableWf {} (u.scanSlot ids c).circuits = true := fun ids u c hu => by
    have hset : (u.scanSlot ids c).circuits = (u.setCircuit c (u.scannedCircuit ids c)).circuits := by
      unfold State.scanSlot
      dsimp only
      split <;> rfl
    rw [hset]
    exact tableWrite_wf _ c _ hu
  have hfold : ∀ (ids cs : List Nat) (u : State), tableWf {} u.circuits = true →
      tableWf {} (cs.foldl (fun s c => s.scanSlot ids c) u).circuits = true := by
    intro ids cs
    induction cs with
    | nil => exact fun _ hu => hu
    | cons c cs ih => exact fun u hu => ih (u.scanSlot ids c) (hslot ids u c hu)
  exact hfold _ _ _ rfl

/-- A slot that the store does not list is erased. -/
theorem tableRead_of_not_listed {α : Type} {d : α} {t : Table α} {k : Nat} (h : k ∉ t.map (·.1)) : tableRead d t k = d := by
  unfold tableRead
  cases hg : tableGet t k with
  | none => rfl
  | some v => exact absurd (List.mem_map.mpr ⟨_, mem_of_tableGet hg, rfl⟩) h

/-- A code that some lower-numbered slot holds, as the listed slots say and as all slots say. -/
theorem State.codeTakenBelow_listed (s : State) (c code : Nat) :
    s.codeTakenBelow c code (s.defSlots.map (·.1)) =
      (List.range c).any fun c' => (s.scannedDefinition c').map (·.code) == some code := by
  have hcode : ∀ c', (s.scannedDefinition c').any (fun d => d.code == code) =
      ((s.scannedDefinition c').map (·.code) == some code) := fun c' => by
    cases s.scannedDefinition c' <;> simp
  unfold State.codeTakenBelow
  rw [Bool.eq_iff_iff, List.any_eq_true, List.any_eq_true]
  simp only [hcode, Bool.and_eq_true, decide_eq_true_eq, List.mem_range]
  constructor
  · rintro ⟨c', -, hlt, hd⟩
    exact ⟨c', hlt, hd⟩
  · rintro ⟨c', hlt, hd⟩
    refine ⟨c', ?_, hlt, hd⟩
    by_contra hn
    have hnone : s.scannedDefinition c' = none := by
      unfold State.scannedDefinition
      rw [tableRead_of_not_listed hn]
      rfl
    rw [hnone] at hd
    cases hd

/-- Every slot's record after the scan (R171, R172). -/
theorem State.scanStore_circuit (s : State) (c : Nat) :
    s.scanStore.circuit c =
      match s.scannedDefinition c with
      | none => if (tableRead .erased s.defSlots c).bad Definition.inRange then { state := .unreadable } else {}
      | some d =>
        if (List.range c).any fun c' => (s.scannedDefinition c').map (·.code) == some d.code then { state := .unreadable }
        else { state := .idle, definition := some d, baseline := s.scannedBaseline c d } := by
  rw [(scanned_scanStore s).circuit c]
  by_cases hc : c ∈ s.defSlots.map (·.1)
  · rw [if_pos hc]
    unfold State.scannedCircuit
    cases s.scannedDefinition c with
    | none => rfl
    | some d =>
      dsimp only
      rw [s.codeTakenBelow_listed c d.code]
  · rw [if_neg hc]
    have hnone : s.scannedDefinition c = none := by
      unfold State.scannedDefinition
      rw [tableRead_of_not_listed hc]
      rfl
    rw [hnone, tableRead_of_not_listed hc]
    rfl

theorem State.scanStore_state (s : State) (c : Nat) :
    (s.scanStore.circuit c).state = .empty ∨ (s.scanStore.circuit c).state = .unreadable ∨
      (s.scanStore.circuit c).state = .idle := by
  rw [s.scanStore_circuit c]
  cases s.scannedDefinition c with
  | none =>
    dsimp only
    split
    · exact .inr (.inl rfl)
    · exact .inl rfl
  | some d =>
    dsimp only
    split
    · exact .inr (.inl rfl)
    · exact .inr (.inr rfl)

/-- The defined circuits that RESTARTED counts are the IDLE ones. -/
theorem State.scanStore_defined (s : State) :
    (s.scanStore.circuits.countP fun e => e.2.defined) = s.scanStore.circuits.countP fun e => e.2.state == .idle := by
  refine List.countP_congr fun e he => ?_
  have hr : s.scanStore.circuit e.1 = e.2 := tableRead_of_mem s.scanStore_circuits_wf he
  obtain h | h | h := hr ▸ s.scanStore_state e.1 <;> simp [Circuit.defined, h]

/-! ## RESTARTED and the start of the runs -/

/-- A part in its start-up scan, with nothing received or open, has no due step. -/
theorem State.takeDue_scanning (h : s.phase = .scanning) (hframe : s.completeFrame = none) (hstack : s.stack = []) :
    s.takeDue = s :=
  State.takeDue_same (by simp [State.alive, h]) (by simp [State.restartDue, h]) hframe (by simp [State.expiryDue, hstack])
    fun l => by simp [State.calibrationIsDue, h]

/-- RESTARTED goes out first, with the discarded mark. -/
theorem State.announce_eq (h : s.phase = .scanning) (hidle : s.transmitter = .idle) (hreplies : s.replies = [])
    (hnotices : s.notices = []) (hsent : s.restartReplySent = false) (hfree : s.occupied < 32) :
    s.announce = { s.scanStore with transmitter := .notice s.scanStore.restartedNotice s.discarded, discarded := false } := by
  obtain ⟨cs, cm, si, r, lv, e⟩ := s.scanStore_eq
  unfold State.announce
  dsimp only
  generalize s.scanStore.restartedNotice = n
  rw [e]
  let u : State := { s with circuits := cs, codeMap := cm, spanIndex := si, region := r, storedLevel := lv }
  have hqueue : u.queueUnreserved n = { u with notices := [n] } := by
    refine (if_pos (decide_eq_true hfree)).trans ?_
    show { u with notices := s.notices ++ [n] } = _
    rw [hnotices]
    rfl
  show (u.queueUnreserved n).transmit = { u with transmitter := .notice n s.discarded, discarded := false }
  rw [hqueue]
  have hsend : u.transmitter = .idle ∧ u.alive = true ∧ u.restartReplySent = false :=
    ⟨hidle, by simp [State.alive, u, h], hsent⟩
  have hr : u.replies = [] := hreplies
  unfold State.transmit
  refine (if_pos hsend).trans ?_
  dsimp only
  rw [hr, ← show u.notices = [] from hnotices]

/-- A notice that is being sent is sent on, until the end of its frame. -/
theorem Moves.keeps_notice {q : Bool} {n : Notice} {mark : Bool} (h : Moves false q s t)
    (hs : s.transmitter = .notice n mark) : t.transmitter = .notice n mark := by
  refine h.keeps (P := fun u => u.transmitter = .notice n mark) (fun {u v} m hu => ?_) hs
  cases m with
  | other e => exact (congrArg Tracked.transmitter e).trans hu
  | queueUnreserved x =>
    obtain ⟨-, e⟩ | ⟨-, e⟩ := u.queueUnreserved_cases x
    · rw [e]; exact hu
    · rw [e]; exact hu
  | queueReserved k x =>
    unfold State.queueReserved
    split
    · obtain ⟨-, e⟩ | ⟨-, e⟩ := u.queueUnreserved_cases x
      · rw [e]; exact hu
      · rw [e]; exact hu
    · exact hu
  | beginNotice _ _ _ hi _ =>
    rw [hi] at hu
    cases hu
  | transmitter x hb _ =>
    rw [hu] at hb
    obtain hb | hb := hb <;> cases hb
  | slot x => cases x <;> exact hu
  | definition _ _ _ hk _ => cases hk
  | emptySlot _ hk => cases hk
  | _ => exact hu

theorem started_lanes (p : Profile) :
    (Vector.replicate 8 ({} : Lane)).map (Lane.startedIfDue p) = Vector.replicate 8 ({} : Lane).startRun := by
  rw [Vector.map_replicate]
  congr 1
  exact if_pos ⟨rfl, by simp⟩

/-- From a store without anything else in hand the part comes up with RESTARTED on its way and eight runs begun. -/
theorem State.endScan_reset {defs : Table (Slot Definition)} {bases : Table (Slot Baseline)}
    {prot : Slot ProtectionRecord} {cause : RestartCause} {overlay : Bool}
    (hs : s = { State.reset with
      defSlots := defs, baseSlots := bases, protSlot := prot, restartCause := cause, overlay := overlay }) :
    s.endScan =
      { s.scanStore with
        phase := .running, lanes := Vector.replicate 8 ({} : Lane).startRun
        transmitter := .notice s.scanStore.restartedNotice false } := by
  have hannounce := State.announce_eq (s := s) (by rw [hs]; rfl) (by rw [hs]; rfl) (by rw [hs]; rfl) (by rw [hs]; rfl)
    (by rw [hs]; rfl) (by rw [hs]; exact Nat.zero_lt_succ 31)
  obtain ⟨cs, cm, si, r, lv, e⟩ := s.scanStore_eq
  unfold State.endScan
  rw [hannounce]
  generalize s.scanStore.restartedNotice = n
  rw [e, State.startRuns_eq (by rw [hs]; rfl)]
  let u (b : Bool) : State :=
    { s with
      circuits := cs, codeMap := cm, spanIndex := si, region := r, storedLevel := lv, phase := .running
      lanes := Vector.replicate 8 ({} : Lane).startRun, transmitter := .notice n false, discarded := b }
  have hlanes : s.lanes.map (Lane.startedIfDue s.profile) = Vector.replicate 8 ({} : Lane).startRun := by
    have hl : s.lanes = Vector.replicate 8 {} := by rw [hs]; rfl
    rw [hl]
    exact started_lanes _
  have hdiscarded : s.discarded = false := by rw [hs]; rfl
  have hu : ({ s with
      circuits := cs, codeMap := cm, spanIndex := si, region := r, storedLevel := lv, phase := .running
      lanes := s.lanes.map (Lane.startedIfDue s.profile), transmitter := .notice n s.discarded, discarded := false } : State) =
      u false :=
    congrArg₂ (fun (v : Vector Lane 8) (b : Bool) => ({ u false with lanes := v, transmitter := .notice n b } : State)) hlanes
      hdiscarded
  refine (congrArg State.settle hu).trans ?_
  have hrest : (u false).atRest = true := by
    refine (u false).atRest_iff.mpr ⟨show s.looks = [] by rw [hs]; rfl, fun l => ?_⟩
    have hl : (u false).lane l = ({} : Lane).startRun := Vector.getElem_replicate ..
    rw [hl]
    rfl
  refine (State.settle_quiet hrest (show s.requestQueue = [] by rw [hs]; rfl) (.inl nofun)).trans ?_
  exact congrArg u hdiscarded.symm

end

end Sys2Proof.Machine

namespace Sys2Proof.Proofs

open Sys2Proof.Machine

/-- Settles O29: the working copies slot by slot, and RESTARTED before all else. -/
theorem scanLoadsTheStore : Obligations.ScanLoadsTheStore := by
  refine ⟨?_, ?_⟩
  · intro defs bases prot cause overlay s definition found hdefs
    have hdue : s.takeDue = s := State.takeDue_scanning rfl rfl rfl
    have hend := State.endScan_reset (s := s) rfl
    have hindexes := indexesFor_definitions.mp (indexesFor_scanStore s)
    have hcopies := s.scanStore_copies
    obtain ⟨hcodes, hspans, hascending⟩ := hindexes
    have hcircuits : s.endScan.circuits = s.scanStore.circuits := by rw [hend]
    have hmap : s.endScan.codeMap = s.scanStore.codeMap := by rw [hend]
    have hindex : s.endScan.spanIndex = s.scanStore.spanIndex := by rw [hend]
    have hcircuit : ∀ c, s.endScan.circuit c = s.scanStore.circuit c := fun c =>
      congrArg (fun t => tableRead ({} : Circuit) t c) hcircuits
    have howner : ∀ code, s.endScan.codeOwner code = s.scanStore.codeOwner code := fun code =>
      congrArg (fun t => tableGet t code) hmap
    have hcrossing : ∀ p, s.endScan.crossing p = s.scanStore.crossing p := fun p =>
      congrArg (fun t => tableRead ([] : List Nat) t p) hindex
    have hnotice : s.scanStore.restartedNotice =
        .restarted cause (s.endScan.circuits.countP fun e => e.2.state == .idle)
          (s.endScan.circuits.countP fun e => e.2.state == .unreadable)
          (s.endScan.circuits.countP fun e => e.2.baseline.isSome) found.isNone overlay := by
      have hkept : s.scanStore.restartCause = cause ∧ s.scanStore.protSlot = prot ∧ s.scanStore.overlay = overlay := by
        obtain ⟨_, _, _, _, _, e⟩ := s.scanStore_eq
        rw [e]
        exact ⟨rfl, rfl, rfl⟩
      obtain ⟨hcause, hprot, hoverlay⟩ := hkept
      unfold State.restartedNotice
      rw [s.scanStore_defined, hcause, hprot, hoverlay, hcircuits]
    refine ⟨s.endScan, ?_, ?_, fun c => ?_, fun code c => ?_, fun p c => ?_, fun p => ?_⟩
    · show Host.Outcome.next (if s.phase = .scanning then s.takeDue.endScan else s) = _
      rw [hdue, if_pos (show s.phase = .scanning from rfl)]
    · refine hend.trans ((congrArg (fun u : State =>
        { u with
          phase := .running, lanes := Vector.replicate 8 ({} : Lane).startRun
          transmitter := .notice s.scanStore.restartedNotice false }) hcopies).trans ?_)
      rw [hnotice, hcircuits, hmap, hindex]
    · exact (hcircuit c).trans (s.scanStore_circuit c)
    · rw [howner, hcircuit]
      exact hcodes code c
    · rw [hcrossing, hcircuit]
      exact hspans p c
    · rw [hcrossing]
      exact crossing_ascending hascending p
  · intro s hphase hidle hempty hsent hframe hstack hfree
    have hdue : s.takeDue = s := State.takeDue_scanning hphase hframe hstack
    have hann := State.announce_eq hphase hidle hempty.1 hempty.2 hsent hfree
    have hmoves : Moves false true { s.announce with phase := .running } s.endScan := (Moves.nil.startRuns _).settle
    refine ⟨s.endScan, ?_, hmoves.phase_eq, hmoves.keeps_notice ?_⟩
    · show Host.Outcome.next (if s.phase = .scanning then s.takeDue.endScan else s) = _
      rw [hdue, if_pos hphase]
    · rw [hann]

end Sys2Proof.Proofs


/-! # The agreement of the records, circuit by circuit

`State.Agreed` speaks of one record in terms of the others. Here it is told apart into what concerns one circuit, what
concerns one lane, and the rest, so that an operation on one circuit has to be looked at for that circuit alone. -/

namespace Sys2Proof.Machine

/-! ## What the blocks see of each other -/

/-- The spans of a circuit record. -/
def Circuit.spans (r : Circuit) : List Nat := (r.definition.map (·.spans)).getD []

/-- The lane of a circuit record. -/
def Circuit.lane (r : Circuit) : Option LaneId := r.definition.map (·.lane)

/-- What the other blocks see of a lane. -/
structure LaneShare where
  grant : Option Nat
  capture : Option Nat
  work : Work
  working : Bool

def Lane.share (r : Lane) : LaneShare :=
  ⟨r.grant.map (·.entry.circuit), r.capture.map (·.circuit), r.work, r.working⟩

/-- The slot of the request that waits for its commits (R12). -/
def Processor.slot : Processor → Option Nat
  | .committing _ (.define id _ _ _ _) | .committing _ (.delete id _ _) | .committing _ (.clearBaseline id) => some id
  | .committing _ (.protect _ _) | .free | .replying _ => none

/-- The part of the state that the agreement speaks of. -/
structure Visible where
  running : Bool
  slot : Option Nat
  circuits : Nat → Circuit
  windows : List (Nat × List Nat)
  records : List Nat
  queued : List Nat
  lanes : LaneId → LaneShare
  entries : List CaptureEntry
  handOff : List Nat
  commits : List Commit
  idle : Bool
  verdicts : Nat
  summaries : Nat
  captureDone : Nat
  profileApplied : Nat
  pending : Bool

def State.visible (s : State) : Visible where
  running := s.phase == .running
  slot := s.processor.slot
  circuits := s.circuit
  windows := s.stack.map fun w => (w.id, w.spans)
  records := s.closures.map (·.windowId)
  queued := s.queue.map (·.circuit)
  lanes := fun l => (s.lane l).share
  entries := s.campaign.entries
  handOff := s.campaign.handOff.map (·.circuit)
  commits := s.commits
  idle := s.campaign.state == .idle
  verdicts := s.reserved.verdict
  summaries := s.reserved.summary
  captureDone := s.reserved.captureDone
  profileApplied := s.reserved.profileApplied
  pending := s.pendingProfile.isSome

/-- What the blocks keep about one circuit. -/
structure CircuitView where
  running : Bool
  record : Circuit
  crossed : Nat
  queued : Nat
  granted : LaneId → Bool
  measured : LaneId → Bool
  status : Option EntryStatus
  commits : Nat
  waiting : Bool

/-- The circuits whose baselines are being committed for the capture controller. -/
def committers (cs : List Commit) : List Nat :=
  cs.filterMap fun c => match c.submitter with | .capture circuit => some circuit | .processor => none

namespace Visible

/-- The open windows that cross a list of spans. -/
def windowsOver (k : Visible) (spans : List Nat) : Nat := k.windows.countP fun w => spans.any w.2.contains

/-- The circuits whose baselines wait or are being committed for the capture controller. -/
def committing (k : Visible) : List Nat := k.handOff ++ committers k.commits

def view (k : Visible) (c : Nat) : CircuitView where
  running := k.running
  record := k.circuits c
  crossed := k.windowsOver (k.circuits c).spans
  queued := k.queued.count c
  granted := fun l => (k.lanes l).grant == some c
  measured := fun l => (k.lanes l).capture == some c
  status := (k.entries.find? fun e => e.circuit == c).map (·.status)
  commits := k.committing.count c
  waiting := k.slot == some c

end Visible

/-! ## Agreement -/

/-- What the blocks keep about a circuit agrees. While an operation is under way a circuit may be `short` of holds, have some
`extra`, or be PENDING with its entry still `missing`. -/
structure CircuitView.Ok (short extra missing : Nat) (x : CircuitView) : Prop where
  live : x.record = {} ∨ x.running = true
  defined : x.record.definition.isSome = x.record.defined
  holds : x.record.holds + short = x.crossed + extra
  fits : match x.record.state with
    | .held => 1 ≤ x.record.holds
    | .idle | .pending | .probing => x.record.holds = 0
    | .capturing => x.status.any EntryStatus.isMeasuring = true → x.record.holds = 0
    | .empty | .unreadable => True
  queue : x.queued + missing = if x.record.state = .pending then 1 else 0
  granted : ∀ l, x.granted l = true ↔ x.record.state = .probing ∧ x.record.lane = some l
  measured : ∀ l, x.measured l = true ↔ x.status = some (.measuring l)
  onLane : ∀ l, x.status = some (.measuring l) → x.record.lane = some l
  flight : x.status.any EntryStatus.inFlight = (x.record.state == .capturing)
  commits : x.commits = if x.status.any EntryStatus.isCommitting then 1 else 0
  waiting : x.waiting = true → x.record.changing = true ∧ x.record.state.changeRefusal = none

/-- The work in hand of a lane is its grant or its capture. -/
structure LaneShare.Ok (x : LaneShare) : Prop where
  grant : ∀ c, x.grant = some c → x.work = .verification c ∧ x.capture = none ∧ x.working = true
  verification : ∀ c, x.work = .verification c → x.grant = some c
  capture : ∀ c, x.capture = some c → x.work = .capture c ∧ x.working = true
  measuring : ∀ c, x.work = .capture c → x.capture = some c

/-- The lists and the reservations agree; `spare` summary reservations are between two owners. -/
structure Visible.Whole (spare : Nat) (k : Visible) : Prop where
  nodup : (k.entries.map (·.circuit)).Nodup
  writes : ∀ x ∈ k.commits, ∀ c, x.submitter = .capture c → ∃ b, x.op = .writeBaseline c b
  idle : k.idle = k.entries.all fun e => e.status.isFinished
  ids : (k.windows.map (·.1) ++ k.records).Nodup
  verdicts : k.verdicts = allLanes.countP fun l => (k.lanes l).grant.isSome
  summaries : k.summaries = k.windows.length + k.records.length + spare
  captureDone : k.captureDone = if k.idle then 0 else 1
  profileApplied : k.profileApplied = if k.pending then 1 else 0
  opened : k.windows = [] ∨ k.running = true

/-- What an operation under way still owes. -/
structure Slack where
  short : Nat → Nat := fun _ => 0
  extra : Nat → Nat := fun _ => 0
  missing : Nat → Nat := fun _ => 0
  spare : Nat := 0

structure Visible.Linked (d : Slack) (k : Visible) : Prop where
  views : ∀ c, (k.view c).Ok (d.short c) (d.extra c) (d.missing c)
  lanes : ∀ l, (k.lanes l).Ok
  whole : k.Whole d.spare

def State.Linked (d : Slack) (s : State) : Prop := s.visible.Linked d

/-! ## This is `State.Agreed` -/

section
variable {s : State}

theorem State.entryIs_eq (s : State) (c : Nat) (p : EntryStatus → Bool) : s.entryIs c p = (s.visible.view c).status.any p := by
  have hstatus : (s.visible.view c).status = (s.campaign.entryFor c).map (·.status) := rfl
  unfold State.entryIs
  rw [hstatus]
  cases s.campaign.entryFor c <;> rfl

theorem State.windowsOver_visible (s : State) (spans : List Nat) : s.visible.windowsOver spans = s.windowsOver spans :=
  List.countP_map ..

theorem State.status_measuring_iff (s : State) (c : Nat) (l : LaneId) :
    (s.visible.view c).status = some (.measuring l) ↔ s.campaign.entryFor c = some ⟨c, .measuring l⟩ := by
  have hstatus : (s.visible.view c).status = (s.campaign.entryFor c).map (·.status) := rfl
  rw [hstatus]
  cases h : s.campaign.entryFor c with
  | none => simp
  | some e =>
    obtain ⟨-, hc⟩ := Campaign.entryFor_mem h
    obtain ⟨c', st⟩ := e
    subst hc
    simp

theorem State.jobQuiet_iff (s : State) :
    s.jobQuiet ↔ ∀ id, s.visible.slot = some id →
      (s.circuit id).changing = true ∧ (s.circuit id).state.changeRefusal = none := by
  have hslot : s.visible.slot = s.processor.slot := rfl
  rw [hslot]
  unfold State.jobQuiet
  cases s.processor with
  | free => exact ⟨fun _ => nofun, fun _ => trivial⟩
  | replying r => exact ⟨fun _ => nofun, fun _ => trivial⟩
  | committing tag job =>
    cases job with
    | protect x session => exact ⟨fun _ => nofun, fun _ => trivial⟩
    | _ => exact ⟨fun h _ e => Option.some.inj e ▸ h, fun h => h _ rfl⟩

/-- An empty table of circuits, where the table is canonical. -/
theorem State.circuits_eq_nil (h : tableWf {} s.circuits = true) (hall : ∀ c, s.circuit c = {}) : s.circuits = [] := by
  cases hc : s.circuits with
  | nil => rfl
  | cons e es =>
    obtain ⟨c, r⟩ := e
    have hr : s.circuit c = r := tableRead_of_mem h (by rw [hc]; exact List.mem_cons_self)
    rw [hc] at h
    exact absurd (hr.symm.trans (hall c)) ((tableWf_cons ..).1 h).1

/-- A lane's grant, or its want of one, as its share says. -/
theorem Lane.share_ok_iff (r : Lane) :
    r.share.Ok ↔
      (match r.grant with
        | some g => r.work = .verification g.entry.circuit ∧ r.capture = none ∧ r.working = true
        | none => ∀ c, r.work ≠ .verification c) ∧
      (match r.capture with
        | some w => r.work = .capture w.circuit ∧ r.working = true
        | none => ∀ c, r.work ≠ .capture c) := by
  cases hg : r.grant with
  | none =>
    cases hw : r.capture with
    | none =>
      constructor
      · intro h
        refine ⟨fun c hc => ?_, fun c hc => ?_⟩
        · have := h.verification c hc
          simp [Lane.share, hg] at this
        · have := h.measuring c hc
          simp [Lane.share, hw] at this
      · rintro ⟨hv, hc⟩
        exact ⟨fun c => by simp [Lane.share, hg], fun c hw => absurd hw (hv c), fun c => by simp [Lane.share, hw],
          fun c hw => absurd hw (hc c)⟩
    | some w =>
      constructor
      · intro h
        obtain ⟨hwork, hworking⟩ := h.capture w.circuit (by simp [Lane.share, hw])
        have hwork' : r.work = .capture w.circuit := hwork
        exact ⟨fun c hc => (nomatch hc.symm.trans hwork'), hwork, hworking⟩
      · rintro ⟨hv, hwork, hworking⟩
        refine ⟨fun c => by simp [Lane.share, hg], fun c hw => absurd hw (hv c), fun c hc => ?_, fun c hc => ?_⟩
        · have he : w.circuit = c := by simpa [Lane.share, hw] using hc
          exact ⟨he ▸ hwork, hworking⟩
        · have he : r.work = .capture c := hc
          rw [hwork, Work.capture.injEq] at he
          simp [Lane.share, hw, he]
  | some g =>
    constructor
    · intro h
      obtain ⟨hwork, hcapture, hworking⟩ := h.grant g.entry.circuit (by simp [Lane.share, hg])
      have hwork' : r.work = .verification g.entry.circuit := hwork
      have hnone : r.capture = none := by simpa [Lane.share] using hcapture
      rw [hnone]
      exact ⟨⟨hwork, rfl, hworking⟩, fun c hc => (nomatch hc.symm.trans hwork')⟩
    · rintro ⟨⟨hwork, hnone, hworking⟩, -⟩
      refine ⟨fun c hc => ?_, fun c hc => ?_, fun c hc => ?_, fun c hc => ?_⟩
      · have he : g.entry.circuit = c := by simpa [Lane.share, hg] using hc
        exact ⟨he ▸ hwork, by simp [Lane.share, hnone], hworking⟩
      · have he : r.work = .verification c := hc
        rw [hwork, Work.verification.injEq] at he
        simp [Lane.share, hg, he]
      · simp [Lane.share, hnone] at hc
      · have he : r.work = .capture c := hc
        rw [hwork] at he
        cases he

/-- The entry of a circuit, in a list that names each circuit once. -/
theorem State.status_of_mem (h : (s.campaign.entries.map (·.circuit)).Nodup) {e : CaptureEntry} (he : e ∈ s.campaign.entries) :
    (s.visible.view e.circuit).status = some e.status := by
  have hstatus : (s.visible.view e.circuit).status = (s.campaign.entryFor e.circuit).map (·.status) := rfl
  rw [hstatus, Campaign.entryFor_of_mem h he]
  rfl

theorem State.linked_of_agreed (h : s.Agreed) : s.Linked {} := by
  obtain ⟨hnodup, hflight, hmeasuring⟩ := h.entries
  obtain ⟨hcommit, hwrites, hidle⟩ := h.commits
  obtain ⟨hverdicts, hsummaries, hdone, happlied⟩ := h.reservations
  have hslot := (s.jobQuiet_iff).mp h.job
  have hgranted : ∀ l c, (s.lane l).share.grant = some c → (s.circuit c).state = .probing ∧ s.laneOf c = some l := by
    intro l c hc
    obtain ⟨g, hg, rfl⟩ := Option.map_eq_some_iff.mp hc
    have := h.grants l
    unfold State.grantAgrees at this
    rw [hg] at this
    exact ⟨this.1, this.2.1⟩
  have hmeasured : ∀ l c, (s.lane l).share.capture = some c →
      (s.visible.view c).status = some (.measuring l) ∧ s.laneOf c = some l := by
    intro l c hc
    obtain ⟨w, hw, rfl⟩ := Option.map_eq_some_iff.mp hc
    have := h.captures l
    unfold State.captureAgrees at this
    rw [hw] at this
    exact ⟨(s.status_measuring_iff _ l).mpr this.2.1, this.1⟩
  have hstatus : ∀ c l, (s.visible.view c).status = some (.measuring l) → (s.lane l).share.capture = some c := by
    intro c l hc
    obtain ⟨hmem, -⟩ := Campaign.entryFor_mem ((s.status_measuring_iff c l).mp hc)
    exact hmeasuring _ hmem l rfl
  refine ⟨fun c => ?_, fun l => ?_, ?_⟩
  · constructor
    case live =>
      obtain hr | ⟨hc, -⟩ := h.outside
      · exact .inr (beq_iff_eq.mpr hr)
      · refine .inl ?_
        show tableRead {} s.circuits c = {}
        rw [hc]
        rfl
    case defined => exact h.defined c
    case holds =>
      have := h.holds c
      show (s.circuit c).holds + 0 = s.visible.windowsOver (s.circuit c).spans + 0
      rw [s.windowsOver_visible]
      exact this
    case fits =>
      have := h.states c
      rw [s.entryIs_eq] at this
      exact this
    case queue =>
      have := h.queue c
      exact (List.countP_map ..).trans this
    case granted =>
      intro l
      constructor
      · exact fun hg => hgranted l c (beq_iff_eq.mp hg)
      · rintro ⟨hp, hl⟩
        have hsome := h.probing c hp
        unfold State.grantOf at hsome
        have hl' : s.laneOf c = some l := hl
        rw [hl'] at hsome
        dsimp only at hsome
        refine beq_iff_eq.mpr ?_
        show (s.lane l).grant.map (·.entry.circuit) = some c
        cases hg : (s.lane l).grant with
        | none => simp [hg] at hsome
        | some g =>
          rw [hg] at hsome
          by_cases he : g.entry.circuit = c
          · rw [← he]
            rfl
          · simp [he] at hsome
    case measured => exact fun l => ⟨fun hm => (hmeasured l c (beq_iff_eq.mp hm)).1, fun hs => beq_iff_eq.mpr (hstatus c l hs)⟩
    case onLane => exact fun l hs => (hmeasured l c (hstatus c l hs)).2
    case flight => exact (s.entryIs_eq c _).symm.trans (hflight c)
    case commits =>
      have hc : (s.visible.view c).commits = s.committing.count c := rfl
      rw [hc, hcommit c, s.entryIs_eq]
    case waiting => exact fun hw => hslot c (beq_iff_eq.mp hw)
  · have hg := h.grants l
    have hc := h.captures l
    unfold State.grantAgrees at hg
    unfold State.captureAgrees at hc
    refine (Lane.share_ok_iff _).mpr ⟨?_, ?_⟩
    · cases hgrant : (s.lane l).grant with
      | none => rw [hgrant] at hg; exact hg
      | some g => rw [hgrant] at hg; exact ⟨hg.2.2.1, hg.2.2.2.1, hg.2.2.2.2⟩
    · cases hcapture : (s.lane l).capture with
      | none => rw [hcapture] at hc; exact hc
      | some w => rw [hcapture] at hc; exact ⟨hc.2.2.1, hc.2.2.2⟩
  · constructor
    case nodup => exact hnodup
    case writes => exact hwrites
    case idle => exact hidle
    case ids => simpa [State.visible, Function.comp_def, State.windowIdsDistinct] using h.ids
    case verdicts => simpa [State.visible, Lane.share] using hverdicts
    case summaries => simpa [State.visible] using hsummaries
    case captureDone => simpa [State.visible] using hdone
    case profileApplied => exact happlied
    case opened =>
      obtain hr | ⟨-, hst⟩ := h.outside
      · exact .inr (beq_iff_eq.mpr hr)
      · exact .inl (by simp [State.visible, hst])

theorem State.agreed_of_linked (hcanonical : s.Canonical) (hindexed : s.indexed) (h : s.Linked {}) : s.Agreed := by
  obtain ⟨hcodes, hspans, hascending⟩ := indexesFor_definitions.mp hindexed.1
  obtain ⟨hviews, hlanes, hwhole⟩ := h
  have hgrant : ∀ l c, (s.lane l).share.grant = some c → (s.circuit c).state = .probing ∧ s.laneOf c = some l :=
    fun l c hc => ((hviews c).granted l).mp (beq_iff_eq.mpr hc)
  have hcapture : ∀ l c, (s.lane l).share.capture = some c → (s.visible.view c).status = some (.measuring l) :=
    fun l c hc => ((hviews c).measured l).mp (beq_iff_eq.mpr hc)
  refine { canonical := (tablesCanonical_iff s).mpr hcanonical, codes := hcodes, spans := hspans, ascending := hascending,
           checked := hindexed.2, holds := fun c => ?holds, queue := fun c => ?queue, states := fun c => ?states,
           defined := fun c => (hviews c).defined, grants := fun l => ?grants, captures := fun l => ?captures,
           probing := fun c hp => ?probing, entries := ⟨hwhole.nodup, fun c => ?flight, fun e he l hl => ?measuring⟩,
           commits := ⟨fun c => ?commits, hwhole.writes, hwhole.idle⟩, job := ?job, ids := ?ids,
           reservations := ⟨?verdicts, ?summaries, ?captureDone, hwhole.profileApplied⟩, outside := ?outside }
  case holds =>
    have := (hviews c).holds
    have hcrossed : (s.visible.view c).crossed = s.windowsOver (s.circuit c).spans := s.windowsOver_visible _
    rw [hcrossed] at this
    exact this
  case queue =>
    have := (hviews c).queue
    refine Eq.trans ?_ this
    exact (List.countP_map (p := fun x => x == c) (f := QueueEntry.circuit) (l := s.queue)).symm
  case states =>
    have := (hviews c).fits
    rw [← s.entryIs_eq] at this
    exact this
  case grants =>
    have hl := ((Lane.share_ok_iff _).mp (hlanes l)).1
    unfold State.grantAgrees
    cases hg : (s.lane l).grant with
    | none => rw [hg] at hl; exact hl
    | some g =>
      rw [hg] at hl
      obtain ⟨hp, hlane⟩ := hgrant l g.entry.circuit (by simp [Lane.share, hg])
      exact ⟨hp, hlane, hl⟩
  case captures =>
    have hl := ((Lane.share_ok_iff _).mp (hlanes l)).2
    unfold State.captureAgrees
    cases hc : (s.lane l).capture with
    | none => rw [hc] at hl; exact hl
    | some w =>
      rw [hc] at hl
      have hs := hcapture l w.circuit (by simp [Lane.share, hc])
      exact ⟨(hviews w.circuit).onLane l hs, (s.status_measuring_iff _ l).mp hs, hl⟩
  case probing =>
    have hdefined := (hviews c).defined
    have hsome : (s.circuit c).definition.isSome = true := hdefined.trans (by
      show (s.circuit c).defined = true
      simp [Circuit.defined, hp])
    obtain ⟨d, hd⟩ := Option.isSome_iff_exists.mp hsome
    have hl : s.laneOf c = some d.lane := State.laneOf_of_definition hd
    have hg : (s.lane d.lane).grant.map (·.entry.circuit) = some c :=
      beq_iff_eq.mp (((hviews c).granted d.lane).mpr ⟨hp, hl⟩)
    obtain ⟨g, hg, he⟩ := Option.map_eq_some_iff.mp hg
    simp [State.grantOf, hl, hg, he]
  case flight => exact (s.entryIs_eq c _).trans (hviews c).flight
  case measuring =>
    have hs : (s.visible.view e.circuit).status = some (.measuring l) := by rw [State.status_of_mem hwhole.nodup he, hl]
    exact beq_iff_eq.mp (((hviews e.circuit).measured l).mpr hs)
  case commits =>
    have := (hviews c).commits
    rw [← s.entryIs_eq] at this
    exact this
  case job => exact (s.jobQuiet_iff).mpr fun id hid => (hviews id).waiting (beq_iff_eq.mpr hid)
  case ids => simpa [State.visible, Function.comp_def, State.windowIdsDistinct] using hwhole.ids
  case verdicts => simpa [State.visible, Lane.share] using hwhole.verdicts
  case summaries => simpa [State.visible] using hwhole.summaries
  case captureDone => simpa [State.visible] using hwhole.captureDone
  case outside =>
    obtain hnone | hrun := hwhole.opened
    · by_cases hphase : s.phase = .running
      · exact .inl hphase
      · refine .inr ⟨State.circuits_eq_nil hcanonical.circuits fun c => (hviews c).live.resolve_right fun hr =>
          hphase (beq_iff_eq.mp hr), by simpa [State.visible] using hnone⟩
    · exact .inl (beq_iff_eq.mp hrun)

end

end Sys2Proof.Machine


/-! # Changes that keep the agreement -/

namespace Sys2Proof.Machine

/-! ## A circuit's own agreement, by its state -/

namespace CircuitView

variable {a b m : Nat} {x : CircuitView} {l : LaneId}

/-- No lane and no capture has the circuit. -/
structure Out (x : CircuitView) : Prop where
  granted : ∀ j, x.granted j = false
  measured : ∀ j, x.measured j = false
  status : x.status.any EntryStatus.inFlight = false
  commits : x.commits = 0

/-- The circuit is the grant of lane `l`. -/
structure Granted (l : LaneId) (x : CircuitView) : Prop where
  granted : ∀ j, x.granted j = true ↔ j = l
  measured : ∀ j, x.measured j = false
  status : x.status.any EntryStatus.inFlight = false
  commits : x.commits = 0

/-- The circuit's capture is in its measuring phase on lane `l`. -/
structure Measured (l : LaneId) (x : CircuitView) : Prop where
  granted : ∀ j, x.granted j = false
  measured : ∀ j, x.measured j = true ↔ j = l
  status : x.status = some (.measuring l)
  commits : x.commits = 0

/-- The circuit's capture is in its commit phase. -/
structure Committing (x : CircuitView) : Prop where
  granted : ∀ j, x.granted j = false
  measured : ∀ j, x.measured j = false
  status : ∃ l, x.status = some (.committing l)
  commits : x.commits = 1

theorem any_inFlight (st : Option EntryStatus) :
    st.any EntryStatus.inFlight = (st.any EntryStatus.isMeasuring || st.any EntryStatus.isCommitting) := by
  cases st with
  | none => rfl
  | some st => cases st <;> rfl

theorem any_isMeasuring_iff (st : Option EntryStatus) :
    st.any EntryStatus.isMeasuring = true ↔ ∃ l, st = some (.measuring l) := by
  cases st with
  | none => simp
  | some st => cases st <;> simp [EntryStatus.isMeasuring]

theorem any_isCommitting_iff (st : Option EntryStatus) :
    st.any EntryStatus.isCommitting = true ↔ ∃ l, st = some (.committing l) := by
  cases st with
  | none => simp
  | some st => cases st <;> simp [EntryStatus.isCommitting]

theorem Ok.out (h : x.Ok a b m) (hp : x.record.state ≠ .probing) (hc : x.record.state ≠ .capturing) : x.Out := by
  have hflight : x.status.any EntryStatus.inFlight = false := by
    rw [h.flight]
    exact beq_eq_false_iff_ne.mpr hc
  have hparts := any_inFlight x.status
  rw [hflight, eq_comm, Bool.or_eq_false_iff] at hparts
  refine ⟨fun j => ?_, fun j => ?_, hflight, ?_⟩
  · by_contra hg
    exact hp ((h.granted j).mp (by simpa using hg)).1
  · by_contra hm
    have hs := (h.measured j).mp (by simpa using hm)
    rw [hs] at hparts
    cases hparts.1
  · rw [h.commits, hparts.2]
    rfl

theorem Ok.granted_lane (h : x.Ok a b m) (hp : x.record.state = .probing) (hl : x.record.lane = some l) : x.Granted l := by
  have hflight : x.status.any EntryStatus.inFlight = false := by
    rw [h.flight, hp]
    rfl
  have hparts := any_inFlight x.status
  rw [hflight, eq_comm, Bool.or_eq_false_iff] at hparts
  refine ⟨fun j => ?_, fun j => ?_, hflight, ?_⟩
  · rw [h.granted j, hl, Option.some.injEq]
    exact ⟨fun hj => hj.2.symm, fun hj => ⟨hp, hj.symm⟩⟩
  · by_contra hm
    have hs := (h.measured j).mp (by simpa using hm)
    rw [hs] at hparts
    cases hparts.1
  · rw [h.commits, hparts.2]
    rfl

theorem Ok.capturing (h : x.Ok a b m) (hs : x.status.any EntryStatus.inFlight = true) : x.record.state = .capturing := by
  rw [h.flight] at hs
  exact beq_iff_eq.mp hs

theorem Ok.not_granted (h : x.Ok a b m) (hp : x.record.state ≠ .probing) (j : LaneId) : x.granted j = false := by
  by_contra hg
  exact hp ((h.granted j).mp (by simpa using hg)).1

theorem Ok.measured_lane (h : x.Ok a b m) (hs : x.status = some (.measuring l)) :
    x.Measured l ∧ x.record.state = .capturing ∧ x.record.lane = some l ∧ x.record.holds = 0 := by
  have hc := h.capturing (by rw [hs]; rfl)
  refine ⟨⟨h.not_granted (by rw [hc]; nofun), fun j => ?_, hs, ?_⟩, hc, h.onLane l hs, ?_⟩
  · rw [h.measured j, hs, Option.some.injEq, EntryStatus.measuring.injEq]
    exact eq_comm
  · rw [h.commits, hs]
    rfl
  · have hfits := h.fits
    rw [hc] at hfits
    exact hfits (by rw [hs]; rfl)

theorem Ok.committing (h : x.Ok a b m) (hs : x.status.any EntryStatus.isCommitting = true) :
    x.Committing ∧ x.record.state = .capturing := by
  obtain ⟨l, hl⟩ := (any_isCommitting_iff _).mp hs
  have hc := h.capturing (by rw [hl]; rfl)
  refine ⟨⟨h.not_granted (by rw [hc]; nofun), fun j => ?_, ⟨l, hl⟩, by rw [h.commits, hs]; rfl⟩, hc⟩
  by_contra hm
  have := (h.measured j).mp (by simpa using hm)
  rw [hl] at this
  cases this

/-- The hold counts of a circuit that no lane and no capture has. -/
def holdsAs (r : Circuit) : Prop :=
  (r.state = .held → 1 ≤ r.holds) ∧ (r.state = .idle ∨ r.state = .pending → r.holds = 0)

theorem Ok.holds_as (h : x.Ok a b m) : holdsAs x.record := by
  have hfits := h.fits
  refine ⟨fun hs => ?_, fun hs => ?_⟩
  · rw [hs] at hfits
    exact hfits
  · obtain hs | hs := hs <;> · rw [hs] at hfits; exact hfits

theorem Ok.of_out (hlive : x.record = {} ∨ x.running = true) (hdefined : x.record.definition.isSome = x.record.defined)
    (hholds : x.record.holds + a = x.crossed + b) (hfits : holdsAs x.record)
    (hqueue : x.queued + m = if x.record.state = .pending then 1 else 0) (hout : x.Out)
    (hp : x.record.state ≠ .probing) (hc : x.record.state ≠ .capturing)
    (hwaiting : x.waiting = true → x.record.changing = true ∧ x.record.state.changeRefusal = none) : x.Ok a b m := by
  have hparts := any_inFlight x.status
  rw [hout.status, eq_comm, Bool.or_eq_false_iff] at hparts
  have hnone : ∀ l, x.status ≠ some (.measuring l) := fun l hs => by
    rw [hs] at hparts
    cases hparts.1
  refine ⟨hlive, hdefined, hholds, ?_, hqueue, fun l => ?_, fun l => ?_, fun l hs => absurd hs (hnone l), ?_, ?_, hwaiting⟩
  · obtain ⟨hheld, hidle⟩ := hfits
    cases hs : x.record.state with
    | held => exact hheld hs
    | idle => exact hidle (.inl hs)
    | pending => exact hidle (.inr hs)
    | probing => exact absurd hs hp
    | capturing => exact absurd hs hc
    | empty => trivial
    | unreadable => trivial
  · rw [hout.granted l]
    exact ⟨nofun, fun hs => absurd hs.1 hp⟩
  · rw [hout.measured l]
    exact ⟨nofun, fun hs => absurd hs (hnone l)⟩
  · rw [hout.status]
    exact (beq_eq_false_iff_ne.mpr hc).symm
  · rw [hout.commits, hparts.2]
    rfl

theorem Ok.of_granted (hlive : x.running = true) (hdefined : x.record.definition.isSome = x.record.defined)
    (hholds : x.record.holds + a = x.crossed + b) (hzero : x.record.holds = 0) (hqueue : x.queued + m = 0)
    (hgranted : x.Granted l) (hp : x.record.state = .probing) (hl : x.record.lane = some l)
    (hwaiting : x.waiting = false) : x.Ok a b m := by
  have hparts := any_inFlight x.status
  rw [hgranted.status, eq_comm, Bool.or_eq_false_iff] at hparts
  have hnone : ∀ j, x.status ≠ some (.measuring j) := fun j hs => by
    rw [hs] at hparts
    cases hparts.1
  refine ⟨.inr hlive, hdefined, hholds, by rw [hp]; exact hzero, by rw [hqueue, hp]; rfl, fun j => ?_, fun j => ?_,
    fun j hs => absurd hs (hnone j), by rw [hgranted.status, hp]; rfl, by rw [hgranted.commits, hparts.2]; rfl,
    fun hw => by rw [hwaiting] at hw; cases hw⟩
  · rw [hgranted.granted j, hl, Option.some.injEq]
    exact ⟨fun hj => ⟨hp, hj.symm⟩, fun hj => hj.2.symm⟩
  · rw [hgranted.measured j]
    exact ⟨nofun, fun hs => absurd hs (hnone j)⟩

theorem Ok.of_measured (hlive : x.running = true) (hdefined : x.record.definition.isSome = x.record.defined)
    (hholds : x.record.holds + a = x.crossed + b) (hzero : x.record.holds = 0) (hqueue : x.queued + m = 0)
    (hm : x.Measured l) (hc : x.record.state = .capturing) (hl : x.record.lane = some l)
    (hwaiting : x.waiting = false) : x.Ok a b m := by
  refine ⟨.inr hlive, hdefined, hholds, by rw [hc]; exact fun _ => hzero, by rw [hqueue, hc]; rfl, fun j => ?_, fun j => ?_,
    fun j hs => ?_, by rw [hm.status, hc]; rfl, by rw [hm.commits, hm.status]; rfl,
    fun hw => by rw [hwaiting] at hw; cases hw⟩
  · rw [hm.granted j, hc]
    exact ⟨nofun, fun hs => nomatch hs.1⟩
  · rw [hm.measured j, hm.status, Option.some.injEq, EntryStatus.measuring.injEq]
    exact eq_comm
  · rw [hm.status, Option.some.injEq, EntryStatus.measuring.injEq] at hs
    rw [hl, hs]

theorem Ok.of_committing (hlive : x.running = true) (hdefined : x.record.definition.isSome = x.record.defined)
    (hholds : x.record.holds + a = x.crossed + b) (hqueue : x.queued + m = 0) (hcommitting : x.Committing)
    (hc : x.record.state = .capturing) (hwaiting : x.waiting = false) : x.Ok a b m := by
  obtain ⟨hgranted, hmeasured, ⟨l, hstatus⟩, hcommits⟩ := hcommitting
  refine ⟨.inr hlive, hdefined, hholds, by rw [hc, hstatus]; exact nofun, by rw [hqueue, hc]; rfl, fun j => ?_, fun j => ?_,
    fun j hs => ?_, by rw [hstatus, hc]; rfl, by rw [hcommits, hstatus]; rfl, fun hw => by rw [hwaiting] at hw; cases hw⟩
  · rw [hgranted j, hc]
    exact ⟨nofun, fun hs => nomatch hs.1⟩
  · rw [hmeasured j, hstatus]
    exact ⟨nofun, nofun⟩
  · rw [hstatus] at hs
    cases hs

/-- A circuit with no work in a campaign, whose entry changes. -/
theorem Ok.restatus {n : Nat} {st : Option EntryStatus} (h : x.Ok a b m)
    (hold : x.status.any EntryStatus.inFlight = false) (hst : st.any EntryStatus.inFlight = false) (hn : n = 0) :
    ({ x with status := st, commits := n } : CircuitView).Ok a b m := by
  have hnone : ∀ {y : Option EntryStatus}, y.any EntryStatus.inFlight = false → ∀ l, y ≠ some (.measuring l) :=
    fun hy l he => by
      rw [he] at hy
      cases hy
  have hstate : x.record.state ≠ .capturing := fun he => by
    have := h.flight
    rw [hold, he] at this
    cases this
  have hparts := any_inFlight st
  rw [hst, eq_comm, Bool.or_eq_false_iff] at hparts
  refine ⟨h.live, h.defined, h.holds, ?_, h.queue, h.granted, fun j => ?_, fun j hj => absurd hj (hnone hst j), ?_, ?_, h.waiting⟩
  · have hfits := h.fits
    show match x.record.state with
      | .held => 1 ≤ x.record.holds
      | .idle | .pending | .probing => x.record.holds = 0
      | .capturing => _ → x.record.holds = 0
      | .empty | .unreadable => True
    cases he : x.record.state with
    | capturing => exact absurd he hstate
    | _ => rw [he] at hfits; exact hfits
  · refine (h.measured j).trans ⟨fun hj => absurd hj (hnone hold j), fun hj => absurd hj (hnone hst j)⟩
  · show st.any _ = _
    rw [hst]
    exact (beq_eq_false_iff_ne.mpr hstate).symm
  · show n = if st.any _ then 1 else 0
    rw [hparts.2, hn]
    rfl

/-- A circuit with work is not the slot of the waiting request. -/
theorem Ok.not_waiting (h : x.Ok a b m) (hr : x.record.state.changeRefusal ≠ none) : x.waiting = false := by
  by_contra hw
  exact hr (h.waiting (by simpa using hw)).2

theorem Ok.runs (h : x.Ok a b m) (hs : x.record.state ≠ .empty) : x.running = true :=
  h.live.resolve_left fun he => hs (by rw [he])

end CircuitView

/-! ## One circuit at a time -/

namespace Visible

variable {k k' : Visible} {d d' : Slack} {c : Nat}

/-- A circuit that a change does not concern. -/
theorem view_eq (hrunning : k'.running = k.running := by rfl) (hrecord : k'.circuits c = k.circuits c := by rfl)
    (hwindows : k'.windowsOver (k.circuits c).spans = k.windowsOver (k.circuits c).spans := by rfl)
    (hqueued : k'.queued.count c = k.queued.count c := by rfl)
    (hgranted : ∀ l, (k'.lanes l).grant = some c ↔ (k.lanes l).grant = some c := by exact fun _ => Iff.rfl)
    (hmeasured : ∀ l, (k'.lanes l).capture = some c ↔ (k.lanes l).capture = some c := by exact fun _ => Iff.rfl)
    (hstatus : (k'.view c).status = (k.view c).status := by rfl)
    (hcommits : k'.committing.count c = k.committing.count c := by rfl)
    (hslot : k'.slot = some c ↔ k.slot = some c := by exact Iff.rfl) : k'.view c = k.view c := by
  have hg : (fun l => (k'.lanes l).grant == some c) = fun l => (k.lanes l).grant == some c := by
    funext l
    rw [Bool.eq_iff_iff, beq_iff_eq, beq_iff_eq]
    exact hgranted l
  have hm : (fun l => (k'.lanes l).capture == some c) = fun l => (k.lanes l).capture == some c := by
    funext l
    rw [Bool.eq_iff_iff, beq_iff_eq, beq_iff_eq]
    exact hmeasured l
  have hw : (k'.slot == some c) = (k.slot == some c) := by
    rw [Bool.eq_iff_iff, beq_iff_eq, beq_iff_eq]
    exact hslot
  have hstatus' : (k'.entries.find? fun e => e.circuit == c).map (·.status) =
    (k.entries.find? fun e => e.circuit == c).map (·.status) := hstatus
  unfold view
  rw [hrunning, hrecord, hwindows, hqueued, hg, hm, hstatus', hcommits, hw]

/-- A change of one circuit. -/
theorem Linked.change (h : k.Linked d) (c : Nat) (hview : ∀ x, x ≠ c → k'.view x = k.view x)
    (hshort : ∀ x, x ≠ c → d'.short x = d.short x) (hextra : ∀ x, x ≠ c → d'.extra x = d.extra x)
    (hmissing : ∀ x, x ≠ c → d'.missing x = d.missing x)
    (hc : (k'.view c).Ok (d'.short c) (d'.extra c) (d'.missing c)) (hlanes : ∀ l, (k'.lanes l).Ok)
    (hwhole : k'.Whole d'.spare) : k'.Linked d' := by
  refine ⟨fun x => ?_, hlanes, hwhole⟩
  by_cases hx : x = c
  · rw [hx]
    exact hc
  · rw [hview x hx, hshort x hx, hextra x hx, hmissing x hx]
    exact h.views x

/-- A change of one circuit that settles nothing of what an operation owes. -/
theorem Linked.change_same (h : k.Linked d) (c : Nat) (hview : ∀ x, x ≠ c → k'.view x = k.view x)
    (hc : (k'.view c).Ok (d.short c) (d.extra c) (d.missing c)) (hlanes : ∀ l, (k'.lanes l).Ok) (hwhole : k'.Whole d.spare) :
    k'.Linked d := h.change c hview (fun _ _ => rfl) (fun _ _ => rfl) (fun _ _ => rfl) hc hlanes hwhole

/-- A change that concerns no circuit. -/
theorem Linked.keep (h : k.Linked d) (hview : ∀ x, k'.view x = k.view x) (hlanes : ∀ l, (k'.lanes l).Ok)
    (hwhole : k'.Whole d.spare) : k'.Linked d :=
  ⟨fun x => by rw [hview x]; exact h.views x, hlanes, hwhole⟩

end Visible

end Sys2Proof.Machine


/-! # A circuit's way through the queue, the lanes and the campaign -/

namespace Sys2Proof.Machine

/-! ## Lanes -/

/-- A lane that works for no circuit but `c`. -/
def LaneShare.OnlyFor (c : Nat) (y : LaneShare) : Prop :=
  (∀ x, y.grant = some x → x = c) ∧ ∀ x, y.capture = some x → x = c

/-- A lane without a grant and without a capture. -/
def LaneShare.Free (y : LaneShare) : Prop := y.grant = none ∧ y.capture = none

theorem LaneShare.Free.onlyFor {y : LaneShare} (h : y.Free) (c : Nat) : y.OnlyFor c :=
  ⟨fun _ hx => (nomatch h.1.symm.trans hx), fun _ hx => (nomatch h.2.symm.trans hx)⟩

theorem LaneShare.Ok.onlyFor_grant {y : LaneShare} (h : y.Ok) {c : Nat} (hg : y.grant = some c) : y.OnlyFor c := by
  obtain ⟨-, hcapture, -⟩ := h.grant c hg
  exact ⟨fun _ hx => Option.some.inj (hx.symm.trans hg), fun _ hx => (nomatch hcapture.symm.trans hx)⟩

theorem LaneShare.Ok.grant_none {y : LaneShare} (h : y.Ok) {c : Nat} (hc : y.capture = some c) : y.grant = none := by
  cases hg : y.grant with
  | none => rfl
  | some x =>
    obtain ⟨-, hcapture, -⟩ := h.grant x hg
    rw [hcapture] at hc
    cases hc

theorem LaneShare.Ok.onlyFor_capture {y : LaneShare} (h : y.Ok) {c : Nat} (hc : y.capture = some c) : y.OnlyFor c := by
  refine ⟨fun x hx => ?_, fun x hx => Option.some.inj (hx.symm.trans hc)⟩
  rw [h.grant_none hc] at hx
  cases hx

/-- A free lane's record agrees where it has no circuit for its work. -/
theorem LaneShare.Free.ok {y : LaneShare} (h : y.Free) (hv : ∀ c, y.work ≠ .verification c) (hc : ∀ c, y.work ≠ .capture c) :
    y.Ok :=
  ⟨fun _ hx => (nomatch h.1.symm.trans hx), fun x hx => absurd hx (hv x), fun _ hx => (nomatch h.2.symm.trans hx),
    fun x hx => absurd hx (hc x)⟩

/-- A lane that is not working is free. -/
theorem LaneShare.Ok.free {y : LaneShare} (h : y.Ok) (hw : y.working = false) : y.Free := by
  refine ⟨?_, ?_⟩
  · cases hg : y.grant with
    | none => rfl
    | some x =>
      obtain ⟨-, -, hworking⟩ := h.grant x hg
      rw [hw] at hworking
      cases hworking
  · cases hc : y.capture with
    | none => rfl
    | some x =>
      obtain ⟨-, hworking⟩ := h.capture x hc
      rw [hw] at hworking
      cases hworking

/-- A lane without work is free. -/
theorem LaneShare.Ok.free_of_none {y : LaneShare} (h : y.Ok) (hw : y.work = .none) : y.Free := by
  refine ⟨?_, ?_⟩
  · cases hg : y.grant with
    | none => rfl
    | some x =>
      obtain ⟨hwork, -⟩ := h.grant x hg
      rw [hw] at hwork
      cases hwork
  · cases hc : y.capture with
    | none => rfl
    | some x =>
      obtain ⟨hwork, -⟩ := h.capture x hc
      rw [hw] at hwork
      cases hwork

theorem countP_update {p : LaneShare → Bool} (f : LaneId → LaneShare) (l : LaneId) (y : LaneShare) :
    (allLanes.countP fun i => p (Function.update f l y i)) + (if p (f l) then 1 else 0) =
      (allLanes.countP fun i => p (f i)) + if p y then 1 else 0 := by
  have hcount : ∀ ls : List LaneId, ls.Nodup → l ∈ ls →
      (ls.countP fun i => p (Function.update f l y i)) + (if p (f l) then 1 else 0) =
        (ls.countP fun i => p (f i)) + if p y then 1 else 0 := by
    intro ls
    induction ls with
    | nil => exact fun _ hm => absurd hm List.not_mem_nil
    | cons i ls ih =>
      intro hnd hm
      obtain ⟨hi, hnd⟩ := List.nodup_cons.mp hnd
      rw [List.countP_cons, List.countP_cons]
      by_cases he : l = i
      · subst he
        have hsame : (ls.countP fun i => p (Function.update f l y i)) = ls.countP fun i => p (f i) :=
          List.countP_congr fun j hj => by
            have hjl : j ≠ l := fun e => hi (e ▸ hj)
            rw [Function.update_of_ne hjl]
        rw [hsame, Function.update_self]
        omega
      · have := ih hnd ((List.mem_cons.mp hm).resolve_left he)
        rw [Function.update_of_ne (Ne.symm he)]
        omega
  exact hcount allLanes (List.nodup_finRange 8) (List.mem_finRange l)

/-! ## The entries of the campaign -/

/-- The entries with circuit `c`'s status changed. -/
def restated (es : List CaptureEntry) (c : Nat) (st : EntryStatus) : List CaptureEntry :=
  es.map fun e => if e.circuit = c then { e with status := st } else e

theorem restated_circuits (es : List CaptureEntry) (c : Nat) (st : EntryStatus) :
    (restated es c st).map (·.circuit) = es.map (·.circuit) := by
  unfold restated
  refine List.map_map.trans (List.map_congr_left fun e _ => ?_)
  rw [Function.comp_apply]
  split <;> rfl

theorem find_restated (es : List CaptureEntry) (c x : Nat) (st : EntryStatus) :
    (((restated es c st).find? fun e => e.circuit == x).map (·.status)) =
      if x = c then ((es.find? fun e => e.circuit == c).map (·.status)).map fun _ => st
      else (es.find? fun e => e.circuit == x).map (·.status) := by
  unfold restated
  induction es with
  | nil => simp
  | cons e es ih =>
    by_cases he : e.circuit = c
    · by_cases hx : x = c
      · subst hx
        simp [he]
      · have hne : e.circuit ≠ x := fun h => hx (h.symm.trans he)
        rw [if_neg hx] at ih ⊢
        rw [List.map_cons, if_pos he, List.find?_cons_of_neg (by simpa using hne),
          List.find?_cons_of_neg (by simpa using hne)]
        exact ih
    · rw [List.map_cons, if_neg he]
      by_cases hx : x = c
      · subst hx
        rw [if_pos rfl] at ih ⊢
        rw [List.find?_cons_of_neg (by simpa using he), List.find?_cons_of_neg (by simpa using he)]
        exact ih
      · rw [if_neg hx] at ih ⊢
        by_cases hex : e.circuit = x
        · rw [List.find?_cons_of_pos (by simpa using hex), List.find?_cons_of_pos (by simpa using hex)]
        · rw [List.find?_cons_of_neg (by simpa using hex), List.find?_cons_of_neg (by simpa using hex)]
          exact ih

namespace Visible

variable {k k' : Visible} {d d' : Slack} {c : Nat} {l : LaneId}

theorem status_restated_other {st : EntryStatus} {x : Nat} (hx : x ≠ c) (he : k'.entries = restated k.entries c st) :
    (k'.view x).status = (k.view x).status := by
  show (k'.entries.find? _).map _ = _
  rw [he, find_restated, if_neg hx]
  rfl

theorem status_restated_self {st old : EntryStatus} (hold : (k.view c).status = some old)
    (he : k'.entries = restated k.entries c st) : (k'.view c).status = some st := by
  have hold' : (k.entries.find? fun e => e.circuit == c).map (·.status) = some old := hold
  show (k'.entries.find? _).map _ = _
  rw [he, find_restated, if_pos rfl, hold']
  rfl

/-- The entry of a circuit stands in the list. -/
theorem mem_of_status {st : EntryStatus} (h : (k.view c).status = some st) : ⟨c, st⟩ ∈ k.entries := by
  obtain ⟨e, he, rfl⟩ := Option.map_eq_some_iff.mp h
  have hc : e.circuit = c := beq_iff_eq.mp (List.find?_some (p := fun e : CaptureEntry => e.circuit == c) he)
  subst hc
  exact List.mem_of_find?_eq_some he

/-- A campaign with an unfinished entry is in progress. -/
theorem Linked.active (h : k.Linked d) {st : EntryStatus} (hs : (k.view c).status = some st) (hf : st.isFinished = false) :
    k.idle = false ∧ k.captureDone = 1 := by
  have hidle : k.idle = false := by
    rw [h.whole.idle]
    refine Bool.eq_false_iff.mpr fun hall => ?_
    have := List.all_eq_true.mp hall _ (mem_of_status hs)
    rw [hf] at this
    cases this
  exact ⟨hidle, by rw [h.whole.captureDone, hidle]; rfl⟩

/-- The entries with one status that is not a result are not all finished. -/
theorem all_restated {st old : EntryStatus} (hold : (k.view c).status = some old) (hst : st.isFinished = false) :
    (restated k.entries c st).all (fun e => e.status.isFinished) = false := by
  refine Bool.eq_false_iff.mpr fun hall => ?_
  have hm : (⟨c, st⟩ : CaptureEntry) ∈ restated k.entries c st :=
    List.mem_map.mpr ⟨_, mem_of_status hold, if_pos rfl⟩
  have := List.all_eq_true.mp hall _ hm
  rw [hst] at this
  cases this

/-- The campaign ends where every entry has a result. -/
def conclude (k : Visible) : Visible :=
  if k.entries.all fun e => e.status.isFinished then { k with idle := true, captureDone := k.captureDone - 1 } else k

theorem conclude_cases (k : Visible) :
    (k.entries.all (fun e => e.status.isFinished) = true ∧
        k.conclude = { k with idle := true, captureDone := k.captureDone - 1 }) ∨
      (k.entries.all (fun e => e.status.isFinished) = false ∧ k.conclude = k) := by
  unfold conclude
  cases h : k.entries.all fun e => e.status.isFinished with
  | true => exact .inl ⟨rfl, if_pos rfl⟩
  | false => exact .inr ⟨rfl, if_neg nofun⟩

theorem conclude_view (k : Visible) (x : Nat) : k.conclude.view x = k.view x := by
  unfold conclude
  split <;> rfl

theorem conclude_lanes (k : Visible) (j : LaneId) : k.conclude.lanes j = k.lanes j := by
  unfold conclude
  split <;> rfl

/-- The lists of a campaign in progress, concluded. -/
theorem Whole.conclude {n : Nat} (hidle : k.idle = false) (hdone : k.captureDone = 1)
    (h : ∀ i : Bool, i = k.entries.all (fun e => e.status.isFinished) →
      ({ k with idle := i, captureDone := if i then 0 else 1 } : Visible).Whole n) : k.conclude.Whole n := by
  obtain ⟨hall, he⟩ | ⟨hall, he⟩ := k.conclude_cases
  · have := h true hall.symm
    rw [he, hdone]
    exact this
  · have := h false hall.symm
    rw [he]
    obtain ⟨running, slot, circuits, windows, records, queued, lanes, entries, handOff, commits, idle, verdicts, summaries,
      captureDone, profileApplied, pending⟩ := k
    dsimp only at hidle hdone
    subst hidle hdone
    exact this

/-! ## Frames -/

/-- The lanes as a circuit sees them that lane `l` works for neither before nor after. -/
theorem lanes_other {y : LaneShare} {x : Nat} (hx : x ≠ c) (hold : (k.lanes l).OnlyFor c) (hnew : y.OnlyFor c) :
    (∀ j, (Function.update k.lanes l y j).grant = some x ↔ (k.lanes j).grant = some x) ∧
      ∀ j, (Function.update k.lanes l y j).capture = some x ↔ (k.lanes j).capture = some x := by
  refine ⟨fun j => ?_, fun j => ?_⟩
  · by_cases hj : j = l
    · subst hj
      rw [Function.update_self]
      exact ⟨fun h => absurd (hnew.1 x h) hx, fun h => absurd (hold.1 x h) hx⟩
    · rw [Function.update_of_ne hj]
  · by_cases hj : j = l
    · subst hj
      rw [Function.update_self]
      exact ⟨fun h => absurd (hnew.2 x h) hx, fun h => absurd (hold.2 x h) hx⟩
    · rw [Function.update_of_ne hj]

theorem lanes_ok {y : LaneShare} (h : k.Linked d) (hy : y.Ok) (j : LaneId) : (Function.update k.lanes l y j).Ok := by
  by_cases hj : j = l
  · subst hj
    rwa [Function.update_self]
  · rw [Function.update_of_ne hj]
    exact h.lanes j

theorem count_filter_other {q : List Nat} {x : Nat} (hx : x ≠ c) : (q.filter (· != c)).count x = q.count x := by
  rw [List.count_filter]
  simpa using hx

theorem count_filter_self (q : List Nat) : (q.filter (· != c)).count c = 0 := by
  rw [List.count_eq_zero]
  intro h
  simpa using (List.mem_filter.mp h).2

theorem count_append_other {q : List Nat} {x : Nat} (hx : x ≠ c) : (q ++ [c]).count x = q.count x := by
  rw [List.count_append, List.count_singleton]
  simp [Ne.symm hx]

theorem count_append_self (q : List Nat) : (q ++ [c]).count c = q.count c + 1 := by
  rw [List.count_append, List.count_singleton]
  simp

end Visible

end Sys2Proof.Machine


/-! # Where a circuit stands after a change -/

namespace Sys2Proof.Machine

namespace Visible

variable {k k' : Visible} {d d' : Slack} {c : Nat} {l : LaneId} {r : Circuit}

theorem view_record (hr : k'.circuits c = r) :
    k'.view c = { k'.view c with record := r, crossed := k'.windowsOver r.spans } := by
  unfold view
  rw [hr]

/-- What a change of a circuit leaves of its own agreement: the definition, and the sum of its holds. -/
structure Turns (d d' : Slack) (k k' : Visible) (c : Nat) (r : Circuit) : Prop where
  record : k'.circuits c = r
  definition : r.definition = (k.circuits c).definition
  windows : k'.windows = k.windows
  running : k'.running = true
  holds : r.holds + d'.short c + d.extra c = (k.circuits c).holds + d.short c + d'.extra c

theorem Turns.view (t : Turns d d' k k' c r) :
    k'.view c = { k'.view c with record := r, crossed := k.windowsOver (k.circuits c).spans } := by
  have hspans : r.spans = (k.circuits c).spans := by
    unfold Circuit.spans
    rw [t.definition]
  have hwindows : k'.windowsOver r.spans = k.windowsOver (k.circuits c).spans := by
    unfold windowsOver
    rw [t.windows, hspans]
  rw [view_record t.record, hwindows]

theorem Turns.holds_ok (t : Turns d d' k k' c r) (h : k.Linked d) :
    r.holds + d'.short c = k.windowsOver (k.circuits c).spans + d'.extra c := by
  have hold : (k.circuits c).holds + d.short c = k.windowsOver (k.circuits c).spans + d.extra c := (h.views c).holds
  have := t.holds
  omega

theorem Turns.defined (t : Turns d d' k k' c r) (h : k.Linked d) (hold : (k.circuits c).defined = true)
    (hr : r.defined = true) : r.definition.isSome = r.defined := by
  have hs : (k.circuits c).definition.isSome = (k.circuits c).defined := (h.views c).defined
  rw [t.definition, hs, hold, hr]

/-- The circuit has come to stand without work. -/
theorem Turns.out (t : Turns d d' k k' c r) (h : k.Linked d) (hold : (k.circuits c).defined = true)
    (hstate : r.state = .idle ∨ r.state = .held ∨ r.state = .pending) (hfits : CircuitView.holdsAs r)
    (hqueue : k'.queued.count c + d'.missing c = if r.state = .pending then 1 else 0)
    (hgranted : ∀ j, (k'.lanes j).grant ≠ some c) (hmeasured : ∀ j, (k'.lanes j).capture ≠ some c)
    (hstatus : (k'.view c).status.any EntryStatus.inFlight = false) (hcommits : k'.committing.count c = 0)
    (hslot : k'.slot ≠ some c) : (k'.view c).Ok (d'.short c) (d'.extra c) (d'.missing c) := by
  have hdefined : r.defined = true := by
    obtain hs | hs | hs := hstate <;> · unfold Circuit.defined; rw [hs]; rfl
  rw [t.view]
  refine .of_out (.inr t.running) (t.defined h hold hdefined) (t.holds_ok h) hfits hqueue
    ⟨fun j => beq_eq_false_iff_ne.mpr (hgranted j), fun j => beq_eq_false_iff_ne.mpr (hmeasured j), hstatus, hcommits⟩ ?_ ?_ ?_
  · exact fun hp => by rw [hp] at hstate; simp at hstate
  · exact fun hc => by rw [hc] at hstate; simp at hstate
  · exact fun hw => absurd (beq_iff_eq.mp hw) hslot

/-- The circuit has come to stand as the grant of lane `l`. -/
theorem Turns.granted (t : Turns d d' k k' c r) (h : k.Linked d) (hold : (k.circuits c).defined = true)
    (hstate : r.state = .probing) (hlane : (k.circuits c).lane = some l) (hzero : r.holds = 0)
    (hqueue : k'.queued.count c + d'.missing c = 0) (hgranted : ∀ j, (k'.lanes j).grant = some c ↔ j = l)
    (hmeasured : ∀ j, (k'.lanes j).capture ≠ some c)
    (hstatus : (k'.view c).status.any EntryStatus.inFlight = false) (hcommits : k'.committing.count c = 0)
    (hslot : k'.slot ≠ some c) : (k'.view c).Ok (d'.short c) (d'.extra c) (d'.missing c) := by
  have hdefined : r.defined = true := by
    unfold Circuit.defined
    rw [hstate]
    rfl
  have hrlane : r.lane = some l := by
    rw [← hlane]
    unfold Circuit.lane
    rw [t.definition]
  rw [t.view]
  exact .of_granted t.running (t.defined h hold hdefined) (t.holds_ok h) hzero hqueue
    ⟨fun j => beq_iff_eq.trans (hgranted j), fun j => beq_eq_false_iff_ne.mpr (hmeasured j), hstatus, hcommits⟩ hstate hrlane
    (beq_eq_false_iff_ne.mpr hslot)

/-- The circuit has come to stand as the capture of lane `l`. -/
theorem Turns.measured (t : Turns d d' k k' c r) (h : k.Linked d) (hold : (k.circuits c).defined = true)
    (hstate : r.state = .capturing) (hlane : (k.circuits c).lane = some l) (hzero : r.holds = 0)
    (hqueue : k'.queued.count c + d'.missing c = 0) (hgranted : ∀ j, (k'.lanes j).grant ≠ some c)
    (hmeasured : ∀ j, (k'.lanes j).capture = some c ↔ j = l)
    (hstatus : (k'.view c).status = some (.measuring l)) (hcommits : k'.committing.count c = 0)
    (hslot : k'.slot ≠ some c) : (k'.view c).Ok (d'.short c) (d'.extra c) (d'.missing c) := by
  have hdefined : r.defined = true := by
    unfold Circuit.defined
    rw [hstate]
    rfl
  have hrlane : r.lane = some l := by
    rw [← hlane]
    unfold Circuit.lane
    rw [t.definition]
  rw [t.view]
  exact .of_measured t.running (t.defined h hold hdefined) (t.holds_ok h) hzero hqueue
    ⟨fun j => beq_eq_false_iff_ne.mpr (hgranted j), fun j => beq_iff_eq.trans (hmeasured j), hstatus, hcommits⟩ hstate hrlane
    (beq_eq_false_iff_ne.mpr hslot)

/-- The circuit has come to stand, or still stands, in the commit phase of its capture. -/
theorem Turns.committing (t : Turns d d' k k' c r) (h : k.Linked d) (hold : (k.circuits c).defined = true)
    (hstate : r.state = .capturing) (hqueue : k'.queued.count c + d'.missing c = 0)
    (hgranted : ∀ j, (k'.lanes j).grant ≠ some c) (hmeasured : ∀ j, (k'.lanes j).capture ≠ some c)
    (hstatus : ∃ j, (k'.view c).status = some (.committing j)) (hcommits : k'.committing.count c = 1)
    (hslot : k'.slot ≠ some c) : (k'.view c).Ok (d'.short c) (d'.extra c) (d'.missing c) := by
  have hdefined : r.defined = true := by
    unfold Circuit.defined
    rw [hstate]
    rfl
  rw [t.view]
  exact .of_committing t.running (t.defined h hold hdefined) (t.holds_ok h) hqueue
    ⟨fun j => beq_eq_false_iff_ne.mpr (hgranted j), fun j => beq_eq_false_iff_ne.mpr (hmeasured j), hstatus, hcommits⟩ hstate
    (beq_eq_false_iff_ne.mpr hslot)

/-! ## Where a circuit stands before a change -/

/-- A circuit without work. -/
theorem Linked.stands_out (h : k.Linked d) (hs : (k.circuits c).state = .idle ∨ (k.circuits c).state = .held ∨
    (k.circuits c).state = .pending) :
    k.running = true ∧ (k.circuits c).defined = true ∧ (∀ j, (k.lanes j).grant ≠ some c) ∧
      (∀ j, (k.lanes j).capture ≠ some c) ∧ (k.view c).status.any EntryStatus.inFlight = false ∧
      k.committing.count c = 0 := by
  have hok := h.views c
  obtain ⟨hg, hm, hstatus, hcommits⟩ := hok.out
    (fun hp => by rw [show (k.circuits c).state = _ from hp] at hs; simp at hs)
    (fun hc => by rw [show (k.circuits c).state = _ from hc] at hs; simp at hs)
  have hnonempty : (k.circuits c).state ≠ .empty := fun he => by rw [he] at hs; simp at hs
  refine ⟨hok.runs hnonempty, ?_, fun j => beq_eq_false_iff_ne.mp (hg j), fun j => beq_eq_false_iff_ne.mp (hm j), hstatus,
    hcommits⟩
  obtain hs | hs | hs := hs <;> · unfold Circuit.defined; rw [hs]; rfl

/-- A circuit whose lane has its grant. -/
theorem Linked.stands_granted (h : k.Linked d) (hg : (k.lanes l).grant = some c) :
    k.running = true ∧ (k.circuits c).defined = true ∧ (k.circuits c).state = .probing ∧ (k.circuits c).lane = some l ∧
      (k.circuits c).holds = 0 ∧ k.queued.count c + d.missing c = 0 ∧ (∀ j, (k.lanes j).grant = some c ↔ j = l) ∧
      (∀ j, (k.lanes j).capture ≠ some c) ∧ (k.view c).status.any EntryStatus.inFlight = false ∧
      k.committing.count c = 0 ∧ k.slot ≠ some c := by
  have hok := h.views c
  obtain ⟨hp, hl⟩ := (hok.granted l).mp (beq_iff_eq.mpr hg)
  have hp' : (k.circuits c).state = .probing := hp
  obtain ⟨hgranted, hm, hstatus, hcommits⟩ := hok.granted_lane hp hl
  have hzero := hok.fits
  rw [hp] at hzero
  have hqueue := hok.queue
  rw [hp] at hqueue
  refine ⟨hok.runs (by rw [hp]; nofun), ?_, hp, hl, hzero, hqueue, fun j => beq_iff_eq.symm.trans (hgranted j),
    fun j => beq_eq_false_iff_ne.mp (hm j), hstatus, hcommits,
    beq_eq_false_iff_ne.mp (hok.not_waiting (by rw [hp]; nofun))⟩
  unfold Circuit.defined
  rw [hp']
  rfl

/-- A circuit whose capture is in its measuring phase. -/
theorem Linked.stands_measured (h : k.Linked d) (hs : (k.view c).status = some (.measuring l)) :
    k.running = true ∧ (k.circuits c).defined = true ∧ (k.circuits c).state = .capturing ∧ (k.circuits c).lane = some l ∧
      (k.circuits c).holds = 0 ∧ k.queued.count c + d.missing c = 0 ∧ (∀ j, (k.lanes j).grant ≠ some c) ∧
      (∀ j, (k.lanes j).capture = some c ↔ j = l) ∧ k.committing.count c = 0 ∧ k.slot ≠ some c := by
  have hok := h.views c
  obtain ⟨⟨hg, hm, -, hcommits⟩, hc, hl, hzero⟩ := hok.measured_lane hs
  have hc' : (k.circuits c).state = .capturing := hc
  have hqueue := hok.queue
  rw [hc] at hqueue
  refine ⟨hok.runs (by rw [hc]; nofun), ?_, hc, hl, hzero, hqueue, fun j => beq_eq_false_iff_ne.mp (hg j),
    fun j => beq_iff_eq.symm.trans (hm j), hcommits, beq_eq_false_iff_ne.mp (hok.not_waiting (by rw [hc]; nofun))⟩
  unfold Circuit.defined
  rw [hc']
  rfl

/-- A circuit whose capture is in its commit phase. -/
theorem Linked.stands_committing (h : k.Linked d) (hs : (k.view c).status.any EntryStatus.isCommitting = true) :
    k.running = true ∧ (k.circuits c).defined = true ∧ (k.circuits c).state = .capturing ∧
      k.queued.count c + d.missing c = 0 ∧ (∀ j, (k.lanes j).grant ≠ some c) ∧ (∀ j, (k.lanes j).capture ≠ some c) ∧
      (∃ j, (k.view c).status = some (.committing j)) ∧ k.committing.count c = 1 ∧ k.slot ≠ some c := by
  have hok := h.views c
  obtain ⟨⟨hg, hm, hstatus, hcommits⟩, hc⟩ := hok.committing hs
  have hc' : (k.circuits c).state = .capturing := hc
  have hqueue := hok.queue
  rw [hc] at hqueue
  refine ⟨hok.runs (by rw [hc]; nofun), ?_, hc, hqueue, fun j => beq_eq_false_iff_ne.mp (hg j),
    fun j => beq_eq_false_iff_ne.mp (hm j), hstatus, hcommits,
    beq_eq_false_iff_ne.mp (hok.not_waiting (by rw [hc]; nofun))⟩
  unfold Circuit.defined
  rw [hc']
  rfl

/-- A capturing circuit is in one of the two phases. -/
theorem Linked.capturing_cases (h : k.Linked d) (hs : (k.circuits c).state = .capturing) :
    (∃ j, (k.view c).status = some (.measuring j)) ∨ (k.view c).status.any EntryStatus.isCommitting = true := by
  have hflight := (h.views c).flight
  rw [show (k.view c).record.state = _ from hs, CircuitView.any_inFlight, beq_self_eq_true, Bool.or_eq_true] at hflight
  exact hflight.imp_left (CircuitView.any_isMeasuring_iff _).mp

end Visible

end Sys2Proof.Machine


/-! # The steps of a circuit that keep the agreement -/

namespace Sys2Proof.Machine

namespace Visible

variable {k k' : Visible} {d d' : Slack} {c : Nat} {l : LaneId} {r : Circuit} {y : LaneShare} {q : List Nat}

/-! ## The changes -/

def setRecord (k : Visible) (c : Nat) (r : Circuit) : Visible := { k with circuits := Function.update k.circuits c r }

def setLane (k : Visible) (l : LaneId) (y : LaneShare) : Visible := { k with lanes := Function.update k.lanes l y }

def setStatus (k : Visible) (c : Nat) (st : EntryStatus) : Visible := { k with entries := restated k.entries c st }

def setQueue (k : Visible) (q : List Nat) : Visible := { k with queued := q }

/-- A queue that differs in one circuit alone. -/
def QueueFor (k : Visible) (c : Nat) (q : List Nat) : Prop := ∀ x, x ≠ c → q.count x = k.queued.count x

theorem queueFor_append (k : Visible) (c : Nat) : k.QueueFor c (k.queued ++ [c]) := fun _ hx => count_append_other hx

theorem queueFor_filter (k : Visible) (c : Nat) : k.QueueFor c (k.queued.filter (· != c)) := fun _ hx => count_filter_other hx

theorem queueFor_cons (k : Visible) (c : Nat) : k.QueueFor c (c :: k.queued) := fun _ hx => List.count_cons_of_ne (Ne.symm hx)

theorem queueFor_same (k : Visible) (c : Nat) : k.QueueFor c k.queued := fun _ _ => rfl

/-- A circuit that a change of another circuit's record, entry in the queue, lane and capture does not concern. -/
theorem view_other {x : Nat} {st : EntryStatus} (hx : x ≠ c) (hq : k.QueueFor c q) (hold : (k.lanes l).OnlyFor c)
    (hnew : y.OnlyFor c) : ((((k.setRecord c r).setQueue q).setLane l y).setStatus c st).view x = k.view x := by
  obtain ⟨hg, hm⟩ := lanes_other (k := k) hx hold hnew
  exact view_eq (hrecord := Function.update_of_ne hx _ _) (hqueued := hq x hx) (hgranted := hg) (hmeasured := hm)
    (hstatus := status_restated_other (k := k) hx rfl)

theorem view_other_quiet {x : Nat} (hx : x ≠ c) (hq : k.QueueFor c q) (hold : (k.lanes l).OnlyFor c)
    (hnew : y.OnlyFor c) : (((k.setRecord c r).setQueue q).setLane l y).view x = k.view x := by
  obtain ⟨hg, hm⟩ := lanes_other (k := k) hx hold hnew
  exact view_eq (hrecord := Function.update_of_ne hx _ _) (hqueued := hq x hx) (hgranted := hg) (hmeasured := hm)

theorem view_other_queue {x : Nat} (hx : x ≠ c) (hq : k.QueueFor c q) :
    ((k.setRecord c r).setQueue q).view x = k.view x :=
  view_eq (hrecord := Function.update_of_ne hx _ _) (hqueued := hq x hx)

/-! ## Records alone -/

/-- A record that says the same of state, holds and definition. -/
theorem Linked.retouch (h : k.Linked d) (hstate : r.state = (k.circuits c).state) (hholds : r.holds = (k.circuits c).holds)
    (hdef : r.definition = (k.circuits c).definition) (hlive : r = {} ∨ k.running = true)
    (hslot : k.slot = some c → r.changing = true) : (k.setRecord c r).Linked d := by
  refine h.change_same (k' := k.setRecord c r) c (fun x hx => view_eq (hrecord := Function.update_of_ne hx _ _)) ?_ h.lanes
    { h.whole with }
  have hok := h.views c
  have hspans : r.spans = (k.circuits c).spans := by
    unfold Circuit.spans
    rw [hdef]
  rw [view_record (k' := k.setRecord c r) (r := r) (Function.update_self ..)]
  refine ⟨hlive, ?_, ?_, ?_, ?_, fun j => ?_, hok.measured, fun j hs => ?_, ?_, hok.commits, fun hw => ?_⟩
  · have := hok.defined
    show r.definition.isSome = r.defined
    unfold Circuit.defined at this ⊢
    rw [hdef, hstate]
    exact this
  · have := hok.holds
    show r.holds + _ = k.windowsOver r.spans + _
    rw [hholds, hspans]
    exact this
  · have := hok.fits
    show match r.state with
      | .held => 1 ≤ r.holds
      | .idle | .pending | .probing => r.holds = 0
      | .capturing => (k.view c).status.any EntryStatus.isMeasuring = true → r.holds = 0
      | .empty | .unreadable => True
    rw [hstate, hholds]
    exact this
  · have := hok.queue
    show k.queued.count c + _ = if r.state = .pending then 1 else 0
    rw [hstate]
    exact this
  · have hlane : r.lane = (k.circuits c).lane := by
      unfold Circuit.lane
      rw [hdef]
    show _ ↔ r.state = .probing ∧ r.lane = some j
    rw [hstate, hlane]
    exact hok.granted j
  · have hlane : r.lane = (k.circuits c).lane := by
      unfold Circuit.lane
      rw [hdef]
    show r.lane = some j
    rw [hlane]
    exact hok.onLane j hs
  · have := hok.flight
    show _ = (r.state == .capturing)
    rw [hstate]
    exact this
  · have := hok.waiting hw
    exact ⟨hslot (beq_iff_eq.mp hw), by show r.state.changeRefusal = none; rw [hstate]; exact this.2⟩

/-! ## The queue -/

/-- A circuit without work stands otherwise, with its entry in the queue where it is PENDING (R6, R7, R31, R48). -/
theorem Linked.restand (h : k.Linked d) (hq : k.QueueFor c q)
    (hold : (k.circuits c).state = .idle ∨ (k.circuits c).state = .held ∨ (k.circuits c).state = .pending)
    (hdef : r.definition = (k.circuits c).definition)
    (hholds : r.holds + d'.short c + d.extra c = (k.circuits c).holds + d.short c + d'.extra c)
    (hstate : r.state = .idle ∨ r.state = .held ∨ r.state = .pending) (hfits : CircuitView.holdsAs r)
    (hqueue : q.count c + d'.missing c = if r.state = .pending then 1 else 0) (hslot : k.slot ≠ some c)
    (hshort : ∀ x, x ≠ c → d'.short x = d.short x) (hextra : ∀ x, x ≠ c → d'.extra x = d.extra x)
    (hmissing : ∀ x, x ≠ c → d'.missing x = d.missing x) (hspare : d'.spare = d.spare) :
    ((k.setRecord c r).setQueue q).Linked d' := by
  obtain ⟨hrun, hdefined, hgranted, hmeasured, hstatus, hcommits⟩ := h.stands_out hold
  have ht : Turns d d' k ((k.setRecord c r).setQueue q) c r := ⟨Function.update_self .., hdef, rfl, hrun, hholds⟩
  exact h.change c (fun x hx => view_other_queue hx hq) hshort hextra hmissing
    (ht.out h hdefined hstate hfits hqueue hgranted hmeasured hstatus hcommits hslot) h.lanes
    (hspare ▸ { h.whole with })

/-! ## Verifications -/

/-- A PENDING circuit is granted to a free lane (R57). -/
theorem Linked.grant (h : k.Linked d) (hold : (k.circuits c).state = .pending) (hlane : (k.circuits c).lane = some l)
    (hfree : (k.lanes l).Free) (hmissing : d.missing c = 0) :
    ({ ((k.setRecord c { k.circuits c with state := .probing }).setQueue (k.queued.filter (· != c))).setLane l
        ⟨some c, none, .verification c, true⟩ with verdicts := k.verdicts + 1 } : Visible).Linked d := by
  obtain ⟨hrun, hdefined, hgranted, hmeasured, hstatus, hcommits⟩ := h.stands_out (.inr (.inr hold))
  have hzero : (k.circuits c).holds = 0 := (h.views c).holds_as.2 (.inr hold)
  have hok : (⟨some c, none, .verification c, true⟩ : LaneShare).Ok :=
    ⟨fun x hx => ⟨by rw [Option.some.inj hx], rfl, rfl⟩, fun x hx => by rw [Work.verification.inj hx],
      fun _ hx => (nomatch hx), fun _ hx => (nomatch hx)⟩
  have honly : (⟨some c, none, .verification c, true⟩ : LaneShare).OnlyFor c := hok.onlyFor_grant rfl
  refine h.change_same c (fun x hx => view_other_quiet hx (k.queueFor_filter c) (hfree.onlyFor c) honly) ?_
    (fun j => lanes_ok h hok j) { h.whole with verdicts := ?_ }
  · refine Turns.granted (d := d) (d' := d) (l := l) ⟨Function.update_self .., rfl, rfl, hrun, rfl⟩ h hdefined rfl hlane hzero ?_
      (fun j => ?_) (fun j => ?_) hstatus hcommits ?_
    · rw [hmissing]
      exact count_filter_self k.queued
    · show (Function.update k.lanes l _ j).grant = some c ↔ _
      by_cases hj : j = l
      · subst hj
        simp
      · rw [Function.update_of_ne hj]
        exact ⟨fun hg => absurd hg (hgranted j), fun he => absurd he hj⟩
    · show (Function.update k.lanes l _ j).capture ≠ some c
      by_cases hj : j = l
      · subst hj
        simp
      · rw [Function.update_of_ne hj]
        exact hmeasured j
    · exact beq_eq_false_iff_ne.mp ((h.views c).not_waiting (by
        rw [show (k.view c).record.state = _ from hold]
        nofun))
  · have hcount := countP_update (p := fun z => z.grant.isSome) k.lanes l ⟨some c, none, .verification c, true⟩
    rw [hfree.1] at hcount
    have := h.whole.verdicts
    simp only [Option.isSome_none, Option.isSome_some, Bool.false_eq_true, if_true, if_false] at hcount
    show k.verdicts + 1 = allLanes.countP fun j => (Function.update k.lanes l _ j).grant.isSome
    omega

/-- A grant ends: its lane has no work for it, its reservation is gone, and its circuit stands without work (R6, R61, R64). -/
theorem Linked.ungrant (h : k.Linked d) (hg : (k.lanes l).grant = some c) (hy : y.Ok) (hyfree : y.Free) (hq : k.QueueFor c q)
    (hdef : r.definition = (k.circuits c).definition)
    (hholds : r.holds + d'.short c + d.extra c = (k.circuits c).holds + d.short c + d'.extra c)
    (hstate : r.state = .idle ∨ r.state = .held ∨ r.state = .pending) (hfits : CircuitView.holdsAs r)
    (hqueue : q.count c + d'.missing c = if r.state = .pending then 1 else 0)
    (hshort : ∀ x, x ≠ c → d'.short x = d.short x) (hextra : ∀ x, x ≠ c → d'.extra x = d.extra x)
    (hmissing : ∀ x, x ≠ c → d'.missing x = d.missing x) (hspare : d'.spare = d.spare) :
    ({ ((k.setRecord c r).setQueue q).setLane l y with verdicts := k.verdicts - 1 } : Visible).Linked d' := by
  obtain ⟨hrun, hdefined, -, -, -, -, hgranted, hmeasured, hstatus, hcommits, hslot⟩ := h.stands_granted hg
  have hbefore := (h.lanes l).onlyFor_grant hg
  refine h.change c (fun x hx => view_other_quiet hx hq hbefore (hyfree.onlyFor c)) hshort hextra hmissing ?_
    (fun j => lanes_ok h hy j) (hspare ▸ { h.whole with verdicts := ?_ })
  · refine Turns.out (d := d) ⟨Function.update_self .., hdef, rfl, hrun, hholds⟩ h hdefined hstate hfits hqueue (fun j => ?_)
      (fun j => ?_) hstatus hcommits hslot
    · show (Function.update k.lanes l y j).grant ≠ some c
      by_cases hj : j = l
      · subst hj
        rw [Function.update_self, hyfree.1]
        nofun
      · rw [Function.update_of_ne hj]
        exact fun he => hj ((hgranted j).mp he)
    · show (Function.update k.lanes l y j).capture ≠ some c
      by_cases hj : j = l
      · subst hj
        rw [Function.update_self, hyfree.2]
        nofun
      · rw [Function.update_of_ne hj]
        exact hmeasured j
  · have hcount := countP_update (p := fun z => z.grant.isSome) k.lanes l y
    rw [hg, hyfree.1] at hcount
    have := h.whole.verdicts
    simp only [Option.isSome_none, Option.isSome_some, Bool.false_eq_true, if_true, if_false] at hcount
    show k.verdicts - 1 = allLanes.countP fun j => (Function.update k.lanes l y j).grant.isSome
    omega

/-! ## Captures -/

theorem countP_same {f g : LaneId → LaneShare} (h : ∀ j, (f j).grant = (g j).grant) :
    (allLanes.countP fun j => (f j).grant.isSome) = allLanes.countP fun j => (g j).grant.isSome :=
  List.countP_congr fun j _ => by rw [h j]

/-- A lane that had no grant is given a record without one. -/
theorem grants_same (hold : (k.lanes l).grant = none) (hnew : y.grant = none) (j : LaneId) :
    (Function.update k.lanes l y j).grant = (k.lanes j).grant := by
  by_cases hj : j = l
  · subst hj
    rw [Function.update_self, hold, hnew]
  · rw [Function.update_of_ne hj]

/-- An IDLE circuit's capture is granted to a free lane (R128). -/
theorem Linked.measure (h : k.Linked d) (hold : (k.circuits c).state = .idle) (hlane : (k.circuits c).lane = some l)
    (hentry : (k.view c).status = some .unprocessed) (hfree : (k.lanes l).Free) (hslot : k.slot ≠ some c) :
    (((k.setRecord c { k.circuits c with state := .capturing }).setLane l ⟨none, some c, .capture c, true⟩).setStatus c
      (.measuring l)).Linked d := by
  obtain ⟨hrun, hdefined, hgranted, hmeasured, hstatus, hcommits⟩ := h.stands_out (.inl hold)
  have hzero : (k.circuits c).holds = 0 := (h.views c).holds_as.2 (.inl hold)
  have hqueue := (h.views c).queue
  rw [show (k.view c).record.state = _ from hold] at hqueue
  obtain ⟨hidle, hdone⟩ := h.active hentry rfl
  have hok : (⟨none, some c, .capture c, true⟩ : LaneShare).Ok :=
    ⟨fun _ hx => (nomatch hx), fun _ hx => (nomatch hx), fun x hx => ⟨by rw [Option.some.inj hx], rfl⟩,
      fun x hx => by rw [Work.capture.inj hx]⟩
  have honly : (⟨none, some c, .capture c, true⟩ : LaneShare).OnlyFor c := hok.onlyFor_capture rfl
  have hsame : ∀ j, (Function.update k.lanes l (⟨none, some c, .capture c, true⟩ : LaneShare) j).grant = (k.lanes j).grant :=
    grants_same hfree.1 rfl
  refine h.change_same c (fun x hx => view_other hx (k.queueFor_same c) (hfree.onlyFor c) honly) ?_
    (fun j => lanes_ok h hok j)
    { h.whole with nodup := ?_, idle := ?_, verdicts := h.whole.verdicts.trans (countP_same hsame).symm }
  · refine Turns.measured (d := d) (d' := d) (l := l) ⟨Function.update_self .., rfl, rfl, hrun, rfl⟩ h hdefined rfl hlane hzero
      hqueue (fun j => ?_) (fun j => ?_) (status_restated_self hentry rfl) hcommits hslot
    · show (Function.update k.lanes l _ j).grant ≠ some c
      rw [hsame j]
      exact hgranted j
    · show (Function.update k.lanes l _ j).capture = some c ↔ _
      by_cases hj : j = l
      · subst hj
        simp
      · rw [Function.update_of_ne hj]
        exact ⟨fun hm => absurd hm (hmeasured j), fun he => absurd he hj⟩
  · show ((restated k.entries c _).map (·.circuit)).Nodup
    rw [restated_circuits]
    exact h.whole.nodup
  · show k.idle = (restated k.entries c _).all _
    rw [hidle, all_restated hentry rfl]

/-- A change of one circuit that gives its entry a status, where the campaign may end. -/
theorem Linked.change_conclude (h : k.Linked d) (c : Nat) (hview : ∀ x, x ≠ c → k'.view x = k.view x)
    (hshort : ∀ x, x ≠ c → d'.short x = d.short x) (hextra : ∀ x, x ≠ c → d'.extra x = d.extra x)
    (hmissing : ∀ x, x ≠ c → d'.missing x = d.missing x)
    (hc : (k'.view c).Ok (d'.short c) (d'.extra c) (d'.missing c)) (hlanes : ∀ l, (k'.lanes l).Ok)
    (hidle : k'.idle = false) (hdone : k'.captureDone = 1)
    (hwhole : ∀ i : Bool, i = k'.entries.all (fun e => e.status.isFinished) →
      ({ k' with idle := i, captureDone := if i then 0 else 1 } : Visible).Whole d'.spare) : k'.conclude.Linked d' :=
  h.change c (fun x hx => (k'.conclude_view x).trans (hview x hx)) hshort hextra hmissing
    (by rw [conclude_view]; exact hc) (fun l => by rw [conclude_lanes]; exact hlanes l) (Whole.conclude hidle hdone hwhole)

/-- A capture's measuring phase ends: its lane has no work for it, its entry is UNPROCESSED or has a result, and its circuit
stands without work (R6, R129, R131, R136, R137). -/
theorem Linked.unmeasure {st : EntryStatus} (h : k.Linked d) (hm : (k.view c).status = some (.measuring l)) (hy : y.Ok)
    (hyfree : y.Free) (hst : st.inFlight = false) (hq : k.QueueFor c q) (hdef : r.definition = (k.circuits c).definition)
    (hholds : r.holds + d'.short c + d.extra c = (k.circuits c).holds + d.short c + d'.extra c)
    (hstate : r.state = .idle ∨ r.state = .held ∨ r.state = .pending) (hfits : CircuitView.holdsAs r)
    (hqueue : q.count c + d'.missing c = if r.state = .pending then 1 else 0)
    (hshort : ∀ x, x ≠ c → d'.short x = d.short x) (hextra : ∀ x, x ≠ c → d'.extra x = d.extra x)
    (hmissing : ∀ x, x ≠ c → d'.missing x = d.missing x) (hspare : d'.spare = d.spare) :
    ((((k.setRecord c r).setQueue q).setLane l y).setStatus c st).conclude.Linked d' := by
  obtain ⟨hrun, hdefined, -, -, -, -, hgranted, hmeasured, hcommits, hslot⟩ := h.stands_measured hm
  obtain ⟨hidle, hdone⟩ := h.active hm rfl
  have hcapture : (k.lanes l).capture = some c := (hmeasured l).mpr rfl
  have hsame : ∀ j, (Function.update k.lanes l y j).grant = (k.lanes j).grant :=
    grants_same ((h.lanes l).grant_none hcapture) hyfree.1
  refine h.change_conclude c (fun x hx => view_other hx hq ((h.lanes l).onlyFor_capture hcapture) (hyfree.onlyFor c)) hshort
    hextra hmissing ?_ (fun j => lanes_ok h hy j) hidle hdone fun i hi =>
      hspare ▸ { h.whole with
        nodup := ?_, idle := hi, verdicts := h.whole.verdicts.trans (countP_same hsame).symm, captureDone := rfl }
  · have hstatus := status_restated_self (k' := (((k.setRecord c r).setQueue q).setLane l y).setStatus c st) hm rfl
    refine Turns.out (d := d) ⟨Function.update_self .., hdef, rfl, hrun, hholds⟩ h hdefined hstate hfits hqueue (fun j => ?_)
      (fun j => ?_) (by rw [hstatus]; exact hst) hcommits hslot
    · show (Function.update k.lanes l y j).grant ≠ some c
      rw [hsame j]
      exact hgranted j
    · show (Function.update k.lanes l y j).capture ≠ some c
      by_cases hj : j = l
      · subst hj
        rw [Function.update_self, hyfree.2]
        nofun
      · rw [Function.update_of_ne hj]
        exact fun he => hj ((hmeasured j).mp he)
  · show ((restated k.entries c _).map (·.circuit)).Nodup
    rw [restated_circuits]
    exact h.whole.nodup

/-- A capture passes into its commit phase (R130). -/
theorem Linked.commit {j : LaneId} (h : k.Linked d) (hm : (k.view c).status = some (.measuring l)) (hy : y.Ok)
    (hyfree : y.Free) :
    ({ (k.setLane l y).setStatus c (.committing j) with handOff := k.handOff ++ [c] } : Visible).Linked d := by
  obtain ⟨hrun, hdefined, hstate, -, -, hqueue, hgranted, hmeasured, hcommits, hslot⟩ := h.stands_measured hm
  obtain ⟨hidle, hdone⟩ := h.active hm rfl
  have hcapture : (k.lanes l).capture = some c := (hmeasured l).mpr rfl
  have hsame : ∀ j, (Function.update k.lanes l y j).grant = (k.lanes j).grant :=
    grants_same ((h.lanes l).grant_none hcapture) hyfree.1
  have hcount : ∀ x, (k.handOff ++ [c] ++ committers k.commits).count x =
      k.committing.count x + if x = c then 1 else 0 := fun x => by
    unfold committing
    rw [List.count_append, List.count_append, List.count_append, List.count_singleton]
    by_cases hx : x = c
    · rw [if_pos hx, hx]
      simp only [beq_self_eq_true, if_true]
      omega
    · rw [if_neg hx, if_neg (by simpa using Ne.symm hx)]
      omega
  refine h.change_same c (fun x hx => ?_) ?_ (fun j => lanes_ok h hy j)
    { h.whole with nodup := ?_, idle := ?_, verdicts := h.whole.verdicts.trans (countP_same hsame).symm }
  · obtain ⟨hg, hme⟩ := lanes_other (k := k) hx ((h.lanes l).onlyFor_capture hcapture) (hyfree.onlyFor c)
    exact view_eq (hgranted := hg) (hmeasured := hme) (hstatus := status_restated_other (k := k) hx rfl)
      (hcommits := (hcount x).trans (by rw [if_neg hx]; rfl))
  · refine Turns.committing (d := d) (d' := d) (r := k.circuits c) ⟨rfl, rfl, rfl, hrun, rfl⟩ h hdefined hstate hqueue
      (fun i => ?_) (fun i => ?_) ⟨j, status_restated_self hm rfl⟩ ?_ hslot
    · show (Function.update k.lanes l y i).grant ≠ some c
      rw [hsame i]
      exact hgranted i
    · show (Function.update k.lanes l y i).capture ≠ some c
      by_cases hi : i = l
      · subst hi
        rw [Function.update_self, hyfree.2]
        nofun
      · rw [Function.update_of_ne hi]
        exact fun he => hi ((hmeasured i).mp he)
    · refine (hcount c).trans ?_
      rw [if_pos rfl, hcommits]
  · show ((restated k.entries c _).map (·.circuit)).Nodup
    rw [restated_circuits]
    exact h.whole.nodup
  · show k.idle = (restated k.entries c _).all _
    rw [hidle, all_restated hm rfl]

/-- A capture's commit phase ends: its baseline waits and is committed no more, its entry has a result, and its circuit stands
without work (R10, R132, R133). -/
theorem Linked.uncommit {res : CaptureResult} {ho : List Nat} {cs : List Commit} (h : k.Linked d)
    (hs : (k.view c).status.any EntryStatus.isCommitting = true)
    (hcount : ∀ x, ({ k with handOff := ho, commits := cs } : Visible).committing.count x + (if x = c then 1 else 0) =
      k.committing.count x)
    (hcs : ∀ x ∈ cs, x ∈ k.commits) (hq : k.QueueFor c q) (hdef : r.definition = (k.circuits c).definition)
    (hholds : r.holds = (k.circuits c).holds) (hstate : r.state = .idle ∨ r.state = .held ∨ r.state = .pending)
    (hfits : CircuitView.holdsAs r) (hqueue : q.count c + d.missing c = if r.state = .pending then 1 else 0) :
    ((({ k with handOff := ho, commits := cs } : Visible).setRecord c r).setQueue q |>.setStatus c (.finished res)).conclude.Linked
      d := by
  obtain ⟨hrun, hdefined, -, -, hgranted, hmeasured, ⟨j, hstatus⟩, hcommits, hslot⟩ := h.stands_committing hs
  obtain ⟨hidle, hdone⟩ := h.active hstatus rfl
  refine h.change_conclude c (fun x hx => ?_) (fun _ _ => rfl) (fun _ _ => rfl) (fun _ _ => rfl) ?_ h.lanes hidle hdone
    fun i hi => { h.whole with
      nodup := ?_, idle := hi, captureDone := rfl, writes := fun x hx => h.whole.writes x (hcs x hx) }
  · exact view_eq (hrecord := Function.update_of_ne hx _ _) (hqueued := hq x hx)
      (hstatus := status_restated_other (k := k) hx rfl) (hcommits := by have := hcount x; rw [if_neg hx] at this; exact this)
  · have hself := status_restated_self (k := k)
      (k' := ((({ k with handOff := ho, commits := cs } : Visible).setRecord c r).setQueue q).setStatus c (.finished res))
      hstatus rfl
    refine Turns.out (d := d) (d' := d) ⟨Function.update_self .., hdef, rfl, hrun, by rw [hholds]⟩ h hdefined hstate hfits hqueue
      hgranted hmeasured (by rw [hself]; rfl) ?_ hslot
    have := hcount c
    rw [if_pos rfl, hcommits] at this
    show ({ k with handOff := ho, commits := cs } : Visible).committing.count c = 0
    omega
  · show ((restated k.entries c _).map (·.circuit)).Nodup
    rw [restated_circuits]
    exact h.whole.nodup

/-- An UNPROCESSED entry is given a result (R126, R127, R136). -/
theorem Linked.finish {res : CaptureResult} (h : k.Linked d) (hs : (k.view c).status = some .unprocessed) :
    (k.setStatus c (.finished res)).conclude.Linked d := by
  obtain ⟨hidle, hdone⟩ := h.active hs rfl
  have hself := status_restated_self (k' := k.setStatus c (.finished res)) hs rfl
  refine h.change_conclude c (fun x hx => view_eq (hstatus := status_restated_other (k := k) hx rfl)) (fun _ _ => rfl)
    (fun _ _ => rfl) (fun _ _ => rfl) ?_ h.lanes hidle hdone fun i hi =>
      { h.whole with nodup := ?_, idle := hi, captureDone := rfl }
  · have hok := h.views c
    have hnone : (k.view c).commits = 0 := by
      rw [hok.commits, hs]
      rfl
    have hview : (k.setStatus c (.finished res)).view c =
        { k.view c with status := some (.finished res), commits := (k.view c).commits } := by
      rw [← hself]
      rfl
    rw [hview]
    exact hok.restatus (by rw [hs]; rfl) rfl hnone
  · show ((restated k.entries c _).map (·.circuit)).Nodup
    rw [restated_circuits]
    exact h.whole.nodup

end Visible

end Sys2Proof.Machine


/-! # What the operations of the state change of the agreement -/

namespace Sys2Proof.Machine

namespace Visible

/-- One reservation less. -/
def unreserve (k : Visible) : ReservedKind → Visible
  | .verdict => { k with verdicts := k.verdicts - 1 }
  | .summary => { k with summaries := k.summaries - 1 }
  | .captureDone => { k with captureDone := k.captureDone - 1 }
  | .profileApplied => { k with profileApplied := k.profileApplied - 1 }

/-- One reservation more. -/
def reserve (k : Visible) : ReservedKind → Visible
  | .verdict => { k with verdicts := k.verdicts + 1 }
  | .summary => { k with summaries := k.summaries + 1 }
  | .captureDone => { k with captureDone := k.captureDone + 1 }
  | .profileApplied => { k with profileApplied := k.profileApplied + 1 }

end Visible

section
variable {s t : State} {c : Nat} {l : LaneId}

/-! ## Records and lanes -/

theorem State.circuit_setCircuit (s : State) (c : Nat) (r : Circuit) :
    (s.setCircuit c r).circuit = Function.update s.circuit c r := by
  funext x
  by_cases hx : x = c
  · subst hx
    rw [Function.update_self, State.circuit_setCircuit_self]
  · rw [Function.update_of_ne hx, State.circuit_setCircuit_other s hx]

@[simp] theorem State.visible_setCircuit (s : State) (c : Nat) (r : Circuit) :
    (s.setCircuit c r).visible = s.visible.setRecord c r := by
  have h : (s.setCircuit c r).visible = { s.visible with circuits := (s.setCircuit c r).circuit } := rfl
  rw [h, s.circuit_setCircuit]
  rfl

@[simp] theorem State.visible_modifyCircuit (s : State) (c : Nat) (f : Circuit → Circuit) :
    (s.modifyCircuit c f).visible = s.visible.setRecord c (f (s.circuit c)) := s.visible_setCircuit c _

@[simp] theorem State.visible_setCircuitState (s : State) (c : Nat) (st : CircuitState) :
    (s.setCircuitState c st).visible = s.visible.setRecord c { s.circuit c with state := st } := s.visible_setCircuit c _

@[simp] theorem State.visible_setLane (s : State) (l : LaneId) (r : Lane) :
    (s.setLane l r).visible = s.visible.setLane l r.share := by
  have hlanes : (s.setLane l r).visible.lanes = Function.update s.visible.lanes l r.share := by
    funext j
    show ((s.setLane l r).lane j).share = _
    by_cases hj : j = l
    · subst hj
      rw [Function.update_self, State.lane_setLane_self]
    · rw [Function.update_of_ne hj, State.lane_setLane_other s hj]
      rfl
  have h : (s.setLane l r).visible = { s.visible with lanes := (s.setLane l r).visible.lanes } := rfl
  rw [h, hlanes]
  rfl

@[simp] theorem State.visible_modifyLane (s : State) (l : LaneId) (f : Lane → Lane) :
    (s.modifyLane l f).visible = s.visible.setLane l (f (s.lane l)).share := s.visible_setLane l _

/-- A lane whose share stays is seen as before. -/
theorem Visible.setLane_same {k : Visible} {y : LaneShare} (h : y = k.lanes l) : k.setLane l y = k := by
  unfold Visible.setLane
  rw [h, Function.update_eq_self]

theorem State.visible_modifyLane_same {f : Lane → Lane} (h : (f (s.lane l)).share = (s.lane l).share) :
    (s.modifyLane l f).visible = s.visible := by
  rw [s.visible_modifyLane]
  exact Visible.setLane_same h

/-! ## Looks, notices and replies -/

@[simp] theorem State.visible_lookAt (s : State) (l : LaneId) : (s.lookAt l).visible = s.visible := by
  obtain ⟨ls, h⟩ := s.lookAt_eq l
  rw [h]
  rfl

@[simp] theorem State.visible_lookAtCircuit (s : State) (c : Nat) : (s.lookAtCircuit c).visible = s.visible := by
  obtain ⟨ls, h⟩ := s.lookAtCircuit_eq c
  rw [h]
  rfl

@[simp] theorem State.visible_lookAtAll (s : State) : s.lookAtAll.visible = s.visible := by
  obtain ⟨ls, h⟩ := s.lookAtAll_eq
  rw [h]
  rfl

@[simp] theorem State.visible_lookAtWaiting (s : State) : s.lookAtWaiting.visible = s.visible := by
  obtain ⟨ls, h⟩ := s.lookAtWaiting_eq
  rw [h]
  rfl

@[simp] theorem State.visible_queueUnreserved (s : State) (n : Notice) : (s.queueUnreserved n).visible = s.visible := by
  obtain ⟨ns, discarded, h⟩ := State.queueUnreserved_eq (t := s) n
  rw [h]
  rfl

@[simp] theorem State.visible_reserve (s : State) (kind : ReservedKind) :
    (s.reserve kind).visible = s.visible.reserve kind := by cases kind <;> rfl

@[simp] theorem State.visible_returnReservation (s : State) (kind : ReservedKind) :
    (s.returnReservation kind).visible = s.visible.unreserve kind := by
  unfold State.returnReservation
  rw [State.visible_lookAtWaiting]
  cases kind <;> rfl

@[simp] theorem State.visible_queueReserved (s : State) (kind : ReservedKind) (n : Notice) :
    (s.queueReserved kind n).visible = s.visible.unreserve kind := by
  unfold State.queueReserved
  split
  · next h =>
    rw [State.visible_queueUnreserved]
    cases kind with
    | verdict =>
      have hz : s.reserved.verdict = 0 := h
      show s.visible = { s.visible with verdicts := s.reserved.verdict - 1 }
      rw [show s.reserved.verdict - 1 = s.reserved.verdict by omega]
      rfl
    | summary =>
      have hz : s.reserved.summary = 0 := h
      show s.visible = { s.visible with summaries := s.reserved.summary - 1 }
      rw [show s.reserved.summary - 1 = s.reserved.summary by omega]
      rfl
    | captureDone =>
      have hz : s.reserved.captureDone = 0 := h
      show s.visible = { s.visible with captureDone := s.reserved.captureDone - 1 }
      rw [show s.reserved.captureDone - 1 = s.reserved.captureDone by omega]
      rfl
    | profileApplied =>
      have hz : s.reserved.profileApplied = 0 := h
      show s.visible = { s.visible with profileApplied := s.reserved.profileApplied - 1 }
      rw [show s.reserved.profileApplied - 1 = s.reserved.profileApplied by omega]
      rfl
  · cases kind <;> rfl

/-! ## The queue -/

@[simp] theorem State.visible_appendEntry (s : State) (e : QueueEntry) :
    (s.appendEntry e).visible =
      (s.visible.setRecord e.circuit { s.circuit e.circuit with state := .pending }).setQueue
        (s.visible.queued ++ [e.circuit]) := by
  unfold State.appendEntry
  rw [State.visible_lookAtCircuit, State.visible_setCircuitState]
  have hq : (s.queue ++ [e]).map QueueEntry.circuit = s.visible.queued ++ [e.circuit] := List.map_append ..
  show { s.visible.setRecord e.circuit { s.circuit e.circuit with state := .pending } with
    queued := (s.queue ++ [e]).map QueueEntry.circuit } = _
  rw [hq]
  rfl

@[simp] theorem State.visible_putBack (s : State) (e : QueueEntry) :
    (s.putBack e).visible =
      (s.visible.setRecord e.circuit { s.circuit e.circuit with state := .pending }).setQueue
        (e.circuit :: s.visible.queued) := by
  unfold State.putBack
  rw [State.visible_lookAtCircuit, State.visible_setCircuitState]
  rfl

@[simp] theorem State.visible_dropEntry (s : State) (c : Nat) :
    (s.dropEntry c).visible = s.visible.setQueue (s.visible.queued.filter (· != c)) := by
  have hq : (s.queue.filter fun e => e.circuit != c).map (·.circuit) = s.visible.queued.filter (· != c) :=
    (List.filter_map (f := QueueEntry.circuit) (p := (· != c)) (l := s.queue)).symm
  exact congrArg s.visible.setQueue hq

@[simp] theorem State.visible_makeIdle (s : State) (c : Nat) :
    (s.makeIdle c).visible = s.visible.setRecord c { s.circuit c with state := .idle } := by
  unfold State.makeIdle
  dsimp only
  split
  · rw [State.visible_lookAtCircuit, State.visible_setCircuitState]
  · rw [State.visible_setCircuitState]

/-! ## The campaign -/

@[simp] theorem State.visible_setEntry (s : State) (c : Nat) (st : EntryStatus) :
    (s.setEntry c st).visible = s.visible.setStatus c st := rfl

theorem Campaign.followReasons_same (k : Campaign) :
    ∃ st, k.followReasons = { k with state := st } ∧ (st == .idle) = (k.state == .idle) := by
  unfold Campaign.followReasons
  split
  · next h =>
    refine ⟨_, rfl, ?_⟩
    rw [beq_eq_false_iff_ne.mpr h.1]
    split <;> rfl
  · exact ⟨k.state, rfl, rfl⟩

/-- The state that follows the reasons is seen as before. -/
theorem State.visible_followReasons {k : Campaign} (hentries : k.entries = s.campaign.entries)
    (hhandOff : k.handOff = s.campaign.handOff) (hidle : (k.state == .idle) = (s.campaign.state == .idle)) :
    State.visible { s with campaign := k.followReasons } = s.visible := by
  obtain ⟨st, h, hst⟩ := k.followReasons_same
  rw [h]
  show { s.visible with
    entries := k.entries, handOff := k.handOff.map HandOff.circuit, idle := st == CampaignState.idle } = _
  rw [hentries, hhandOff, hst, hidle]
  rfl

@[simp] theorem State.visible_endCampaign (s : State) :
    s.endCampaign.visible = { s.visible with idle := true, captureDone := s.visible.captureDone - 1 } := by
  unfold State.endCampaign
  dsimp only
  have hq := s.visible_queueReserved .captureDone (.captureDone s.campaign.entries.length s.campaign.resultCounts
    s.campaign.cancelled s.clock)
  exact congrArg (fun k : Visible => { k with idle := true }) hq

@[simp] theorem State.visible_finishEntry (s : State) (c : Nat) (r : CaptureResult) :
    (s.finishEntry c r).visible = (s.visible.setStatus c (.finished r)).conclude := by
  unfold State.finishEntry Visible.conclude
  dsimp only
  have hall : Campaign.allFinished { (s.setEntry c (.finished r)).campaign with progressOwed := false } =
      (s.visible.setStatus c (.finished r)).entries.all fun e => e.status.isFinished := rfl
  rw [hall]
  split
  · exact (State.visible_endCampaign _).trans rfl
  · split
    · exact State.visible_followReasons (s := s.setEntry c (.finished r)) rfl rfl rfl
    · exact State.visible_followReasons (s := s.setEntry c (.finished r)) rfl rfl rfl

@[simp] theorem State.visible_returnEntry (s : State) (c : Nat) :
    (s.returnEntry c).visible = s.visible.setStatus c .unprocessed := by
  unfold State.returnEntry
  rw [State.visible_lookAtCircuit]
  exact State.visible_followReasons (s := s.setEntry c .unprocessed) rfl rfl rfl

/-! ## Lanes without work -/

/-- A lane without work. -/
theorem LaneShare.ended_free (w : Bool) : (⟨none, none, .none, w⟩ : LaneShare).Free := ⟨rfl, rfl⟩

theorem LaneShare.ended_ok (w : Bool) : (⟨none, none, .none, w⟩ : LaneShare).Ok :=
  (LaneShare.ended_free w).ok nofun nofun

theorem Lane.stop_share (r : Lane) : ∃ w, r.stop.share = ⟨none, none, .none, w⟩ := by
  unfold Lane.stop
  split <;> exact ⟨_, rfl⟩

/-- The lane of a capture in its measuring phase is stopped. -/
theorem State.visible_stopCapture (h : (s.visible.view c).status = some (.measuring l)) :
    ∃ w, (s.stopCapture c).visible = s.visible.setLane l ⟨none, none, .none, w⟩ ∧
      (s.stopCapture c).circuit = s.circuit := by
  obtain ⟨w, hw⟩ := (s.lane l).stop_share
  refine ⟨w, ?_, ?_⟩
  · unfold State.stopCapture
    rw [(s.status_measuring_iff c l).mp h, ← hw]
    exact s.visible_modifyLane l Lane.stop
  · unfold State.stopCapture
    split <;> rfl

/-! ## Closure records -/

/-- A closure record is gone, and its reservation with it. -/
def Visible.dropRecord (k : Visible) (n : Nat) : Visible :=
  { k with records := k.records.filter (· != n), summaries := k.summaries - 1 }

/-- Counting in a closure record leaves the records, or discards the one counted in. -/
theorem State.visible_updateClosure {tag : Nat} {f : Closure → Closure} (hf : ∀ r, (f r).windowId = r.windowId) :
    (s.updateClosure tag f).visible = s.visible ∨
      (tag ∈ s.visible.records ∧ (s.updateClosure tag f).visible = s.visible.dropRecord tag) := by
  unfold State.updateClosure
  cases h : s.closures.find? fun r => r.windowId == tag with
  | none => exact .inl rfl
  | some r =>
    have hid : r.windowId = tag := State.windowId_of_find h
    have hmem : tag ∈ s.visible.records := List.mem_map.mpr ⟨r, List.mem_of_find?_eq_some h, hid⟩
    dsimp only
    split
    · refine .inr ⟨hmem, ?_⟩
      unfold State.queueSummary
      rw [State.visible_queueReserved]
      have hfilter : (s.closures.filter fun x => x.windowId != tag).map (·.windowId) = s.visible.records.filter (· != tag) :=
        (List.filter_map (f := Closure.windowId) (p := (· != tag)) (l := s.closures)).symm
      exact congrArg (fun rs => { s.visible with records := rs, summaries := s.visible.summaries - 1 }) hfilter
    · refine .inl ?_
      have hkept : (s.closures.map fun x => if x.windowId = tag then { f r with outstanding := r.outstanding - 1 } else x).map
          (·.windowId) = s.visible.records := by
        refine List.map_map.trans (List.map_congr_left fun x _ => ?_)
        rw [Function.comp_apply]
        split
        · next hx => exact (hf r).trans (hid.trans hx.symm)
        · rfl
      exact congrArg (fun rs => { s.visible with records := rs }) hkept

theorem Visible.Linked.dropRecord {k : Visible} {d : Slack} {n : Nat} (h : k.Linked d) (hn : n ∈ k.records) :
    (k.dropRecord n).Linked d := by
  have hnd : k.records.Nodup := (List.nodup_append.mp h.whole.ids).2.1
  have hlength : (k.records.filter (· != n)).length + 1 = k.records.length := by
    have hcount := List.length_eq_countP_add_countP (p := (· != n)) (l := k.records)
    have hone : k.records.countP (fun x => !(x != n)) = 1 := by
      have : (fun x : Nat => !(x != n)) = fun x => x == n := by
        funext x
        simp [bne]
      rw [this]
      exact List.count_eq_one_of_mem hnd hn
    rw [List.countP_eq_length_filter] at hcount
    have hone' : k.records.countP (fun x => decide ¬(x != n) = true) = 1 := by
      rw [← hone]
      congr 1
      funext x
      cases x != n <;> rfl
    omega
  have hsub : (k.records.filter (· != n)).Sublist k.records := List.filter_sublist
  refine h.keep (fun _ => rfl) h.lanes { h.whole with ids := ?_, summaries := ?_ }
  · exact h.whole.ids.sublist ((List.Sublist.refl _).append hsub)
  · have := h.whole.summaries
    show k.summaries - 1 = k.windows.length + (k.records.filter (· != n)).length + d.spare
    omega

end

end Sys2Proof.Machine


/-! # Verifications and captures keep the agreement -/

namespace Sys2Proof.Machine

section
variable {s t : State} {d d' : Slack} {c : Nat} {l : LaneId}

/-- What is seen alike agrees alike. -/
theorem State.Linked.of_visible (h : s.Linked d) (e : t.visible = s.visible) : t.Linked d := by
  unfold State.Linked
  rw [e]
  exact h

@[simp] theorem Visible.setRecord_setRecord (k : Visible) (c : Nat) (r r' : Circuit) :
    (k.setRecord c r).setRecord c r' = k.setRecord c r' := by
  unfold Visible.setRecord
  dsimp only
  rw [Function.update_idem]

@[simp] theorem Visible.conclude_setRecord (k : Visible) (c : Nat) (r : Circuit) :
    k.conclude.setRecord c r = (k.setRecord c r).conclude := by
  unfold Visible.conclude
  have he : (k.setRecord c r).entries = k.entries := rfl
  rw [he]
  split <;> rfl

@[simp] theorem Visible.conclude_setQueue (k : Visible) (q : List Nat) :
    k.conclude.setQueue q = (k.setQueue q).conclude := by
  unfold Visible.conclude
  have he : (k.setQueue q).entries = k.entries := rfl
  rw [he]
  split <;> rfl

@[simp] theorem Visible.conclude_queued (k : Visible) : k.conclude.queued = k.queued := by
  unfold Visible.conclude
  split <;> rfl

/-! ## The shares of lanes -/

theorem State.grant_share {g : Grant} (hg : (s.lane l).grant = some g) :
    (s.visible.lanes l).grant = some g.entry.circuit := by
  show (s.lane l).grant.map (·.entry.circuit) = _
  rw [hg]
  rfl

theorem State.capture_share {w : CaptureWork} (hw : (s.lane l).capture = some w) :
    (s.visible.lanes l).capture = some w.circuit := by
  show (s.lane l).capture.map (·.circuit) = _
  rw [hw]
  rfl

/-- A lane's capture is in its measuring phase. -/
theorem State.Linked.measuring (h : s.Linked d) {w : CaptureWork} (hw : (s.lane l).capture = some w) :
    (s.visible.view w.circuit).status = some (.measuring l) :=
  ((h.views w.circuit).measured l).mp (beq_iff_eq.mpr (State.capture_share hw))

/-- A lane that is ready for work is free (R54). -/
theorem State.Linked.ready_free (h : s.Linked d) (hr : (s.lane l).ready = true) : (s.visible.lanes l).Free := by
  have hok := h.lanes l
  simp only [Lane.ready, Lane.tunedAtEnd, Bool.or_eq_true, Bool.and_eq_true, beq_iff_eq] at hr
  obtain (hp | hf) | ⟨-, hn⟩ := hr
  · refine hok.free ?_
    show (s.lane l).working = false
    simp [Lane.working, hp]
  · refine hok.free ?_
    show (s.lane l).working = false
    simp [Lane.working, hf]
  · exact hok.free_of_none hn

/-- A lane whose new record says the same to the other blocks. -/
theorem State.Linked.modifyLane_same (h : s.Linked d) {f : Lane → Lane} (hf : (f (s.lane l)).share = (s.lane l).share) :
    (s.modifyLane l f).Linked d := h.of_visible (State.visible_modifyLane_same hf)

theorem Visible.Linked.setLane_free {k : Visible} {y : LaneShare} (h : k.Linked d) (hold : (k.lanes l).Free) (hy : y.Ok)
    (hnew : y.Free) : (k.setLane l y).Linked d := by
  have hsame : ∀ j, (Function.update k.lanes l y j).grant = (k.lanes j).grant := Visible.grants_same hold.1 hnew.1
  have hcapture : ∀ j, (Function.update k.lanes l y j).capture = (k.lanes j).capture := fun j => by
    by_cases hj : j = l
    · subst hj
      rw [Function.update_self, hold.2, hnew.2]
    · rw [Function.update_of_ne hj]
  refine h.keep (fun x => ?_) (fun j => Visible.lanes_ok h hy j)
    { h.whole with verdicts := h.whole.verdicts.trans (Visible.countP_same hsame).symm }
  refine Visible.view_eq (k' := k.setLane l y) (hgranted := fun j => ?_) (hmeasured := fun j => ?_)
  · exact Iff.of_eq (congrArg (· = some x) (hsame j))
  · exact Iff.of_eq (congrArg (· = some x) (hcapture j))

/-- A free lane takes a record of other work than a circuit's. -/
theorem State.Linked.modifyLane_free (h : s.Linked d) {f : Lane → Lane} (hold : (s.visible.lanes l).Free)
    (hy : (f (s.lane l)).share.Ok) (hnew : (f (s.lane l)).share.Free) : (s.modifyLane l f).Linked d := by
  show (s.modifyLane l f).visible.Linked d
  rw [State.visible_modifyLane]
  exact Visible.Linked.setLane_free h hold hy hnew

/-! ## Closure records -/

theorem State.Linked.updateClosure (h : s.Linked d) {tag : Nat} {f : Closure → Closure}
    (hf : ∀ r, (f r).windowId = r.windowId) : (s.updateClosure tag f).Linked d := by
  obtain he | ⟨hmem, he⟩ := s.visible_updateClosure (tag := tag) hf
  · exact h.of_visible he
  · show (s.updateClosure tag f).visible.Linked d
    rw [he]
    exact Visible.Linked.dropRecord h hmem

theorem State.Linked.countReHold (h : s.Linked d) (tag : Option Nat) : (s.countReHold tag).Linked d := by
  cases tag with
  | none => exact h
  | some n => exact h.updateClosure fun _ => rfl

/-- What a count in a closure record leaves to be seen. -/
theorem State.visible_countVerdict (s : State) (tag : Option Nat) (kind : VerdictKind) (spanEvent : Bool) :
    (s.countVerdict tag kind spanEvent).visible = s.visible ∨
      ∃ n ∈ s.visible.records, (s.countVerdict tag kind spanEvent).visible = s.visible.dropRecord n := by
  cases tag with
  | none => exact .inl rfl
  | some n =>
    obtain he | ⟨hmem, he⟩ := s.visible_updateClosure (tag := n) (f := fun c =>
      { c with counts := c.counts.bump kind, spanEvents := c.spanEvents + if spanEvent then 1 else 0 }) fun _ => rfl
    · exact .inl he
    · exact .inr ⟨n, hmem, he⟩

/-! ## Concluding a verification -/

/-- The record of a circuit with a new verdict. -/
def Circuit.concluded (r : Circuit) (v : Verdict) : Circuit := { r with lastVerdict := some v, state := .idle }

/-- The three steps of R116 as the blocks see them. -/
theorem State.visible_concludeVerdict (s : State) (c : Nat) (v : Verdict) :
    (s.concludeVerdict c v).visible = (s.visible.setRecord c ((s.circuit c).concluded v)).unreserve .verdict ∨
      ∃ n ∈ s.visible.records, (s.concludeVerdict c v).visible =
        ((s.visible.setRecord c ((s.circuit c).concluded v)).unreserve .verdict).dropRecord n := by
  let u := (s.modifyCircuit c fun r => { r with lastVerdict := some v }).makeIdle c
  have hu : u.visible = s.visible.setRecord c ((s.circuit c).concluded v) := by
    show State.visible (State.makeIdle _ c) = _
    rw [State.visible_makeIdle, State.visible_modifyCircuit, Visible.setRecord_setRecord, State.circuit_modifyCircuit_self]
    rfl
  have hlast : (s.concludeVerdict c v).visible =
      (u.countVerdict v.closureId v.kind v.qualifiers.spanEvent).visible.unreserve .verdict := by
    unfold State.concludeVerdict
    dsimp only
    split
    · exact State.visible_returnReservation _ _
    · exact State.visible_queueReserved _ _ _
  rw [hlast]
  obtain he | ⟨n, hn, he⟩ := u.visible_countVerdict v.closureId v.kind v.qualifiers.spanEvent
  · rw [he, hu]
    exact .inl rfl
  · rw [he, hu]
    rw [hu] at hn
    exact .inr ⟨n, hn, rfl⟩

theorem State.Linked.endGrant (h : s.Linked {}) {g : Grant} (hg : (s.lane l).grant = some g) (earlier : List Attempt)
    (last : Attempt) : (s.endGrant l g earlier last).Linked {} := by
  let v := s.verdictOf g.entry l earlier last
  let w := ((s.concludeVerdict g.entry.circuit v).lane l).working
  have hgrant := State.grant_share hg
  obtain ⟨-, -, -, -, hzero, hqueue, -⟩ := h.stands_granted hgrant
  have hungrant : ({ ((s.visible.setRecord g.entry.circuit ((s.circuit g.entry.circuit).concluded v)).setQueue
      s.visible.queued).setLane l ⟨none, none, .none, w⟩ with verdicts := s.visible.verdicts - 1 } : Visible).Linked {} :=
    Visible.Linked.ungrant h hgrant (LaneShare.ended_ok _) (LaneShare.ended_free _) (s.visible.queueFor_same _) rfl rfl
      (.inl rfl) ⟨nofun, fun _ => hzero⟩ hqueue (fun _ _ => rfl) (fun _ _ => rfl) (fun _ _ => rfl) rfl
  have hfinal : (s.endGrant l g earlier last).visible =
      (s.concludeVerdict g.entry.circuit v).visible.setLane l ⟨none, none, .none, w⟩ := by
    show State.visible (State.lookAt _ l) = _
    rw [State.visible_lookAt, State.visible_modifyLane]
    rfl
  show (s.endGrant l g earlier last).visible.Linked {}
  rw [hfinal]
  obtain he | ⟨n, hn, he⟩ := s.visible_concludeVerdict g.entry.circuit v
  · rw [he]
    exact hungrant
  · rw [he]
    exact Visible.Linked.dropRecord hungrant hn

end

end Sys2Proof.Machine


/-! # The arbiter keeps the agreement -/

namespace Sys2Proof.Machine

section
variable {s t : State} {d : Slack} {c : Nat} {l : LaneId}

/-! ## What the queue and the campaign say of a circuit -/

theorem State.Linked.pending_of_mem (h : s.Linked d) {e : QueueEntry} (he : e ∈ s.queue) :
    (s.circuit e.circuit).state = .pending := by
  have hqueue : (s.queue.map QueueEntry.circuit).count e.circuit + d.missing e.circuit =
      if (s.circuit e.circuit).state = .pending then 1 else 0 := (h.views e.circuit).queue
  have hcount : 0 < (s.queue.map QueueEntry.circuit).count e.circuit :=
    List.count_pos_iff.mpr (List.mem_map.mpr ⟨e, he, rfl⟩)
  by_contra hp
  rw [if_neg hp] at hqueue
  omega

/-- No circuit stands twice in the queue (R47). -/
theorem State.Linked.queue_nodup (h : s.Linked d) : (s.queue.map QueueEntry.circuit).Nodup := by
  refine List.nodup_iff_count_le_one.mpr fun c => ?_
  have hqueue : (s.queue.map QueueEntry.circuit).count c + d.missing c = if (s.circuit c).state = .pending then 1 else 0 :=
    (h.views c).queue
  split at hqueue <;> omega

/-- A circuit with work, or held, is not the slot of the waiting request (R12). -/
theorem State.Linked.not_waiting (h : s.Linked d) (hr : (s.circuit c).state.changeRefusal ≠ none) : s.visible.slot ≠ some c :=
  beq_eq_false_iff_ne.mp ((h.views c).not_waiting hr)

/-- A circuit without change in progress is not the slot of the waiting request (R12). -/
theorem State.Linked.not_waiting_of_unchanging (h : s.Linked d) (hr : (s.circuit c).changing = false) :
    s.visible.slot ≠ some c := by
  intro hslot
  have hchanging : (s.circuit c).changing = true := ((h.views c).waiting (beq_iff_eq.mpr hslot)).1
  rw [hr] at hchanging
  cases hchanging

theorem State.status_of_entryIs {p : EntryStatus → Bool} {st : EntryStatus} (hp : ∀ x, p x = true → x = st)
    (h : s.entryIs c p = true) : (s.visible.view c).status = some st := by
  rw [s.entryIs_eq] at h
  cases hs : (s.visible.view c).status with
  | none => rw [hs] at h; cases h
  | some x =>
    rw [hs] at h
    rw [hp x h]

theorem State.status_of_unprocessed (h : s.namedUnprocessed c = true) : (s.visible.view c).status = some .unprocessed := by
  unfold State.namedUnprocessed at h
  exact State.status_of_entryIs (fun x hx => beq_iff_eq.mp hx) ((Bool.and_eq_true _ _).mp h).2

/-- An UNPROCESSED entry is given a result. -/
theorem State.Linked.finishUnprocessed (h : s.Linked d) (hs : (s.visible.view c).status = some .unprocessed)
    (res : CaptureResult) : (s.finishEntry c res).Linked d := by
  show (s.finishEntry c res).visible.Linked d
  rw [State.visible_finishEntry]
  exact Visible.Linked.finish h hs

theorem State.reachable_iff :
    s.reachable l c = true ↔ s.namedUnprocessed c = true ∧ s.laneOf c = some l ∧ (s.circuit c).state = .idle ∧
      (s.circuit c).changing = false := by
  simp [State.reachable, and_assoc]

/-! ## Verification work -/

theorem State.Linked.takeAttempt (h : s.Linked {}) {g : Grant} (hg : (s.lane l).grant = some g) (x : Definition)
    (b : HandedBurst) : (s.takeAttempt l g x b).Linked {} := by
  unfold State.takeAttempt
  dsimp only
  split
  · exact h.endGrant hg _ _
  · refine h.modifyLane_same ?_
    obtain ⟨-, -, hworking⟩ := (h.lanes l).grant g.entry.circuit (State.grant_share hg)
    have hworking' : (s.lane l).working = true := hworking
    unfold Lane.share
    rw [hg, hworking']
    rfl

/-- A queued circuit's entry ends in a verdict without a grant (R58). -/
theorem State.Linked.dispatchFaulted (h : s.Linked {}) {e : QueueEntry} (hp : (s.circuit e.circuit).state = .pending) :
    (s.dispatchFaulted l e).Linked {} := by
  let u := (s.reserve .verdict).dropEntry e.circuit
  have hzero : (s.circuit e.circuit).holds = 0 := (h.views e.circuit).holds_as.2 (.inr hp)
  have hdropped : ((s.visible.setRecord e.circuit ((s.circuit e.circuit).concluded (u.unmeasurableOf e l))).setQueue
      (s.visible.queued.filter (· != e.circuit))).Linked {} :=
    Visible.Linked.restand h (s.visible.queueFor_filter _) (.inr (.inr hp)) rfl rfl (.inl rfl) ⟨nofun, fun _ => hzero⟩
      (Visible.count_filter_self _) (h.not_waiting (by rw [hp]; nofun)) (fun _ _ => rfl) (fun _ _ => rfl) (fun _ _ => rfl) rfl
  have hu : (u.visible.setRecord e.circuit ((s.circuit e.circuit).concluded (u.unmeasurableOf e l))).unreserve .verdict =
      (s.visible.setRecord e.circuit ((s.circuit e.circuit).concluded (u.unmeasurableOf e l))).setQueue
        (s.visible.queued.filter (· != e.circuit)) := by
    rw [State.visible_dropEntry, State.visible_reserve]
    rfl
  show (u.concludeVerdict e.circuit (u.unmeasurableOf e l)).visible.Linked {}
  obtain he | ⟨n, hn, he⟩ := u.visible_concludeVerdict e.circuit (u.unmeasurableOf e l)
  · rw [he]
    exact hu ▸ hdropped
  · rw [he]
    exact Visible.Linked.dropRecord (hu ▸ hdropped) hn

/-- A lane that begins work is working. -/
theorem Lane.begin_share (r : Lane) (channel n : Nat) :
    (r.begin channel n).grant = r.grant ∧ (r.begin channel n).capture = r.capture ∧ (r.begin channel n).working = true := by
  unfold Lane.begin
  dsimp only
  split <;> exact ⟨rfl, rfl, rfl⟩

theorem State.visible_grantVerification (s : State) (l : LaneId) (e : QueueEntry) (channel : Nat)
    (hfree : (s.visible.lanes l).Free) :
    (s.grantVerification l e channel).visible =
      { ((s.visible.setRecord e.circuit { s.visible.circuits e.circuit with state := .probing }).setQueue
          (s.visible.queued.filter (· != e.circuit))).setLane l ⟨some e.circuit, none, .verification e.circuit, true⟩ with
        verdicts := s.visible.verdicts + 1 } := by
  obtain ⟨-, hcapture, hworking⟩ := (s.lane l).begin_share channel s.profile.burstLength
  have hnone : (s.lane l).capture.map (·.circuit) = none := hfree.2
  unfold State.grantVerification
  dsimp only
  rw [State.visible_modifyLane, State.visible_setCircuitState, State.visible_dropEntry, State.visible_reserve]
  have hshare : Lane.share { (s.lane l).begin channel s.profile.burstLength with
      work := .verification e.circuit
      grant := some ⟨e, s.profile.burstLength, s.profile.retries, [],
        if (s.lane l).state = .tuned then .measuring else .tuning⟩ } =
      ⟨some e.circuit, none, .verification e.circuit, true⟩ := by
    unfold Lane.share
    dsimp only
    rw [hcapture, hnone]
    exact congrArg (LaneShare.mk _ _ _) hworking
  exact congrArg (fun y => ({ ((s.visible.setRecord e.circuit { s.circuit e.circuit with state := .probing }).setQueue
    (s.visible.queued.filter (· != e.circuit))).setLane l y with verdicts := s.visible.verdicts + 1 } : Visible)) hshare

theorem State.Linked.grantVerification (h : s.Linked {}) {e : QueueEntry} (hp : (s.circuit e.circuit).state = .pending)
    (hl : s.laneOf e.circuit = some l) (hfree : (s.visible.lanes l).Free) (channel : Nat) :
    (s.grantVerification l e channel).Linked {} := by
  show (s.grantVerification l e channel).visible.Linked {}
  rw [s.visible_grantVerification l e channel hfree]
  exact Visible.Linked.grant h hp hl hfree rfl

/-- What one entry's turn does to the table: its own circuit's record alone. -/
theorem State.dispatchFaulted_circuit (s : State) (l : LaneId) (e : QueueEntry) {x : Nat} (hx : x ≠ e.circuit) :
    (s.dispatchFaulted l e).circuit x = s.circuit x := by
  let u := (s.reserve .verdict).dropEntry e.circuit
  have hcircuits : (s.dispatchFaulted l e).visible.circuits =
      (u.visible.setRecord e.circuit ((u.circuit e.circuit).concluded (u.unmeasurableOf e l))).circuits := by
    obtain he | ⟨n, -, he⟩ := u.visible_concludeVerdict e.circuit (u.unmeasurableOf e l) <;>
      exact (congrArg Visible.circuits he).trans rfl
  exact (congrFun hcircuits x).trans (Function.update_of_ne hx _ _)

theorem State.grantVerification_circuit (s : State) (l : LaneId) (e : QueueEntry) (channel : Nat) {x : Nat}
    (hx : x ≠ e.circuit) : (s.grantVerification l e channel).circuit x = s.circuit x := by
  let u := (s.reserve .verdict).dropEntry e.circuit
  exact State.circuit_setCircuit_other u hx { u.circuit e.circuit with state := .probing }

theorem State.served_ready (h : s.served l = true) : (s.lane l).ready = true := ((Bool.and_eq_true _ _).mp h).1

theorem State.Linked.offerEntry {acc : State × List LaneId} (h : acc.1.Linked {}) (looks : List LaneId) {e : QueueEntry}
    (hp : (acc.1.circuit e.circuit).state = .pending) :
    (State.offerEntry looks acc e).1.Linked {} ∧
      ∀ x, x ≠ e.circuit → (State.offerEntry looks acc e).1.circuit x = acc.1.circuit x := by
  obtain ⟨s, done⟩ := acc
  unfold State.offerEntry
  dsimp only at h hp ⊢
  split
  · next l channel hl _ =>
    split
    · next hserved =>
      have hfree := h.ready_free (State.served_ready ((Bool.and_eq_true _ _).mp hserved).2)
      split
      · exact ⟨h, fun _ _ => rfl⟩
      · split
        · exact ⟨h.dispatchFaulted hp, fun _ hx => s.dispatchFaulted_circuit l e hx⟩
        · split
          · exact ⟨h.grantVerification hp hl hfree channel, fun _ hx => s.grantVerification_circuit l e channel hx⟩
          · exact ⟨h, fun _ _ => rfl⟩
    · exact ⟨h, fun _ _ => rfl⟩
  · exact ⟨h, fun _ _ => rfl⟩

theorem State.Linked.offerEntries (looks : List LaneId) (es : List QueueEntry) {acc : State × List LaneId}
    (h : acc.1.Linked {}) (hnd : (es.map QueueEntry.circuit).Nodup)
    (hp : ∀ e ∈ es, (acc.1.circuit e.circuit).state = .pending) : (es.foldl (State.offerEntry looks) acc).1.Linked {} := by
  induction es generalizing acc with
  | nil => exact h
  | cons e es ih =>
    obtain ⟨hmem, hnd⟩ := List.nodup_cons.mp hnd
    obtain ⟨hnext, hkeep⟩ := h.offerEntry looks (hp e List.mem_cons_self)
    refine ih hnext hnd fun x hx => ?_
    have hne : x.circuit ≠ e.circuit := fun he => hmem (he ▸ List.mem_map.mpr ⟨x, hx, rfl⟩)
    rw [hkeep _ hne]
    exact hp x (List.mem_cons_of_mem _ hx)

theorem State.Linked.offerQueue (h : s.Linked {}) : s.offerQueue.Linked {} :=
  State.Linked.offerEntries s.looks s.queue (acc := (s, [])) h h.queue_nodup fun _ he => h.pending_of_mem he

/-! ## Capture work -/

theorem State.Linked.askCapture (l : LaneId) (cs : List Nat) (h : s.Linked d) :
    (State.askCapture l cs s).1.Linked d ∧
      ∀ c, (State.askCapture l cs s).2 = some c → (State.askCapture l cs s).1.reachable l c = true := by
  induction cs generalizing s with
  | nil => exact ⟨h, nofun⟩
  | cons c cs ih =>
    unfold State.askCapture
    split
    · exact ⟨h, nofun⟩
    · split
      · next hreach =>
        have hs := State.status_of_unprocessed (State.reachable_iff.mp hreach).1
        split
        · exact ih (h.finishUnprocessed hs _)
        · split
          · exact ih (h.finishUnprocessed hs _)
          · split
            · exact ⟨h, fun x hx => Option.some.inj hx ▸ hreach⟩
            · exact ⟨h, nofun⟩
      · exact ih h

theorem State.Linked.grantCapture (h : s.Linked d) (hreach : s.reachable l c = true) (hfree : (s.visible.lanes l).Free)
    (channel : Nat) : (s.grantCapture l c channel).Linked d := by
  obtain ⟨hentry, hl, hidle, hchanging⟩ := State.reachable_iff.mp hreach
  obtain ⟨hgrant, -, hworking⟩ := (s.lane l).begin_share channel s.profile.burstLength
  have hnone : (s.lane l).grant.map (·.entry.circuit) = none := hfree.1
  have hmeasure := Visible.Linked.measure (l := l) h hidle hl (State.status_of_unprocessed hentry) hfree
    (h.not_waiting_of_unchanging hchanging)
  have hshare : Lane.share { (s.lane l).begin channel s.profile.burstLength with
      work := .capture c
      capture := some ⟨c, s.profile.burstLength, s.profile.captureBursts, s.profile.spreadLimit, []⟩ } =
      ⟨none, some c, .capture c, true⟩ := by
    unfold Lane.share
    dsimp only
    rw [hgrant, hnone]
    exact congrArg (LaneShare.mk _ _ _) hworking
  have hfinal : (s.grantCapture l c channel).visible =
      ((s.visible.setRecord c { s.circuit c with state := .capturing }).setLane l
        (Lane.share { (s.lane l).begin channel s.profile.burstLength with
          work := .capture c
          capture := some ⟨c, s.profile.burstLength, s.profile.captureBursts, s.profile.spreadLimit, []⟩ })).setStatus c
        (.measuring l) := by
    unfold State.grantCapture
    dsimp only
    rw [State.visible_modifyLane, State.visible_setEntry, State.visible_setCircuitState]
    rfl
  show (s.grantCapture l c channel).visible.Linked d
  rw [hfinal, hshare]
  exact hmeasure

theorem Lane.takes_ready {r : Lane} {channel : Nat} (h : r.takes channel = true) : r.ready = true := by
  simp only [Lane.takes, Lane.ready, Bool.or_eq_true, Bool.and_eq_true] at h ⊢
  exact h.elim (fun hp => .inl (.inl hp)) fun ht => .inr ht.1

theorem State.Linked.offerCapture (h : s.Linked d) (l : LaneId) : (s.offerCapture l).Linked d := by
  unfold State.offerCapture
  split
  · obtain ⟨hasked, hoffered⟩ := h.askCapture l (s.campaign.entries.map (·.circuit))
    dsimp only
    split
    · next c hc =>
      split
      · next channel _ =>
        split
        · next htakes => exact hasked.grantCapture (hoffered c hc) (hasked.ready_free (Lane.takes_ready htakes)) channel
        · exact hasked
      · exact hasked
    · exact hasked
  · exact h

/-! ## The arbiter -/

theorem State.Linked.foldl {β : Type} {f : State → β → State} (h : s.Linked d)
    (hf : ∀ u x, State.Linked d u → (f u x).Linked d) (xs : List β) : (xs.foldl f s).Linked d := by
  induction xs generalizing s with
  | nil => exact h
  | cons x xs ih => exact ih (hf s x h)

theorem State.Linked.parkIfIdle (h : s.Linked d) (l : LaneId) : (s.parkIfIdle l).Linked d := by
  unfold State.parkIfIdle
  split
  · next ht =>
    obtain ⟨-, hwork⟩ := (Bool.and_eq_true _ _).mp ht
    have hnone : (s.lane l).work = .none := beq_iff_eq.mp hwork
    have hfree := (h.lanes l).free_of_none hnone
    exact h.modifyLane_free hfree (LaneShare.Free.ok hfree (fun c hc => nomatch hnone.symm.trans hc)
      fun c hc => nomatch hnone.symm.trans hc) hfree
  · exact h

theorem State.visible_withLooks (s : State) (ls : List LaneId) : State.visible { s with looks := ls } = s.visible := rfl

theorem State.Linked.arbitrate (h : s.Linked {}) : s.arbitrate.Linked {} := by
  have hcaptures : s.offerQueue.offerCaptures.Linked {} := h.offerQueue.foldl (fun _ l hu => hu.offerCapture l) _
  have hparked : s.offerQueue.offerCaptures.parkIdle.Linked {} := hcaptures.foldl (fun _ l hu => hu.parkIfIdle l) _
  exact hparked.of_visible (State.visible_withLooks _ [])

end

end Sys2Proof.Machine


/-! # The capture controller keeps the agreement -/

namespace Sys2Proof.Machine

section
variable {s t u : State} {d d' : Slack} {c : Nat} {l : LaneId}

/-! ## Records that are seen alike -/

theorem State.circuit_of_visible {k : Visible} (h : s.visible = k) : s.circuit = k.circuits := congrArg Visible.circuits h

theorem Visible.conclude_circuits (k : Visible) : k.conclude.circuits = k.circuits := by
  unfold Visible.conclude
  split <;> rfl

theorem State.finishEntry_circuit_eq (s : State) (c : Nat) (res : CaptureResult) : (s.finishEntry c res).circuit = s.circuit :=
  (State.circuit_of_visible (s.visible_finishEntry c res)).trans (Visible.conclude_circuits _)

theorem Visible.setRecord_same (k : Visible) (c : Nat) : k.setRecord c (k.circuits c) = k := by
  unfold Visible.setRecord
  rw [Function.update_eq_self]

/-- An entry that goes back to UNPROCESSED leaves its campaign in progress. -/
theorem Visible.conclude_unprocessed {k k' : Visible} {st : EntryStatus} (hs : (k.view c).status = some st)
    (he : k'.entries = restated k.entries c .unprocessed) : k'.conclude = k' := by
  obtain ⟨hall, -⟩ | ⟨-, hsame⟩ := k'.conclude_cases
  · rw [he, Visible.all_restated hs rfl] at hall
    cases hall
  · exact hsame

/-! ## The end of a measuring phase -/

/-- A lane whose work has been taken off it, in a state otherwise seen as before. -/
def State.LaneEnded (s u : State) (l : LaneId) : Prop := ∃ w, u.visible = s.visible.setLane l ⟨none, none, .none, w⟩

theorem State.releaseLane_ended (s : State) (l : LaneId) : s.LaneEnded (s.releaseLane l) l := by
  refine ⟨(s.lane l).working, ?_⟩
  show State.visible (State.lookAt _ l) = _
  rw [State.visible_lookAt, State.visible_modifyLane]
  rfl

theorem State.stopCapture_ended (h : (s.visible.view c).status = some (.measuring l)) :
    s.LaneEnded (s.stopCapture c) l := by
  obtain ⟨w, hw, -⟩ := State.visible_stopCapture h
  exact ⟨w, hw⟩

/-- A measured circuit becomes IDLE with a result (R129, R136). -/
theorem State.Linked.finishMeasured (h : s.Linked d) (hm : (s.visible.view c).status = some (.measuring l))
    (hu : s.LaneEnded u l) (res : CaptureResult) : ((u.finishEntry c res).makeIdle c).Linked d := by
  obtain ⟨w, hu⟩ := hu
  obtain ⟨-, -, -, -, hzero, hqueue, -⟩ := h.stands_measured hm
  have hcircuit : (u.finishEntry c res).circuit c = s.circuit c :=
    congrFun ((u.finishEntry_circuit_eq c res).trans (State.circuit_of_visible hu)) c
  show ((u.finishEntry c res).makeIdle c).visible.Linked d
  rw [State.visible_makeIdle, State.visible_finishEntry, hcircuit, hu, Visible.conclude_setRecord]
  exact Visible.Linked.unmeasure (q := s.visible.queued) h hm (LaneShare.ended_ok w) (LaneShare.ended_free w) rfl
    (s.visible.queueFor_same c) rfl rfl (.inl rfl) ⟨nofun, fun _ => hzero⟩ hqueue (fun _ _ => rfl) (fun _ _ => rfl)
    (fun _ _ => rfl) rfl

/-- A measured circuit is queued with a result (R137). -/
theorem State.Linked.disturbMeasured (h : s.Linked d) (hm : (s.visible.view c).status = some (.measuring l))
    (hu : s.LaneEnded u l) (res : CaptureResult) {e : QueueEntry} (he : e.circuit = c) :
    ((u.finishEntry c res).appendEntry e).Linked d := by
  obtain ⟨w, hu⟩ := hu
  obtain ⟨-, -, -, -, hzero, hqueue, -⟩ := h.stands_measured hm
  have hcircuit : (u.finishEntry c res).circuit c = s.circuit c :=
    congrFun ((u.finishEntry_circuit_eq c res).trans (State.circuit_of_visible hu)) c
  show ((u.finishEntry c res).appendEntry e).visible.Linked d
  rw [State.visible_appendEntry, he, State.visible_finishEntry, hcircuit, hu, Visible.conclude_setRecord,
    Visible.conclude_setQueue, Visible.conclude_queued]
  refine Visible.Linked.unmeasure (q := s.visible.queued ++ [c]) h hm (LaneShare.ended_ok w) (LaneShare.ended_free w) rfl
    (s.visible.queueFor_append c) rfl rfl (.inr (.inr rfl)) ⟨nofun, fun _ => hzero⟩ ?_ (fun _ _ => rfl) (fun _ _ => rfl)
    (fun _ _ => rfl) rfl
  rw [Visible.count_append_self, if_pos rfl]
  omega

/-- A measured circuit becomes IDLE and its entry UNPROCESSED (R131). -/
theorem State.Linked.returnMeasured (h : s.Linked d) (hm : (s.visible.view c).status = some (.measuring l))
    (hu : s.LaneEnded u l) : ((u.returnEntry c).makeIdle c).Linked d := by
  obtain ⟨w, hu⟩ := hu
  obtain ⟨-, -, -, -, hzero, hqueue, -⟩ := h.stands_measured hm
  have hreturned : (u.returnEntry c).visible = (s.visible.setLane l ⟨none, none, .none, w⟩).setStatus c .unprocessed := by
    rw [State.visible_returnEntry, hu]
  have hcircuit : (u.returnEntry c).circuit c = s.circuit c := congrFun (State.circuit_of_visible hreturned) c
  have hsame := Visible.conclude_unprocessed (c := c)
    (k' := ((s.visible.setLane l ⟨none, none, .none, w⟩).setStatus c .unprocessed).setRecord c { s.circuit c with state := .idle })
    hm rfl
  show ((u.returnEntry c).makeIdle c).visible.Linked d
  rw [State.visible_makeIdle, hcircuit, hreturned, ← hsame]
  exact Visible.Linked.unmeasure (q := s.visible.queued) h hm (LaneShare.ended_ok w) (LaneShare.ended_free w) rfl
    (s.visible.queueFor_same c) rfl rfl (.inl rfl) ⟨nofun, fun _ => hzero⟩ hqueue (fun _ _ => rfl) (fun _ _ => rfl)
    (fun _ _ => rfl) rfl

theorem State.Linked.failCapture (h : s.Linked d) {w : CaptureWork} (hw : (s.lane l).capture = some w) (res : CaptureResult) :
    (s.failCapture l w.circuit res).Linked d := h.finishMeasured (h.measuring hw) (s.releaseLane_ended l) res

/-! ## The end of a commit phase -/

theorem Circuit.owed_circuits (r : Circuit) (c : Nat) :
    (r.owed c).map QueueEntry.circuit = if r.settled.state = .pending then [c] else [] := by
  unfold Circuit.owed Circuit.settled
  by_cases hholds : 0 < r.holds
  · simp [hholds]
  · cases howed : r.releaseOwed with
    | some cause => cases cause <;> simp [hholds]
    | none => cases hdisturbed : r.disturbed <;> simp [hholds]

theorem State.visible_settleCommit (s : State) (c : Nat) :
    (s.settleCommit c).visible = (s.visible.setRecord c (s.circuit c).settled).setQueue
      (s.visible.queued ++ if (s.circuit c).settled.state = .pending then [c] else []) := by
  obtain ⟨cs, ls, hsettle, hread⟩ := s.settleCommit_eq c
  have hcircuits : (fun k => tableRead {} cs k) = Function.update s.circuit c (s.circuit c).settled := by
    funext k
    rw [hread k]
    by_cases hk : k = c
    · subst hk
      rw [if_pos rfl, Function.update_self]
    · rw [if_neg hk, Function.update_of_ne hk]
  have hqueue : (s.queue ++ (s.circuit c).owed c).map QueueEntry.circuit =
      s.visible.queued ++ if (s.circuit c).settled.state = .pending then [c] else [] := by
    rw [List.map_append, Circuit.owed_circuits]
    rfl
  rw [hsettle]
  show { s.visible with
    circuits := fun k => tableRead {} cs k, queued := (s.queue ++ (s.circuit c).owed c).map QueueEntry.circuit } = _
  rw [hcircuits, hqueue]
  rfl

theorem Circuit.settled_stands (r : Circuit) :
    (r.settled.state = .idle ∨ r.settled.state = .held ∨ r.settled.state = .pending) ∧ CircuitView.holdsAs r.settled := by
  unfold Circuit.settled CircuitView.holdsAs
  dsimp only
  by_cases hholds : 0 < r.holds
  · rw [if_pos hholds]
    exact ⟨.inr (.inl rfl), fun _ => hholds, fun hs => hs.elim nofun nofun⟩
  · rw [if_neg hholds]
    split
    · exact ⟨.inr (.inr rfl), nofun, fun _ => by omega⟩
    · exact ⟨.inl rfl, nofun, fun _ => by omega⟩

/-- The state once a baseline has left the hand-off list or the commit queue, its circuit's record perhaps changed in what the
other blocks do not see. -/
def State.Handed (s u : State) (c : Nat) (ho : List Nat) (cs : List Commit) (r : Circuit) : Prop :=
  u.visible = ({ s.visible with handOff := ho, commits := cs } : Visible).setRecord c r ∧
    r.definition = (s.circuit c).definition ∧ r.holds = (s.circuit c).holds

theorem State.Linked.settleCommit {ho : List Nat} {cs : List Commit} {r : Circuit} (h : s.Linked {})
    (hs : (s.visible.view c).status.any EntryStatus.isCommitting = true) (hu : s.Handed u c ho cs r)
    (hcount : ∀ x, ({ s.visible with handOff := ho, commits := cs } : Visible).committing.count x + (if x = c then 1 else 0) =
      s.visible.committing.count x)
    (hcs : ∀ x ∈ cs, x ∈ s.commits) (res : CaptureResult) : ((u.finishEntry c res).settleCommit c).Linked {} := by
  obtain ⟨hu, hdef, hholds⟩ := hu
  obtain ⟨-, -, -, hqueue, -⟩ := h.stands_committing hs
  obtain ⟨hstate, hfits⟩ := r.settled_stands
  have hzero : s.visible.queued.count c = 0 := (Nat.add_eq_zero_iff.mp hqueue).1
  have hcircuit : (u.finishEntry c res).circuit c = r := by
    rw [u.finishEntry_circuit_eq, State.circuit_of_visible hu]
    exact Function.update_self ..
  show ((u.finishEntry c res).settleCommit c).visible.Linked {}
  rw [State.visible_settleCommit, hcircuit, State.visible_finishEntry, hu, Visible.conclude_setRecord,
    Visible.conclude_setQueue, Visible.conclude_queued]
  have hfinal : (((({ s.visible with handOff := ho, commits := cs } : Visible).setRecord c r).setStatus c
        (.finished res)).setRecord c r.settled).setQueue
        (s.visible.queued ++ if r.settled.state = .pending then [c] else []) =
      ((({ s.visible with handOff := ho, commits := cs } : Visible).setRecord c r.settled).setQueue
        (s.visible.queued ++ if r.settled.state = .pending then [c] else [])).setStatus c (.finished res) :=
    congrArg (fun k : Visible => (k.setQueue (s.visible.queued ++ if r.settled.state = .pending then [c] else [])).setStatus c
      (.finished res)) (Visible.setRecord_setRecord { s.visible with handOff := ho, commits := cs } c r r.settled)
  refine (congrArg (fun k : Visible => k.conclude.Linked {}) hfinal).mpr ?_
  refine Visible.Linked.uncommit h hs hcount hcs (fun x hx => ?_) hdef hholds hstate hfits ?_
  · rw [List.count_append]
    split
    · rw [List.count_singleton]
      simp [Ne.symm hx]
    · simp
  · rw [List.count_append, hzero]
    split <;> simp

/-! ## The commit queue -/

@[simp] theorem State.visible_putSlot (s : State) (x : SavedSlot) : (s.putSlot x).visible = s.visible := by cases x <;> rfl

@[simp] theorem State.visible_beginCommit (s : State) : s.beginCommit.visible = s.visible := by
  unfold State.beginCommit
  split
  · split
    · rfl
    · next c _ _ _ _ => exact s.visible_putSlot ((s.readSlot c.op).withCells true)
  · rfl

@[simp] theorem State.visible_handCommit (s : State) (op : StoreOp) (by_ : Submitter) :
    (s.handCommit op by_).visible = { s.visible with commits := s.commits ++ [⟨op, by_⟩] } := State.visible_beginCommit _

@[simp] theorem State.visible_lookIfBelow (s : State) (n : Nat) : (s.lookIfBelow n).visible = s.visible := by
  unfold State.lookIfBelow
  split
  · exact s.visible_lookAtAll
  · rfl

theorem committers_append (cs : List Commit) (c : Commit) :
    committers (cs ++ [c]) = committers cs ++ committers [c] := List.filterMap_append ..

/-- A circuit whose baseline waits is in its commit phase. -/
theorem Visible.Linked.status_committing {k : Visible} (h : k.Linked d) (hc : c ∈ k.committing) :
    (k.view c).status.any EntryStatus.isCommitting = true := by
  have hcommits := (h.views c).commits
  have hpos : 0 < (k.view c).commits := List.count_pos_iff.mpr hc
  by_contra hn
  rw [if_neg hn] at hcommits
  omega

/-- Baselines handed from one list to the other, and commits that are not the capture controller's. -/
theorem Visible.Linked.recommit {k : Visible} {ho : List Nat} {cs : List Commit} (h : k.Linked d)
    (hcount : ∀ x, ({ k with handOff := ho, commits := cs } : Visible).committing.count x = k.committing.count x)
    (hwrites : ∀ x ∈ cs, ∀ c, x.submitter = .capture c → ∃ b, x.op = .writeBaseline c b) :
    ({ k with handOff := ho, commits := cs } : Visible).Linked d :=
  h.keep (fun x => Visible.view_eq (hcommits := hcount x)) h.lanes { h.whole with writes := hwrites }

/-- A commit of the request processor is handed to the store controller. -/
theorem State.Linked.handCommit (h : s.Linked d) (op : StoreOp) : (s.handCommit op .processor).Linked d := by
  show (s.handCommit op .processor).visible.Linked d
  rw [State.visible_handCommit]
  refine Visible.Linked.recommit (ho := s.visible.handOff) h (fun x => ?_) fun x hx c hc => ?_
  · show (s.visible.handOff ++ committers (s.commits ++ [⟨op, .processor⟩])).count x = _
    rw [committers_append]
    show (s.visible.handOff ++ (committers s.commits ++ [])).count x = _
    rw [List.append_nil]
    rfl
  · obtain hx | hx := List.mem_append.mp hx
    · exact h.whole.writes x hx c hc
    · rw [List.mem_singleton.mp hx] at hc
      cases hc

theorem State.Linked.handOn (n : Nat) (h : s.Linked {}) : (State.handOn n s).Linked {} := by
  induction n generalizing s with
  | zero => exact h
  | succ n ih =>
    unfold State.handOn
    split
    · exact h
    · next x rest hrest =>
      have hhandOff : s.visible.handOff = x.circuit :: rest.map (·.circuit) := by
        show s.campaign.handOff.map (·.circuit) = _
        rw [hrest]
        rfl
      have hcommitting : s.visible.committing = x.circuit :: (rest.map (·.circuit) ++ committers s.commits) := by
        unfold Visible.committing
        rw [hhandOff]
        rfl
      split
      · dsimp only
        refine ih ?_
        split
        · refine State.Linked.of_visible (s := State.settleCommit _ x.circuit) ?_ (State.visible_lookIfBelow _ _)
          refine h.settleCommit (ho := rest.map (·.circuit)) (cs := s.commits) (r := s.circuit x.circuit)
            (Visible.Linked.status_committing h (by rw [hcommitting]; exact List.mem_cons_self)) ⟨?_, rfl, rfl⟩ (fun y => ?_)
            (fun _ hy => hy) _
          · exact (Visible.setRecord_same ({ s.visible with handOff := rest.map (·.circuit), commits := s.commits } : Visible)
              x.circuit).symm
          · rw [hcommitting, List.count_cons]
            refine congrArg₂ _ rfl ?_
            by_cases hy : y = x.circuit
            · simp [hy]
            · rw [if_neg hy, if_neg (by simpa using Ne.symm hy)]
        · show State.Linked {} _
          refine State.Linked.of_visible (s := State.handCommit _ _ _) ?_ rfl
          show (State.handCommit _ _ _).visible.Linked {}
          rw [State.visible_handCommit]
          refine Visible.Linked.recommit (k := s.visible) (ho := rest.map (·.circuit)) h (fun y => ?_) fun y hy c hc => ?_
          · show (rest.map (·.circuit) ++ committers (s.commits ++ [⟨.writeBaseline x.circuit x.baseline, .capture x.circuit⟩])).count
              y = _
            rw [hcommitting, committers_append]
            show (rest.map (·.circuit) ++ (committers s.commits ++ [x.circuit])).count y = _
            rw [List.count_cons, ← List.append_assoc, List.count_append, List.count_singleton]
          · obtain hy | hy := List.mem_append.mp hy
            · exact h.whole.writes y hy c hc
            · rw [List.mem_singleton.mp hy] at hc ⊢
              exact ⟨x.baseline, by rw [Submitter.capture.inj hc]⟩
      · exact h

theorem State.Linked.handOnAll (h : s.Linked {}) : s.handOnAll.Linked {} := h.handOn _

/-! ## Capture bursts -/

theorem State.Linked.completeCapture (h : s.Linked {}) {w w' : CaptureWork} (hw : (s.lane l).capture = some w)
    (hw' : w'.circuit = w.circuit) (x : Definition) : (s.completeCapture l w' x).Linked {} := by
  unfold State.completeCapture
  dsimp only
  split
  · rw [hw']
    exact h.failCapture hw _
  · refine State.Linked.handOnAll ?_
    obtain ⟨y, hy⟩ := s.releaseLane_ended l
    have hcommit := Visible.Linked.commit (j := l) h (h.measuring hw) (LaneShare.ended_ok y) (LaneShare.ended_free y)
    have hhandOff : ((s.releaseLane l).campaign.handOff ++
        [(⟨w'.circuit, s.formedBaseline w'.circuit x w'.kept⟩ : HandOff)]).map HandOff.circuit = s.visible.handOff ++ [w.circuit] := by
      rw [List.map_append, List.map_singleton, hw']
      exact congrArg (· ++ [w.circuit]) (congrArg Visible.handOff hy)
    have hfinal : State.visible { (s.releaseLane l).setEntry w'.circuit (.committing l) with
        campaign := { ((s.releaseLane l).setEntry w'.circuit (.committing l)).campaign with
          handOff := (s.releaseLane l).campaign.handOff ++ [⟨w'.circuit, s.formedBaseline w'.circuit x w'.kept⟩] } } =
        { (s.visible.setLane l ⟨none, none, .none, y⟩).setStatus w.circuit (.committing l) with
          handOff := s.visible.handOff ++ [w.circuit] } := by
      rw [← hhandOff, ← hy, hw']
      rfl
    exact (congrArg (fun k : Visible => k.Linked {}) hfinal).mpr hcommit

theorem State.Linked.takeCaptureBurst (h : s.Linked {}) {w : CaptureWork} (hw : (s.lane l).capture = some w) (x : Definition)
    (b : HandedBurst) : (s.takeCaptureBurst l w x b).Linked {} := by
  unfold State.takeCaptureBurst
  dsimp only
  split
  · exact h.failCapture hw _
  · split
    · exact h.failCapture hw _
    · split
      · exact h.failCapture hw _
      · split
        · refine h.modifyLane_same ?_
          obtain ⟨-, hworking⟩ := (h.lanes l).capture w.circuit (State.capture_share hw)
          have hworking' : (s.lane l).working = true := hworking
          unfold Lane.share
          rw [hw, hworking']
          rfl
        · exact h.completeCapture hw (by rfl) x

end

end Sys2Proof.Machine


/-! # The events of a lane keep the agreement -/

namespace Sys2Proof.Machine

section
variable {s t u : State} {d d' : Slack} {c : Nat} {l : LaneId}

/-! ## Lane errors -/

theorem Lane.failed_share (r : Lane) (kind : ErrorKind) (x : Option Nat) :
    (r.endWork.park.countError kind x).share = ⟨none, none, .none, false⟩ := rfl

theorem State.returnReservation_circuit (s : State) (kind : ReservedKind) : (s.returnReservation kind).circuit = s.circuit := by
  refine (State.circuit_of_visible (s.visible_returnReservation kind)).trans ?_
  cases kind <;> rfl

theorem State.Linked.laneError (h : s.Linked d) (l : LaneId) (kind : ErrorKind) : (s.laneError l kind).Linked d := by
  unfold State.laneError
  dsimp only
  split
  · next g hg =>
    have hgrant := State.grant_share hg
    obtain ⟨-, -, -, -, hzero, hqueue, -⟩ := h.stands_granted hgrant
    show (State.putBack _ g.entry).visible.Linked d
    rw [State.visible_putBack, State.returnReservation_circuit, State.visible_returnReservation, State.visible_setLane,
      Lane.failed_share]
    refine Visible.Linked.ungrant (d := d) (d' := d) (q := g.entry.circuit :: s.visible.queued)
      (r := { s.circuit g.entry.circuit with state := .pending }) h hgrant (LaneShare.ended_ok false)
      (LaneShare.ended_free false) (s.visible.queueFor_cons _) rfl rfl (.inr (.inr rfl)) ⟨nofun, fun _ => hzero⟩ ?_
      (fun _ _ => rfl) (fun _ _ => rfl) (fun _ _ => rfl) rfl
    rw [List.count_cons_self, if_pos rfl]
    omega
  · next w _ hw =>
    exact h.returnMeasured (h.measuring hw) ⟨false, State.visible_setLane _ _ _⟩
  · next hg hw =>
    show (s.setLane l _).visible.Linked d
    rw [State.visible_setLane, Lane.failed_share]
    refine Visible.Linked.setLane_free h ⟨?_, ?_⟩ (LaneShare.ended_ok false) (LaneShare.ended_free false)
    · show (s.lane l).grant.map (·.entry.circuit) = none
      rw [hg]
      rfl
    · show (s.lane l).capture.map (·.circuit) = none
      rw [hw]
      rfl

/-! ## Lanes whose record changes for themselves alone -/

/-- A lane that is not working, whose new record has no work for a circuit. -/
theorem State.Linked.setLane_idle (h : s.Linked d) {r : Lane} (hold : (s.lane l).working = false)
    (hgrant : r.grant = (s.lane l).grant) (hcapture : r.capture = (s.lane l).capture)
    (hwork : r.work = (s.lane l).work ∨ r.work = .referenceRun ∨ r.work = .none) : (s.setLane l r).Linked d := by
  have hfree : (s.visible.lanes l).Free := (h.lanes l).free hold
  have hnew : r.share.Free := by
    unfold Lane.share
    rw [hgrant, hcapture]
    exact hfree
  have hnot : (∀ c, r.work ≠ .verification c) ∧ ∀ c, r.work ≠ .capture c := by
    obtain hw | hw | hw := hwork
    · rw [hw]
      refine ⟨fun c hc => ?_, fun c hc => ?_⟩
      · exact nomatch hfree.1.symm.trans ((h.lanes l).verification c hc)
      · exact nomatch hfree.2.symm.trans ((h.lanes l).measuring c hc)
    · rw [hw]
      exact ⟨nofun, nofun⟩
    · rw [hw]
      exact ⟨nofun, nofun⟩
  show (s.setLane l r).visible.Linked d
  rw [State.visible_setLane]
  exact Visible.Linked.setLane_free h hfree (LaneShare.Free.ok hnew hnot.1 hnot.2) hnew

theorem Lane.not_working {r : Lane} (h : r.state = .parked ∨ r.state = .faulted ∨ r.state = .parking ∨ r.state = .calibrating) :
    r.working = false := by
  unfold Lane.working
  obtain h | h | h | h := h <;> · rw [h]; rfl

theorem State.Linked.startRunIfDue (h : s.Linked d) (l : LaneId) : (s.startRunIfDue l).Linked d := by
  unfold State.startRunIfDue
  split
  · next hs =>
    have hparked : (s.lane l).state = .parked := by
      simp only [State.startsRun, Bool.and_eq_true, beq_iff_eq] at hs
      exact hs.1.1
    exact h.setLane_idle (Lane.not_working (.inl hparked)) rfl rfl (.inr (.inl rfl))
  · exact h

theorem State.Linked.startRuns (h : s.Linked d) (ls : List LaneId) : (ls.foldl State.startRunIfDue s).Linked d :=
  h.foldl (fun _ l hu => hu.startRunIfDue l) ls

theorem State.Linked.modifyLane_share (h : s.Linked d) {f : Lane → Lane}
    (hf : (s.lane l).share.Ok → (f (s.lane l)).share = (s.lane l).share ∨
      ((s.lane l).share.Free ∧ (f (s.lane l)).share.Free ∧ (f (s.lane l)).share.Ok)) : (s.modifyLane l f).Linked d := by
  obtain hsame | ⟨hold, hnew, hok⟩ := hf (h.lanes l)
  · exact h.modifyLane_same hsame
  · exact h.modifyLane_free hold hok hnew

theorem State.Linked.settleLane (h : s.Linked d) (l : LaneId) : (s.modifyLane l Lane.settle).Linked d := by
  refine h.modifyLane_share fun hok => ?_
  unfold Lane.settle
  split
  · next hs =>
    split
    · next hw =>
      have hfree : (s.lane l).share.Free := hok.free_of_none hw
      exact .inr ⟨hfree, hfree, LaneShare.Free.ok hfree (fun c hc => nomatch hw.symm.trans hc)
        fun c hc => nomatch hw.symm.trans hc⟩
    · refine .inl ?_
      have hworking : (s.lane l).working = true := by
        unfold Lane.working
        rw [hs]
        rfl
      unfold Lane.share
      rw [hworking]
      refine congrArg (fun g => LaneShare.mk g _ _ true) ?_
      show ((s.lane l).grant.map _).map _ = _
      rw [Option.map_map]
      rfl
  · split <;> exact .inl rfl
  · exact .inl rfl
  · exact .inl rfl
  · exact .inl rfl
  · exact .inl rfl
  · exact .inl rfl

theorem State.Linked.takeSample (h : s.Linked d) (l : LaneId) (floor : Nat) (x : Sample) :
    (s.modifyLane l fun r => r.takeSample floor x).Linked d := by
  refine h.modifyLane_share fun _ => .inl ?_
  unfold Lane.takeSample
  dsimp only
  split
  · next hs =>
    split
    · rfl
    · have hworking : (s.lane l).working = true := by
        unfold Lane.working
        rw [hs]
        rfl
      unfold Lane.share
      rw [hworking]
      refine congrArg (fun g => LaneShare.mk g _ _ true) ?_
      show ((s.lane l).grant.map _).map _ = _
      rw [Option.map_map]
      rfl
  · split
    · split <;> rfl
    · rfl
  · rfl
  · rfl
  · rfl
  · rfl
  · rfl

/-! ## Results and timeouts -/

theorem State.Linked.takeResult (h : s.Linked {}) (l : LaneId) (b : HandedBurst) : (s.takeResult l b).Linked {} := by
  unfold State.takeResult
  dsimp only
  split
  · next g _ hg =>
    split
    · exact h.takeAttempt hg _ b
    · exact h
  · next w _ hw =>
    split
    · exact h.takeCaptureBurst hw _ b
    · exact h
  · exact h.modifyLane_same rfl
  · exact h
  · exact h

theorem State.Linked.reduceHanded (h : s.Linked {}) (l : LaneId) : (s.reduceHanded l).Linked {} := by
  unfold State.reduceHanded
  split
  · exact h
  · exact State.Linked.takeResult (h.modifyLane_same rfl) l _

theorem State.Linked.closeRun (h : s.Linked d) (l : LaneId) (x : CalResult) :
    (s.setLane l ((s.lane l).closeRun x)).Linked d := h.modifyLane_same (f := fun r => r.closeRun x) rfl

theorem State.Linked.tuneTimeout (h : s.Linked d) (l : LaneId) : (s.tuneTimeout l).Linked d := by
  unfold State.tuneTimeout
  dsimp only
  split
  · exact h.laneError l _
  · split
    · exact h.closeRun l _
    · exact h
  all_goals exact h

theorem State.Linked.burstGapTimeout (h : s.Linked d) (l : LaneId) : (s.burstGapTimeout l).Linked d := by
  unfold State.burstGapTimeout
  dsimp only
  split
  · exact h.laneError l _
  · split
    · exact h.closeRun l _
    · exact h
  all_goals exact h

/-! ## The end of a park, and the profile -/

theorem State.Linked.unreserveProfile {x : Profile} {n : Notice} (h : s.Linked d) (hp : s.pendingProfile.isSome = true) :
    (State.queueReserved { s with profile := x, pendingProfile := none } .profileApplied n).Linked d := by
  show (State.queueReserved _ _ _).visible.Linked d
  rw [State.visible_queueReserved]
  refine Visible.Linked.keep (k := s.visible) h (fun _ => rfl) h.lanes { h.whole with profileApplied := ?_ }
  have happlied : s.visible.profileApplied = if s.pendingProfile.isSome then 1 else 0 := h.whole.profileApplied
  rw [hp, if_pos rfl] at happlied
  show s.visible.profileApplied - 1 = 0
  omega

theorem State.Linked.lookAt (h : s.Linked d) (l : LaneId) : (s.lookAt l).Linked d := h.of_visible (s.visible_lookAt l)

theorem State.Linked.lookAtAll (h : s.Linked d) : s.lookAtAll.Linked d := h.of_visible s.visible_lookAtAll

theorem State.Linked.applyPending (h : s.Linked d) (hp : s.pendingProfile.isSome = true) (x : Profile) :
    (s.applyPending x).Linked d := ((h.unreserveProfile hp).startRuns allLanes).lookAtAll

theorem State.Linked.applyNow (h : s.Linked d) (x : Profile) : (s.applyNow x).Linked d :=
  ((State.Linked.of_visible (t := { s with profile := x }) h rfl).startRuns allLanes).lookAtAll

theorem State.Linked.laneSettled (h : s.Linked d) (l : LaneId) : (s.laneSettled l).Linked d := by
  unfold State.laneSettled
  split
  · next x hp =>
    refine State.Linked.lookAt ?_ l
    split
    · exact h.applyPending (by rw [hp]; rfl) x
    · exact h
  · exact (h.startRunIfDue l).lookAt l

theorem State.Linked.reportFault (h : s.Linked d) (l : LaneId) : (s.reportFault l).Linked d := by
  unfold State.reportFault
  dsimp only
  split
  · exact h.of_visible (s.visible_queueUnreserved _)
  · exact h

theorem Lane.endRun_work (r : Lane) (x : CalResult) :
    (r.endRun x).grant = r.grant ∧ (r.endRun x).capture = r.capture ∧ (r.endRun x).work = .none := by
  unfold Lane.endRun
  dsimp only
  split <;> exact ⟨rfl, rfl, rfl⟩

theorem State.Linked.parkEnd (h : s.Linked d) (l : LaneId) : (s.parkEnd l).Linked d := by
  unfold State.parkEnd
  dsimp only
  split
  · next hs =>
    exact ((h.setLane_idle (r := (s.lane l).endPark) (Lane.not_working (.inr (.inr (.inl hs)))) rfl rfl (.inl rfl)).reportFault
      l).laneSettled l
  · next hs =>
    split
    · next x _ _ =>
      obtain ⟨hgrant, hcapture, hwork⟩ := (s.lane l).endRun_work x
      exact ((h.setLane_idle (Lane.not_working (.inr (.inr (.inr hs)))) hgrant hcapture (.inr (.inr hwork))).reportFault
        l).laneSettled l
    · exact h
  all_goals exact h

theorem State.Linked.recalibrate (h : s.Linked d) (l : LaneId) : (s.recalibrate l).Linked d := by
  unfold State.recalibrate
  split
  · next hs => exact h.setLane_idle (Lane.not_working (.inr (.inl hs))) rfl rfl (.inr (.inl rfl))
  · exact State.Linked.startRunIfDue (h.modifyLane_same rfl) l
  all_goals exact h.modifyLane_same rfl

theorem State.Linked.tick (h : s.Linked d) : s.tick.Linked d := by
  unfold State.tick
  dsimp only
  refine State.Linked.foldl ?_ (fun _ l hu => hu.modifyLane_same rfl) allLanes
  refine h.of_visible ?_
  have hwindows : (s.stack.map fun w => { w with remaining := w.remaining - 1 }).map (fun w => (w.id, w.spans)) =
      s.visible.windows := List.map_map
  exact congrArg (fun ws => { s.visible with windows := ws }) hwindows

end

end Sys2Proof.Machine


/-! # Campaigns start, go on and are cancelled in agreement -/

namespace Sys2Proof.Machine

section
variable {s t u : State} {d d' : Slack} {c : Nat} {l : LaneId}

/-- An operation on each circuit of a list, where what it needs of one circuit the others leave as it is. -/
theorem State.Linked.foldlOn {α : Type} {f : State → Nat → State} {g : State → Nat → α} {p : α → Prop} (h : s.Linked d)
    (hf : ∀ u c, State.Linked d u → p (g u c) → (f u c).Linked d ∧ ∀ x, x ≠ c → g (f u c) x = g u x) {cs : List Nat}
    (hnd : cs.Nodup) (hp : ∀ c ∈ cs, p (g s c)) :
    (cs.foldl f s).Linked d ∧ ∀ x, x ∉ cs → g (cs.foldl f s) x = g s x := by
  induction cs generalizing s with
  | nil => exact ⟨h, fun _ _ => rfl⟩
  | cons c cs ih =>
    obtain ⟨hmem, hnd⟩ := List.nodup_cons.mp hnd
    obtain ⟨hnext, hkeep⟩ := hf s c h (hp c List.mem_cons_self)
    obtain ⟨hlast, hrest⟩ := ih hnext hnd fun x hx => by
      rw [hkeep x fun he => hmem (he ▸ hx)]
      exact hp x (List.mem_cons_of_mem _ hx)
    refine ⟨hlast, fun x hx => ?_⟩
    obtain ⟨hne, hx⟩ := not_or.mp (fun hor => hx (List.mem_cons.mpr hor))
    exact (hrest x hx).trans (hkeep x hne)

/-! ## A campaign starts -/

/-- No entry of an IDLE campaign is in flight, and no baseline waits (R138). -/
theorem Visible.Linked.quiet {k : Visible} (h : k.Linked d) (hidle : k.idle = true) (c : Nat) :
    (k.view c).status.any EntryStatus.inFlight = false ∧ c ∉ k.committing := by
  have hall := h.whole.idle
  rw [hidle] at hall
  have hstatus : (k.view c).status.any EntryStatus.inFlight = false := by
    cases hs : (k.view c).status with
    | none => rfl
    | some st =>
      have := List.all_eq_true.mp hall.symm _ (Visible.mem_of_status hs)
      cases st with
      | finished r => rfl
      | _ => cases this
  refine ⟨hstatus, fun hc => ?_⟩
  have := h.status_committing hc
  have hparts := CircuitView.any_inFlight (k.view c).status
  rw [hstatus, eq_comm, Bool.or_eq_false_iff] at hparts
  rw [hparts.2] at this
  cases this

/-- The entries of a campaign over a list. -/
def freshEntries (ids : List Nat) : List CaptureEntry := ids.map fun c => ⟨c, .unprocessed⟩

theorem freshEntries_circuits (ids : List Nat) : (freshEntries ids).map (·.circuit) = ids := by
  unfold freshEntries
  rw [List.map_map]
  exact List.map_id ids

/-- A campaign over a list takes the place of a concluded one (R125). -/
theorem Visible.Linked.start {k : Visible} {ids : List Nat} (h : k.Linked d) (hidle : k.idle = true) (hnd : ids.Nodup) :
    ({ k with
      entries := freshEntries ids, handOff := [], idle := ids.isEmpty
      captureDone := if ids.isEmpty then 0 else 1 } : Visible).Linked d := by
  refine ⟨fun c => ?_, h.lanes, { h.whole with nodup := ?_, idle := ?_, captureDone := rfl }⟩
  · obtain ⟨hold, hc⟩ := h.quiet hidle c
    refine (h.views c).restatus hold ?_ ?_
    · cases hf : (freshEntries ids).find? fun e => e.circuit == c with
      | none => rfl
      | some e =>
        obtain ⟨x, -, rfl⟩ := List.mem_map.mp (List.mem_of_find?_eq_some hf)
        rfl
    · exact List.count_eq_zero.mpr fun hx => hc (List.mem_append.mpr (.inr hx))
  · show ((freshEntries ids).map (·.circuit)).Nodup
    rw [freshEntries_circuits]
    exact hnd
  · show ids.isEmpty = (freshEntries ids).all _
    cases ids <;> rfl

/-! ## A campaign runs -/

theorem State.Linked.reachUndefined (h : s.Linked d) (c : Nat) : (s.reachUndefined c).Linked d := by
  unfold State.reachUndefined
  dsimp only
  split
  · next hc =>
    have hs := State.status_of_unprocessed hc.2.1
    split
    · exact h.finishUnprocessed hs _
    · split
      · exact h.finishUnprocessed hs _
      · exact h
  · exact h

/-- The state as the campaign becomes RUNNING, before the entries without a definition are reached (R126). -/
def State.asRunning (s : State) : State := { s with campaign := { s.campaign with state := .running } }

theorem State.Linked.startRunning (h : s.asRunning.Linked d) : s.startRunning.Linked d := by
  unfold State.startRunning
  exact State.Linked.lookAtAll (h.foldl (fun _ c hu => hu.reachUndefined c) _)

theorem State.visible_withCampaign (s : State) {k : Campaign} (hentries : k.entries = s.campaign.entries)
    (hhandOff : k.handOff = s.campaign.handOff) (hidle : (k.state == .idle) = (s.campaign.state == .idle)) :
    State.visible { s with campaign := k } = s.visible := by
  show { s.visible with
    entries := k.entries, handOff := k.handOff.map HandOff.circuit, idle := k.state == CampaignState.idle } = _
  rw [hentries, hhandOff, hidle]
  rfl

theorem State.Linked.withCampaign (h : s.Linked d) {k : Campaign} (hentries : k.entries = s.campaign.entries)
    (hhandOff : k.handOff = s.campaign.handOff) (hidle : (k.state == .idle) = (s.campaign.state == .idle)) :
    State.Linked d { s with campaign := k } := h.of_visible (s.visible_withCampaign hentries hhandOff hidle)

theorem State.Linked.resumeIfFree (h : s.Linked d) : s.resumeIfFree.Linked d := by
  unfold State.resumeIfFree
  dsimp only
  split
  · next hc =>
    refine State.Linked.startRunning (h.withCampaign rfl rfl ?_)
    obtain hs | hs := hc.1 <;> · rw [hs]; rfl
  · exact h

theorem State.Linked.stackEmptied (h : s.Linked d) : s.stackEmptied.Linked d :=
  State.Linked.resumeIfFree (h.withCampaign rfl rfl rfl)

theorem State.Linked.followReasons (h : s.Linked d) {k : Campaign} (hentries : k.entries = s.campaign.entries)
    (hhandOff : k.handOff = s.campaign.handOff) (hidle : (k.state == .idle) = (s.campaign.state == .idle)) :
    State.Linked d { s with campaign := k.followReasons } := h.of_visible (State.visible_followReasons hentries hhandOff hidle)

theorem State.Linked.windowOpened (h : s.Linked d) : s.windowOpened.Linked d := by
  unfold State.windowOpened
  split
  · exact h
  · exact h.followReasons rfl rfl rfl

theorem State.Linked.suspend (h : s.Linked d) : s.suspend.Linked d := by
  unfold State.suspend
  dsimp only
  split
  · exact h
  · split
    · exact h.withCampaign rfl rfl rfl
    · exact h.followReasons rfl rfl rfl

theorem State.Linked.resume (h : s.Linked d) : s.resume.Linked d := by
  unfold State.resume
  dsimp only
  split
  · exact State.Linked.resumeIfFree (h.withCampaign rfl rfl rfl)
  · exact h

theorem State.Linked.startCampaign (h : s.Linked d) (hidle : s.campaign.state = .idle) {ids : List Nat} (hnd : ids.Nodup) :
    (s.startCampaign ids).1.Linked d := by
  have hstarted := Visible.Linked.start (k := s.visible) (ids := ids) h (beq_iff_eq.mpr hidle) hnd
  have hdone : s.visible.captureDone = 0 := by
    have := h.whole.captureDone
    rw [this, show s.visible.idle = true from beq_iff_eq.mpr hidle]
    rfl
  have hreserved : ∀ k : Campaign, k.entries = freshEntries ids → k.handOff = [] → (k.state == .idle) = false → ids ≠ [] →
      State.visible { State.reserve { s with campaign := freshCampaign ids } .captureDone with campaign := k } =
        { s.visible with
          entries := freshEntries ids, handOff := [], idle := ids.isEmpty
          captureDone := if ids.isEmpty then 0 else 1 } := by
    intro k hentries hhandOff hstate hne
    have hempty : ids.isEmpty = false := by
      cases ids with
      | nil => exact absurd rfl hne
      | cons => rfl
    rw [hempty]
    show { s.visible with
      entries := k.entries, handOff := k.handOff.map HandOff.circuit, idle := k.state == CampaignState.idle
      captureDone := s.visible.captureDone + 1 } = _
    rw [hentries, hhandOff, hstate, hdone]
    rfl
  unfold State.startCampaign
  dsimp only
  by_cases hnil : ids = []
  · subst hnil
    rw [if_pos rfl]
    show (State.endCampaign _).visible.Linked d
    rw [State.visible_endCampaign, State.visible_reserve]
    have hfinal : ({ s.visible with
        entries := freshEntries [], handOff := [], idle := true
        captureDone := s.visible.captureDone + 1 - 1 } : Visible) =
        { s.visible with entries := freshEntries [], handOff := [], idle := true, captureDone := 0 } := by rw [hdone]
    exact (congrArg (fun k : Visible => k.Linked d) hfinal).mpr hstarted
  · rw [if_neg hnil]
    split <;> dsimp only
    · refine State.Linked.startRunning ?_
      exact (congrArg (fun k : Visible => k.Linked d) (hreserved { freshCampaign ids with state := .running } rfl rfl rfl
        hnil)).mpr hstarted
    · exact (congrArg (fun k : Visible => k.Linked d)
        (hreserved { freshCampaign ids with state := .suspended, window := true } rfl rfl rfl hnil)).mpr hstarted

/-! ## A campaign is cancelled -/

theorem State.status_finishEntry_other (s : State) {x : Nat} (hx : x ≠ c) (res : CaptureResult) :
    ((s.finishEntry c res).visible.view x).status = (s.visible.view x).status := by
  rw [State.visible_finishEntry, Visible.conclude_view]
  exact Visible.status_restated_other hx rfl

theorem State.stopCapture_campaign (s : State) (c : Nat) : (s.stopCapture c).campaign = s.campaign := by
  unfold State.stopCapture
  split <;> rfl

theorem State.status_of_campaign (h : t.campaign = s.campaign) (x : Nat) :
    (t.visible.view x).status = (s.visible.view x).status := by
  show (t.campaign.entries.find? _).map _ = _
  rw [h]
  rfl

theorem State.Linked.cancelMeasuring (h : s.Linked d) (hm : ∃ l, (s.visible.view c).status = some (.measuring l)) :
    (s.cancelMeasuring c).Linked d ∧
      ∀ x, x ≠ c → ((s.cancelMeasuring c).visible.view x).status = (s.visible.view x).status := by
  obtain ⟨l, hm⟩ := hm
  refine ⟨h.finishMeasured hm (State.stopCapture_ended hm) .cancelled, fun x hx => ?_⟩
  unfold State.cancelMeasuring
  rw [State.visible_makeIdle]
  exact ((s.stopCapture c).status_finishEntry_other hx .cancelled).trans
    (State.status_of_campaign (s.stopCapture_campaign c) x)

theorem State.Linked.mem_withStatus (h : s.Linked d) {p : EntryStatus → Bool} (hc : c ∈ s.campaign.withStatus p) :
    ∃ st, (s.visible.view c).status = some st ∧ p st = true := by
  obtain ⟨e, he, rfl⟩ := List.mem_map.mp hc
  obtain ⟨he, hp⟩ := List.mem_filter.mp he
  exact ⟨e.status, State.status_of_mem h.whole.nodup he, hp⟩

theorem State.Linked.cancel (h : s.Linked d) : s.cancel.1.Linked d := by
  have hstart : State.Linked d { s with campaign := { s.campaign with cancelled := true } } := h.withCampaign rfl rfl rfl
  have hnd : (s.campaign.entries.map (·.circuit)).Nodup := h.whole.nodup
  obtain ⟨hmeasured, hkept⟩ := hstart.foldlOn (f := State.cancelMeasuring) (g := fun u c => (u.visible.view c).status)
    (p := fun st => ∃ l, st = some (.measuring l)) (fun u c hu hm => hu.cancelMeasuring hm)
    (Campaign.withStatus_nodup (p := EntryStatus.isMeasuring) hnd) fun c hc => by
      obtain ⟨st, hst, hm⟩ := h.mem_withStatus hc
      exact (CircuitView.any_isMeasuring_iff _).mp (hst ▸ hm : (s.visible.view c).status.any EntryStatus.isMeasuring = true)
  refine (hmeasured.foldlOn (f := fun u c => u.finishEntry c .cancelled) (g := fun u c => (u.visible.view c).status)
    (p := fun st => st = some .unprocessed) (fun u c hu hs => ⟨hu.finishUnprocessed hs _, fun x hx =>
      u.status_finishEntry_other hx .cancelled⟩)
    (Campaign.withStatus_nodup (p := (· == .unprocessed)) hnd) fun c hc => ?_).1
  obtain ⟨st, hst, hu⟩ := h.mem_withStatus hc
  have hst' : (s.visible.view c).status = some .unprocessed := by rw [hst, beq_iff_eq.mp hu]
  refine (hkept c fun hm => ?_).trans hst'
  obtain ⟨st', hst'', hmeasuring⟩ := h.mem_withStatus hm
  rw [hst'] at hst''
  cases hst''
  cases hmeasuring

end

end Sys2Proof.Machine


/-! # Sense events keep the agreement -/

namespace Sys2Proof.Machine

section
variable {s t u : State} {d d' : Slack} {c : Nat} {l : LaneId}

/-! ## Entries appended, captures disturbed -/

theorem State.appendEntry_circuit_other (s : State) (e : QueueEntry) {x : Nat} (hx : x ≠ e.circuit) :
    (s.appendEntry e).circuit x = s.circuit x :=
  (congrFun (State.circuit_of_visible (s.visible_appendEntry e)) x).trans (Function.update_of_ne hx _ _)

/-- An IDLE circuit is queued (R20, R158). -/
theorem State.Linked.appendIdle (h : s.Linked d) {e : QueueEntry} (hidle : (s.circuit e.circuit).state = .idle)
    (hslot : s.visible.slot ≠ some e.circuit) : (s.appendEntry e).Linked d := by
  have hzero : (s.circuit e.circuit).holds = 0 := (h.views e.circuit).holds_as.2 (.inl hidle)
  have hqueue : s.visible.queued.count e.circuit + d.missing e.circuit =
      if (s.circuit e.circuit).state = .pending then 1 else 0 := (h.views e.circuit).queue
  rw [hidle, if_neg nofun] at hqueue
  show (s.appendEntry e).visible.Linked d
  rw [State.visible_appendEntry]
  refine Visible.Linked.restand h (s.visible.queueFor_append _) (.inl hidle) rfl rfl (.inr (.inr rfl)) ⟨nofun, fun _ => hzero⟩ ?_
    hslot (fun _ _ => rfl) (fun _ _ => rfl) (fun _ _ => rfl) rfl
  rw [Visible.count_append_self, if_pos rfl]
  omega

/-- A circuit in its commit phase keeps its place when what only its settling reads of its record changes. -/
theorem State.Linked.modifyCapturing (h : s.Linked d) (hc : (s.circuit c).state = .capturing) {f : Circuit → Circuit}
    (hstate : (f (s.circuit c)).state = (s.circuit c).state) (hholds : (f (s.circuit c)).holds = (s.circuit c).holds)
    (hdef : (f (s.circuit c)).definition = (s.circuit c).definition) : (s.modifyCircuit c f).Linked d := by
  show (s.modifyCircuit c f).visible.Linked d
  rw [State.visible_modifyCircuit]
  refine Visible.Linked.retouch h hstate hholds hdef (.inr ?_) fun hslot => absurd hslot (h.not_waiting (by rw [hc]; nofun))
  exact (h.views c).runs fun he => by
    rw [show (s.visible.view c).record.state = _ from hc] at he
    cases he

theorem State.disturb_circuit_other (s : State) {x : Nat} (hx : x ≠ c) : (s.disturb c).circuit x = s.circuit x := by
  unfold State.disturb
  split
  · have hstop : (s.stopCapture c).circuit = s.circuit := by
      unfold State.stopCapture
      split <;> rfl
    refine (State.appendEntry_circuit_other _ _ hx).trans ?_
    rw [State.finishEntry_circuit_eq, hstop]
  · exact State.circuit_modifyCircuit_other s hx _

theorem State.Linked.disturb (h : s.Linked d) (hc : (s.circuit c).state = .capturing) : (s.disturb c).Linked d := by
  unfold State.disturb
  split
  · next hm =>
    rw [s.entryIs_eq] at hm
    obtain ⟨l, hl⟩ := (CircuitView.any_isMeasuring_iff _).mp hm
    exact h.disturbMeasured hl (State.stopCapture_ended hl) .disturbed rfl
  · exact h.modifyCapturing hc rfl rfl rfl

/-! ## Events -/

theorem State.Linked.verifySpan (h : s.Linked d) (hnd : ∀ p, (s.crossing p).Nodup) (span : Nat) :
    (s.verifySpan span).1.Linked d := by
  obtain ⟨hqueued, hkept⟩ := h.foldlOn (f := fun u c => u.appendEntry (plainEntry c .sense)) (g := State.circuit)
    (p := fun r => r.state = .idle ∧ r.changing = false) (fun u c hu hp =>
      ⟨hu.appendIdle (e := plainEntry c .sense) hp.1 (hu.not_waiting_of_unchanging hp.2), fun x hx =>
        u.appendEntry_circuit_other (plainEntry c .sense) hx⟩) (cs := s.toVerify span) ((hnd span).filter _) fun c hc => by
      simpa using (List.mem_filter.mp hc).2
  refine (hqueued.foldlOn (f := State.disturb) (g := State.circuit) (p := fun r => r.state = .capturing) (fun u c hu hp =>
    ⟨hu.disturb hp, fun x hx => u.disturb_circuit_other hx⟩) (cs := s.toDisturb span) ((hnd span).filter _) fun c hc => ?_).1
  have hcapturing : (s.circuit c).state = .capturing := by simpa using (List.mem_filter.mp hc).2
  refine (congrArg Circuit.state (hkept c fun hv => ?_)).trans hcapturing
  have hidle : (s.circuit c).state = .idle ∧ (s.circuit c).changing = false := by simpa using (List.mem_filter.mp hv).2
  rw [hcapturing] at hidle
  cases hidle.1

/-- An event logged leaves the ids and the spans of the windows. -/
theorem logEvent_windows (e : SenseEvent) (ws : List Window) :
    ((logEvent e ws).1.map fun w => (w.id, w.spans)) = ws.map fun w => (w.id, w.spans) := by
  induction ws with
  | nil => rfl
  | cons w ws ih =>
    unfold logEvent
    split
    · split <;> rfl
    · exact congrArg (List.cons (w.id, w.spans)) ih

theorem State.Linked.routeEvent (h : s.Linked d) (hnd : ∀ p, (s.crossing p).Nodup) (l : LineId) :
    (s.routeEvent l).1.Linked d := by
  unfold State.routeEvent
  dsimp only
  split
  · exact h
  · next hspan =>
    have hwindows := logEvent_windows ⟨l, (s.line l).span, s.clock, (s.line l).mode⟩ s.stack
    split
    · next stack id appended hlog =>
      rw [hlog] at hwindows
      exact h.of_visible (congrArg (fun ws => { s.visible with windows := ws }) hwindows)
    · split
      · exact h.verifySpan hnd _
      · exact h

theorem State.Linked.takeEvent (h : s.Linked d) (hnd : ∀ p, (s.crossing p).Nodup) (l : LineId) : (s.takeEvent l).Linked d :=
  State.Linked.of_visible (h.routeEvent hnd l) (State.visible_queueUnreserved _ _)

theorem State.Linked.settleLine (h : s.Linked d) (hnd : ∀ p, (s.crossing p).Nodup) (l : LineId) (r : SenseLine) :
    (s.settleLine l r).Linked d := by
  unfold State.settleLine
  dsimp only
  have hline : (s.setLine l r.masking).Linked d := h.of_visible rfl
  split
  · exact hline.takeEvent hnd l
  · exact hline

theorem State.Linked.senseInput (h : s.Linked d) (hnd : ∀ p, (s.crossing p).Nodup) (l : LineId) (high : Bool) :
    (s.senseInput l high).Linked d := by
  unfold State.senseInput
  dsimp only
  split
  · exact h
  · exact h.settleLine hnd l _

end

end Sys2Proof.Machine


/-! # Holds keep the agreement -/

namespace Sys2Proof.Machine

/-! ## A circuit in its commit phase is held and released -/

namespace Visible

variable {k k' : Visible} {d d' : Slack} {c : Nat} {l : LaneId} {r : Circuit}

/-- A circuit in its commit phase takes another hold count (R6, R7, R8). -/
theorem Linked.recount (h : k.Linked d) (hs : (k.view c).status.any EntryStatus.isCommitting = true)
    (hdef : r.definition = (k.circuits c).definition) (hstate : r.state = .capturing)
    (hholds : r.holds + d'.short c + d.extra c = (k.circuits c).holds + d.short c + d'.extra c)
    (hshort : ∀ x, x ≠ c → d'.short x = d.short x) (hextra : ∀ x, x ≠ c → d'.extra x = d.extra x)
    (hmissing : ∀ x, d'.missing x = d.missing x) (hspare : d'.spare = d.spare) : (k.setRecord c r).Linked d' := by
  obtain ⟨hrun, hdefined, -, hqueue, hgranted, hmeasured, hstatus, hcommits, hslot⟩ := h.stands_committing hs
  have ht : Turns d d' k (k.setRecord c r) c r := ⟨Function.update_self .., hdef, rfl, hrun, hholds⟩
  refine h.change c (fun x hx => view_eq (hrecord := Function.update_of_ne hx _ _)) hshort hextra (fun x _ => hmissing x) ?_
    h.lanes (hspare ▸ { h.whole with })
  refine ht.committing h hdefined hstate ?_ hgranted hmeasured hstatus hcommits hslot
  rw [hmissing c]
  exact hqueue

end Visible

/-- What is owed while holds are added to the circuits of a list. -/
def Slack.holding (cs : List Nat) : Slack where
  short := fun x => if x ∈ cs then 1 else 0

/-- What is owed while holds are taken from the circuits of a list, those released so far having no entry yet, and the
reservation of the window that has ended no new owner. -/
def Slack.ending (cs released : List Nat) : Slack where
  extra := fun x => if x ∈ cs then 1 else 0
  missing := fun x => if x ∈ released then 1 else 0
  spare := 1

theorem mem_cons_of_ne {α : Type} {x c : α} {cs : List α} (hx : x ≠ c) : x ∈ c :: cs ↔ x ∈ cs := by
  rw [List.mem_cons]
  exact or_iff_right hx

theorem Slack.holding_other {c x : Nat} {cs : List Nat} (hx : x ≠ c) :
    (Slack.holding cs).short x = (Slack.holding (c :: cs)).short x := by
  unfold Slack.holding
  simp only [mem_cons_of_ne hx]

theorem Slack.ending_other {c x : Nat} {cs done : List Nat} (hx : x ≠ c) :
    (Slack.ending cs done).extra x = (Slack.ending (c :: cs) done).extra x := by
  unfold Slack.ending
  simp only [mem_cons_of_ne hx]

theorem Slack.missing_other {c x : Nat} {cs done : List Nat} (hx : x ≠ c) :
    (Slack.ending cs (c :: done)).missing x = (Slack.ending cs done).missing x := by
  unfold Slack.ending
  simp only [mem_cons_of_ne hx]

section
variable {s t u : State} {d d' : Slack} {c : Nat} {l : LaneId} {cs done : List Nat}

theorem State.Linked.defined (h : s.Linked d) (hdef : (s.circuit c).definition.isSome = true) :
    (s.circuit c).defined = true := by
  have hviews : (s.circuit c).definition.isSome = (s.circuit c).defined := (h.views c).defined
  rw [← hviews, hdef]

/-! ## Holds added (R6) -/

/-- The record of a circuit with one hold more that is HELD. -/
def Circuit.heldAgain (r : Circuit) : Circuit := { r with holds := r.holds + 1, state := .held }

theorem State.visible_heldAgain (s : State) (c : Nat) :
    ((s.modifyCircuit c fun r => { r with holds := r.holds + 1 }).setCircuitState c .held).visible =
      s.visible.setRecord c (s.circuit c).heldAgain := by
  rw [State.visible_setCircuitState, State.visible_modifyCircuit, Visible.setRecord_setRecord,
    State.circuit_modifyCircuit_self]
  rfl

theorem State.grantOf_of_share (hg : (s.visible.lanes l).grant = some c) (hl : s.laneOf c = some l) :
    ∃ g, (s.lane l).grant = some g ∧ g.entry.circuit = c ∧ s.grantOf c = some (l, g) := by
  obtain ⟨g, hgrant, hc⟩ := Option.map_eq_some_iff.mp (show (s.lane l).grant.map _ = some c from hg)
  refine ⟨g, hgrant, hc, ?_⟩
  unfold State.grantOf
  rw [hl]
  dsimp only
  rw [hgrant]
  exact if_pos hc

theorem Circuit.heldAgain_holdsAs (r : Circuit) : CircuitView.holdsAs r.heldAgain :=
  ⟨fun _ => Nat.le_add_left .., fun he => he.elim nofun nofun⟩

theorem Slack.holding_holds (hc : c ∉ cs) (n : Nat) :
    n + 1 + (Slack.holding cs).short c + (Slack.holding (c :: cs)).extra c =
      n + (Slack.holding (c :: cs)).short c + (Slack.holding cs).extra c := by
  have hone : (Slack.holding (c :: cs)).short c = 1 := if_pos List.mem_cons_self
  have hzero : (Slack.holding cs).short c = 0 := if_neg hc
  rw [hone, hzero]
  rfl

section
variable (h : s.Linked (.holding (c :: cs))) (hc : c ∉ cs)
include h hc

/-- An IDLE or HELD circuit is held. -/
theorem State.Linked.holdOut (hslot : s.visible.slot ≠ some c)
    (hstate : (s.circuit c).state = .idle ∨ (s.circuit c).state = .held) :
    (s.visible.setRecord c (s.circuit c).heldAgain).Linked (.holding cs) := by
  have hqueue : s.visible.queued.count c = if (s.circuit c).state = .pending then 1 else 0 := (h.views c).queue
  rw [if_neg fun he => by rw [he] at hstate; exact hstate.elim nofun nofun] at hqueue
  exact Visible.Linked.restand (q := s.visible.queued) h (s.visible.queueFor_same c) (hstate.imp_right .inl) rfl
    (Slack.holding_holds hc _) (.inr (.inl rfl)) (Circuit.heldAgain_holdsAs _) hqueue hslot (fun _ hx => Slack.holding_other hx)
    (fun _ _ => rfl) (fun _ _ => rfl) rfl

/-- A PENDING circuit is held, and its entry leaves the queue. -/
theorem State.Linked.holdPending (hslot : s.visible.slot ≠ some c) (hstate : (s.circuit c).state = .pending) :
    ((s.visible.setRecord c (s.circuit c).heldAgain).setQueue (s.visible.queued.filter (· != c))).Linked (.holding cs) :=
  Visible.Linked.restand h (s.visible.queueFor_filter c) (.inr (.inr hstate)) rfl (Slack.holding_holds hc _) (.inr (.inl rfl))
    (Circuit.heldAgain_holdsAs _) (Visible.count_filter_self _) hslot (fun _ hx => Slack.holding_other hx) (fun _ _ => rfl)
    (fun _ _ => rfl) rfl

/-- A PROBING circuit is held, and taken back from its lane (R6, R63). -/
theorem State.Linked.holdProbing (hstate : (s.circuit c).state = .probing) {held : State}
    (hheld : held.visible = s.visible.setRecord c (s.circuit c).heldAgain) : (held.takeBack c).Linked (.holding cs) := by
  have hdefined : (s.circuit c).definition.isSome = (s.circuit c).defined := (h.views c).defined
  rw [show (s.circuit c).defined = true by simp [Circuit.defined, hstate]] at hdefined
  obtain ⟨x, hx⟩ := Option.isSome_iff_exists.mp hdefined
  have hlane : s.laneOf c = some x.lane := State.laneOf_of_definition hx
  have hgrant : (s.visible.lanes x.lane).grant = some c := beq_iff_eq.mp (((h.views c).granted x.lane).mpr ⟨hstate, hlane⟩)
  have hlane' : held.laneOf c = some x.lane := by
    unfold State.laneOf
    rw [State.circuit_of_visible hheld]
    show ((Function.update s.circuit c (s.circuit c).heldAgain) c).definition.map _ = _
    rw [Function.update_self]
    exact hlane
  obtain ⟨g, -, -, hgrantOf⟩ := State.grantOf_of_share (s := held) (l := x.lane) (by rw [hheld]; exact hgrant) hlane'
  have hqueue : s.visible.queued.count c = if (s.circuit c).state = .pending then 1 else 0 := (h.views c).queue
  rw [hstate, if_neg nofun] at hqueue
  obtain ⟨w, hw⟩ := (held.lane x.lane).stop_share
  unfold State.takeBack
  rw [hgrantOf]
  dsimp only
  refine State.Linked.countReHold ?_ _
  show (State.returnReservation _ .verdict).visible.Linked _
  rw [State.visible_returnReservation, State.visible_modifyLane, hw, hheld]
  exact Visible.Linked.ungrant (q := s.visible.queued) h hgrant (LaneShare.ended_ok w) (LaneShare.ended_free w)
    (s.visible.queueFor_same c) rfl (Slack.holding_holds hc _) (.inr (.inl rfl)) (Circuit.heldAgain_holdsAs _) hqueue
    (fun _ hx => Slack.holding_other hx) (fun _ _ => rfl) (fun _ _ => rfl) rfl

/-- A circuit whose capture is being measured is held, and the capture abandoned (R6, R131). -/
theorem State.Linked.holdMeasured (hl : (s.visible.view c).status = some (.measuring l)) :
    ((s.modifyCircuit c fun r => { r with holds := r.holds + 1 }).abandonCapture c).Linked (.holding cs) := by
  let u := s.modifyCircuit c fun r => { r with holds := r.holds + 1 }
  obtain ⟨-, -, -, -, -, hqueue, -⟩ := h.stands_measured hl
  obtain ⟨w, hw, hcircuit⟩ := State.visible_stopCapture (s := u) (c := c) (l := l) hl
  have hheld : ((u.stopCapture c).setCircuitState c .held).visible =
      (s.visible.setRecord c (s.circuit c).heldAgain).setLane l ⟨none, none, .none, w⟩ := by
    rw [State.visible_setCircuitState, hw, hcircuit, State.visible_modifyCircuit, State.circuit_modifyCircuit_self]
    exact congrArg (fun k : Visible => k.setLane l ⟨none, none, .none, w⟩)
      (Visible.setRecord_setRecord s.visible c _ (s.circuit c).heldAgain)
  have hsame := Visible.conclude_unprocessed (c := c)
    (k' := ((s.visible.setRecord c (s.circuit c).heldAgain).setLane l ⟨none, none, .none, w⟩).setStatus c .unprocessed) hl rfl
  show (State.returnEntry _ c).visible.Linked _
  rw [State.visible_returnEntry, hheld, ← hsame]
  exact Visible.Linked.unmeasure (q := s.visible.queued) h hl (LaneShare.ended_ok w) (LaneShare.ended_free w) rfl
    (s.visible.queueFor_same c) rfl (Slack.holding_holds hc _) (.inr (.inl rfl)) (Circuit.heldAgain_holdsAs _) hqueue
    (fun _ hx => Slack.holding_other hx) (fun _ _ => rfl) (fun _ _ => rfl) rfl

end

theorem State.Linked.addHold (h : s.Linked (.holding (c :: cs))) (hc : c ∉ cs) (hslot : s.visible.slot = none)
    (hdef : (s.circuit c).definition.isSome = true) : (s.addHold c).Linked (.holding cs) := by
  have hslot' : s.visible.slot ≠ some c := by rw [hslot]; nofun
  have hdefined := h.defined hdef
  have hheld : ((s.modifyCircuit c fun r => { r with holds := r.holds + 1 }).setCircuitState c .held).visible =
      s.visible.setRecord c (s.circuit c).heldAgain := s.visible_heldAgain c
  unfold State.addHold
  dsimp only
  split
  · next hstate =>
    show (State.setCircuitState _ c .held).visible.Linked _
    rw [hheld]
    exact h.holdOut hc hslot' (.inl hstate)
  · next hstate =>
    show (State.setCircuitState _ c .held).visible.Linked _
    rw [hheld]
    exact h.holdOut hc hslot' (.inr hstate)
  · next hstate =>
    refine State.Linked.countReHold ?_ _
    have hdropped := State.visible_dropEntry
      ((s.modifyCircuit c fun r => { r with holds := r.holds + 1 }).setCircuitState c .held) c
    rw [hheld] at hdropped
    exact (congrArg (fun k : Visible => k.Linked _) hdropped).mpr (h.holdPending hc hslot' hstate)
  · next hstate => exact h.holdProbing hc hstate hheld
  · next hstate =>
    split
    · next hm =>
      rw [s.entryIs_eq] at hm
      obtain ⟨l, hl⟩ := (CircuitView.any_isMeasuring_iff _).mp hm
      exact h.holdMeasured hc hl
    · next hm =>
      rw [s.entryIs_eq] at hm
      have hcommitting := (Visible.Linked.capturing_cases h hstate).resolve_left fun ⟨j, hj⟩ => hm (by rw [hj]; rfl)
      show (State.modifyCircuit _ c _).visible.Linked _
      rw [State.visible_modifyCircuit, State.visible_modifyCircuit, Visible.setRecord_setRecord,
        State.circuit_modifyCircuit_self]
      exact Visible.Linked.recount h hcommitting rfl hstate (Slack.holding_holds hc _) (fun _ hx => Slack.holding_other hx)
        (fun _ _ => rfl) (fun _ => rfl) rfl
  · next hstate => simp [Circuit.defined, hstate] at hdefined
  · next hstate => simp [Circuit.defined, hstate] at hdefined

theorem State.Linked.addHolds (h : s.Linked (.holding cs)) (hnd : cs.Nodup) (hslot : s.visible.slot = none)
    (hdef : ∀ c ∈ cs, (s.circuit c).definition.isSome = true) : (cs.foldl State.addHold s).Linked {} := by
  induction cs generalizing s with
  | nil => exact h
  | cons c cs ih =>
    obtain ⟨hc, hnd⟩ := List.nodup_cons.mp hnd
    have hmoves : Moves false false s (s.addHold c) := Moves.nil.addHold c
    have hprocessor : (s.addHold c).visible.slot = s.visible.slot := congrArg Processor.slot hmoves.processor_eq
    refine ih (h.addHold hc hslot (hdef c List.mem_cons_self)) hnd (hprocessor.trans hslot) fun x hx => ?_
    rw [hmoves.sameCopies.definition]
    exact hdef x (List.mem_cons_of_mem _ hx)

/-! ## Holds removed (R7, R8) -/

/-- A circuit under a window is HELD or in the commit phase of its capture. -/
theorem State.Linked.held_cases (h : s.Linked d) (hdef : (s.circuit c).definition.isSome = true)
    (hholds : (s.circuit c).holds ≠ 0) :
    (s.circuit c).state = .held ∨
      ((s.circuit c).state = .capturing ∧ (s.visible.view c).status.any EntryStatus.isCommitting = true) := by
  have hdefined := h.defined hdef
  have hfits := (h.views c).fits
  cases hs : (s.circuit c).state with
  | held => exact .inl rfl
  | capturing =>
    obtain ⟨j, hj⟩ | hcommitting := Visible.Linked.capturing_cases h hs
    · rw [show (s.visible.view c).record.state = _ from hs] at hfits
      exact absurd (hfits (by rw [hj]; rfl)) hholds
    · exact .inr ⟨rfl, hcommitting⟩
  | empty => simp [Circuit.defined, hs] at hdefined
  | unreadable => simp [Circuit.defined, hs] at hdefined
  | _ =>
    rw [show (s.visible.view c).record.state = _ from hs] at hfits
    exact absurd hfits hholds

/-- A circuit that a window which has ended crossed still has its hold. -/
theorem State.Linked.holds_ne_zero (h : s.Linked (.ending (c :: cs) done)) : (s.circuit c).holds ≠ 0 := by
  have hholds : (s.circuit c).holds + 0 = s.visible.windowsOver (s.circuit c).spans + if c ∈ c :: cs then 1 else 0 :=
    (h.views c).holds
  rw [if_pos List.mem_cons_self] at hholds
  omega

section
variable (h : s.Linked (.ending (c :: cs) done)) (hc : c ∉ cs)
include h hc

/-- A HELD circuit keeps holds. -/
theorem State.Linked.stayHeld {r : Circuit} (hstate : (s.circuit c).state = .held) (hmore : 1 < (s.circuit c).holds)
    (hdef : r.definition = (s.circuit c).definition) (hholds : r.holds = (s.circuit c).holds - 1) (hr : r.state = .held) :
    (s.setCircuit c r).Linked (.ending cs done) := by
  have hqueue : s.visible.queued.count c + (Slack.ending (c :: cs) done).missing c =
      if (s.circuit c).state = .pending then 1 else 0 := (h.views c).queue
  rw [hstate, if_neg nofun] at hqueue
  have hone : (Slack.ending (c :: cs) done).extra c = 1 := if_pos List.mem_cons_self
  have hzero : (Slack.ending cs done).extra c = 0 := if_neg hc
  show (s.setCircuit c r).visible.Linked _
  rw [State.visible_setCircuit]
  refine Visible.Linked.restand (q := s.visible.queued) h (s.visible.queueFor_same c) (.inr (.inl hstate)) hdef ?_
    (.inr (.inl hr)) ⟨fun _ => by omega, fun he => by rw [hr] at he; exact he.elim nofun nofun⟩ ?_
    (h.not_waiting (by rw [hstate]; nofun)) (fun _ _ => rfl) (fun _ hx => Slack.ending_other hx) (fun _ _ => rfl) rfl
  · have hcount : (s.visible.circuits c).holds = (s.circuit c).holds := rfl
    rw [hone, hzero, hholds, hcount]
    show (s.circuit c).holds - 1 + 0 + 1 = (s.circuit c).holds + 0 + 0
    omega
  · rw [hr, if_neg nofun]
    exact hqueue

/-- A circuit in its commit phase loses one hold. -/
theorem State.Linked.stayCommitting {r : Circuit} (hs : (s.visible.view c).status.any EntryStatus.isCommitting = true)
    (hdef : r.definition = (s.circuit c).definition) (hholds : r.holds = (s.circuit c).holds - 1)
    (hr : r.state = .capturing) : (s.setCircuit c r).Linked (.ending cs done) := by
  have hone : (Slack.ending (c :: cs) done).extra c = 1 := if_pos List.mem_cons_self
  have hzero : (Slack.ending cs done).extra c = 0 := if_neg hc
  have hne := h.holds_ne_zero
  show (s.setCircuit c r).visible.Linked _
  rw [State.visible_setCircuit]
  refine Visible.Linked.recount h hs hdef hr ?_ (fun _ _ => rfl) (fun _ hx => Slack.ending_other hx) (fun _ => rfl) rfl
  have hcount : (s.visible.circuits c).holds = (s.circuit c).holds := rfl
  rw [hone, hzero, hholds, hcount]
  show (s.circuit c).holds - 1 + 0 + 1 = (s.circuit c).holds + 0 + 0
  omega

end

theorem State.setCircuit_modifyCircuit (s : State) (c : Nat) (r : Circuit) (f : Circuit → Circuit) :
    ((s.setCircuit c r).modifyCircuit c f).visible = (s.setCircuit c (f r)).visible := by
  rw [State.visible_modifyCircuit, State.visible_setCircuit, Visible.setRecord_setRecord, State.circuit_setCircuit_self,
    State.visible_setCircuit]

/-- The slack once a hold has been removed with an answer. -/
def HoldAnswer.slack (answer : HoldAnswer) (c : Nat) (cs done : List Nat) : Slack :=
  .ending cs (if answer = .released then c :: done else done)

theorem State.Linked.removeHold (h : s.Linked (.ending (c :: cs) done)) (hc : c ∉ cs)
    (hdef : (s.circuit c).definition.isSome = true) (cause : ReleaseCause) :
    (s.removeHold cause c).1.Linked ((s.removeHold cause c).2.slack c cs done) := by
  have hne := h.holds_ne_zero
  have hcases := h.held_cases hdef hne
  unfold State.removeHold
  dsimp only
  rw [if_neg hne]
  split
  · next hmore =>
    obtain hstate | ⟨hstate, hcommitting⟩ := hcases
    · exact h.stayHeld hc hstate hmore rfl rfl hstate
    · exact h.stayCommitting hc hcommitting rfl rfl hstate
  · next hmore =>
    have hholds : (s.circuit c).holds = 1 := by omega
    split
    · next hstate =>
      have hqueue : s.visible.queued.count c + (Slack.ending (c :: cs) done).missing c =
          if (s.circuit c).state = .pending then 1 else 0 := (h.views c).queue
      rw [hstate, if_neg nofun] at hqueue
      have hone : (Slack.ending (c :: cs) done).extra c = 1 := if_pos List.mem_cons_self
      have hzero : (Slack.ending cs (c :: done)).extra c = 0 := if_neg hc
      have hmissing : (Slack.ending cs (c :: done)).missing c = 1 := if_pos List.mem_cons_self
      show (State.modifyCircuit _ c _).visible.Linked (.ending cs (c :: done))
      rw [State.setCircuit_modifyCircuit, State.visible_setCircuit]
      refine Visible.Linked.restand (q := s.visible.queued) h (s.visible.queueFor_same c) (.inr (.inl hstate)) rfl ?_
        (.inr (.inr rfl)) ⟨nofun, fun _ => ?_⟩ ?_ (h.not_waiting (by rw [hstate]; nofun)) (fun _ _ => rfl)
        (fun _ hx => Slack.ending_other hx) (fun _ hx => Slack.missing_other hx) rfl
      · have hcount : (s.visible.circuits c).holds = (s.circuit c).holds := rfl
        rw [hone, hzero, hcount, hholds]
        rfl
      · show (s.circuit c).holds - 1 = 0
        omega
      · rw [hmissing, if_pos rfl]
        omega
    · next hstate =>
      obtain hheld | ⟨hcapturing, hcommitting⟩ := hcases
      · exact absurd hheld hstate
      · rw [if_pos hcapturing]
        show (State.modifyCircuit _ c _).visible.Linked (.ending cs done)
        rw [State.setCircuit_modifyCircuit]
        exact h.stayCommitting hc hcommitting rfl rfl hcapturing

theorem State.Linked.abortHold (h : s.Linked (.ending (c :: cs) [])) (hc : c ∉ cs)
    (hdef : (s.circuit c).definition.isSome = true) : (s.abortHold c).1.Linked (.ending cs []) := by
  have hne := h.holds_ne_zero
  have hcases := h.held_cases hdef hne
  unfold State.abortHold
  dsimp only
  rw [if_neg hne]
  split
  · next hmore =>
    obtain hstate | ⟨hstate, hcommitting⟩ := hcases
    · exact h.stayHeld hc hstate hmore rfl rfl hstate
    · exact h.stayCommitting hc hcommitting rfl rfl hstate
  · next hmore =>
    have hholds : (s.circuit c).holds = 1 := by omega
    split
    · next hstate =>
      have hqueue : s.visible.queued.count c + (Slack.ending (c :: cs) []).missing c =
          if (s.circuit c).state = .pending then 1 else 0 := (h.views c).queue
      rw [hstate, if_neg nofun] at hqueue
      have hone : (Slack.ending (c :: cs) []).extra c = 1 := if_pos List.mem_cons_self
      have hzero : (Slack.ending cs []).extra c = 0 := if_neg hc
      show (State.makeIdle _ c).visible.Linked (.ending cs [])
      rw [State.visible_makeIdle, State.visible_setCircuit, Visible.setRecord_setRecord, State.circuit_setCircuit_self]
      refine Visible.Linked.restand (q := s.visible.queued) h (s.visible.queueFor_same c) (.inr (.inl hstate)) rfl ?_
        (.inl rfl) ⟨nofun, fun _ => ?_⟩ hqueue (h.not_waiting (by rw [hstate]; nofun)) (fun _ _ => rfl)
        (fun _ hx => Slack.ending_other hx) (fun _ _ => rfl) rfl
      · have hcount : (s.visible.circuits c).holds = (s.circuit c).holds := rfl
        rw [hone, hzero, hcount, hholds]
        rfl
      · show (s.circuit c).holds - 1 = 0
        omega
    · next hstate =>
      obtain hheld | ⟨hcapturing, hcommitting⟩ := hcases
      · exact absurd hheld hstate
      · exact h.stayCommitting hc hcommitting rfl rfl hcapturing

/-- The list of the released circuits is as long as it is named, whatever the order it was gathered in. -/
theorem Slack.ending_congr {a b : List Nat} (h : ∀ x, x ∈ a ↔ x ∈ b) : Slack.ending cs a = Slack.ending cs b := by
  unfold Slack.ending
  simp only [h]

theorem State.Linked.releaseAll (cause : ReleaseCause) (h : s.Linked (.ending cs done)) (hnd : cs.Nodup)
    (hdef : ∀ c ∈ cs, (s.circuit c).definition.isSome = true) :
    (State.releaseAll cause cs s).1.Linked (.ending [] ((State.releaseAll cause cs s).2 ++ done)) ∧
      (State.releaseAll cause cs s).2.Sublist cs := by
  induction cs generalizing s done with
  | nil => exact ⟨h, List.Sublist.refl _⟩
  | cons c cs ih =>
    obtain ⟨hc, hnd⟩ := List.nodup_cons.mp hnd
    have hmoves : Moves false false s (s.removeHold cause c).1 := Moves.nil.removeHold cause c
    have hkept : ∀ x ∈ cs, ((s.removeHold cause c).1.circuit x).definition.isSome = true := fun x hx => by
      rw [hmoves.sameCopies.definition]
      exact hdef x (List.mem_cons_of_mem _ hx)
    have hnext := h.removeHold hc (hdef c List.mem_cons_self) cause
    unfold HoldAnswer.slack at hnext
    unfold State.releaseAll
    dsimp only
    by_cases hr : (s.removeHold cause c).2 = .released
    · rw [if_pos hr] at hnext ⊢
      obtain ⟨hall, hsub⟩ := ih hnext hnd hkept
      refine ⟨?_, hsub.cons_cons c⟩
      rw [Slack.ending_congr (b := (State.releaseAll cause cs (s.removeHold cause c).1).2 ++ c :: done) fun x => by
        simp only [List.cons_append, List.mem_cons, List.mem_append]
        tauto]
      exact hall
    · rw [if_neg hr] at hnext ⊢
      obtain ⟨hall, hsub⟩ := ih hnext hnd hkept
      exact ⟨hall, hsub.cons c⟩

theorem State.Linked.abortAll (h : s.Linked (.ending cs [])) (hnd : cs.Nodup)
    (hdef : ∀ c ∈ cs, (s.circuit c).definition.isSome = true) : (State.abortAll cs s).1.Linked (.ending [] []) := by
  induction cs generalizing s with
  | nil => exact h
  | cons c cs ih =>
    obtain ⟨hc, hnd⟩ := List.nodup_cons.mp hnd
    have hmoves : Moves false false s (s.abortHold c).1 := Moves.nil.abortHold c
    have hkept : ∀ x ∈ cs, ((s.abortHold c).1.circuit x).definition.isSome = true := fun x hx => by
      rw [hmoves.sameCopies.definition]
      exact hdef x (List.mem_cons_of_mem _ hx)
    exact ih (s := (s.abortHold c).1) (h.abortHold hc (hdef c List.mem_cons_self)) hnd hkept

end

end Sys2Proof.Machine


/-! # Windows keep the agreement -/

namespace Sys2Proof.Machine

/-! ## The circuits a window crosses -/

theorem mem_ascending {x : Nat} {l : List Nat} : x ∈ ascending l ↔ x ∈ l := by
  have h : ∀ (l acc : List Nat), x ∈ l.foldl (fun acc a => insertAsc a acc) acc ↔ x ∈ l ∨ x ∈ acc := by
    intro l
    induction l with
    | nil => simp
    | cons a l ih =>
      intro acc
      rw [List.foldl_cons, ih, mem_insertAsc, List.mem_cons]
      tauto
  exact (h l []).trans (or_iff_left List.not_mem_nil)

section
variable {s t u : State} {d d' : Slack} {c n : Nat} {l : LaneId} {cs released : List Nat} {w : Window}

theorem State.mem_crossingAny (h : IndexesFor s s.definitions) {spans : List Nat} :
    c ∈ s.crossingAny spans ↔ (s.circuit c).spans.any spans.contains = true := by
  unfold State.crossingAny
  rw [mem_ascending, List.mem_flatMap, List.any_eq_true]
  constructor
  · rintro ⟨p, hp, hc⟩
    obtain ⟨x, hx, hpx⟩ := (h.spans p c).mp hc
    refine ⟨p, ?_, List.contains_iff_mem.mpr hp⟩
    unfold Circuit.spans
    rw [show (s.circuit c).definition = some x from hx]
    exact hpx
  · rintro ⟨p, hpx, hp⟩
    refine ⟨p, List.contains_iff_mem.mp hp, (h.spans p c).mpr ?_⟩
    unfold Circuit.spans at hpx
    cases hx : (s.circuit c).definition with
    | none => rw [hx] at hpx; cases hpx
    | some x => rw [hx] at hpx; exact ⟨x, hx, hpx⟩

theorem State.definition_of_crossing (h : IndexesFor s s.definitions) {spans : List Nat} (hc : c ∈ s.crossingAny spans) :
    (s.circuit c).definition.isSome = true := by
  have hany := (State.mem_crossingAny h).mp hc
  unfold Circuit.spans at hany
  cases hx : (s.circuit c).definition with
  | none => rw [hx] at hany; cases hany
  | some x => rfl

/-- What every step of a live part keeps: the records agree, and the tables and indexes that they are read through are whole. -/
structure State.Regular (s : State) : Prop where
  linked : s.Linked {}
  canonical : s.Canonical
  indexed : s.indexed

theorem State.Regular.moves {p q : Bool} (h : s.Regular) (m : Moves p q s t) (ht : t.Linked {}) : t.Regular :=
  ⟨ht, m.keeps Move.canonical h.canonical, m.keeps Move.indexed h.indexed⟩

theorem State.Regular.crossing_nodup (h : s.Regular) (p : Nat) : (s.crossing p).Nodup :=
  (crossing_ascending h.indexed.1.ascending p).imp fun hlt => Nat.ne_of_lt hlt

/-! ## A window is pushed -/

theorem CircuitView.Ok.recross {a b a' b' m n : Nat} {x : CircuitView} (h : x.Ok a b m)
    (hn : x.record.holds + a' = n + b') : ({ x with crossed := n } : CircuitView).Ok a' b' m := { h with holds := hn }

theorem State.Regular.pushWindow (h : s.Regular) (hrun : s.phase = .running)
    (hid : w.id ∉ s.stack.map (·.id) ++ s.closures.map (·.windowId)) :
    State.Linked (.holding (s.crossingAny w.spans)) { s.reserve .summary with stack := w :: s.stack } := by
  have hlinked := h.linked
  refine ⟨fun c => ?_, hlinked.lanes, { hlinked.whole with ids := ?_, summaries := ?_, opened := .inr (beq_iff_eq.mpr hrun) }⟩
  · have hholds : (s.circuit c).holds + 0 = s.visible.windowsOver (s.circuit c).spans + 0 := (hlinked.views c).holds
    have hok := (hlinked.views c).recross (a' := if c ∈ s.crossingAny w.spans then 1 else 0) (b' := 0)
      (n := s.visible.windowsOver (s.circuit c).spans + if (s.circuit c).spans.any w.spans.contains then 1 else 0) (by
        simp only [State.mem_crossingAny h.indexed.1]
        show (s.circuit c).holds + _ = _
        omega)
    have hview : (State.visible { s.reserve .summary with stack := w :: s.stack }).view c =
        { s.visible.view c with
          crossed := s.visible.windowsOver (s.circuit c).spans +
            if (s.circuit c).spans.any w.spans.contains then 1 else 0 } := by
      have hcrossed : (State.visible { s.reserve .summary with stack := w :: s.stack }).windowsOver (s.circuit c).spans =
          s.visible.windowsOver (s.circuit c).spans + if (s.circuit c).spans.any w.spans.contains then 1 else 0 :=
        List.countP_cons ..
      rw [← hcrossed]
      rfl
    rw [hview]
    exact { hok with queue := hok.queue }
  · have hids := hlinked.whole.ids
    refine List.nodup_cons.mpr ⟨?_, hids⟩
    have hwindows : s.visible.windows.map (·.1) = s.stack.map (·.id) := List.map_map
    show w.id ∉ s.visible.windows.map (·.1) ++ s.visible.records
    rw [hwindows]
    exact hid
  · have hsum : s.visible.summaries = s.visible.windows.length + s.visible.records.length + 0 := hlinked.whole.summaries
    show s.visible.summaries + 1 = (s.visible.windows.length + 1) + s.visible.records.length + 0
    omega

theorem State.Regular.openWindow {id : Nat} (h : s.Regular) (hrun : s.phase = .running) (hfree : s.processor = .free)
    (hopen : s.openRefusal id = none) (duration : Nat) (spans : List Nat) : (s.openWindow id duration spans).Linked {} := by
  obtain ⟨-, hstack, hclosures, -⟩ := State.openRefusal_eq_none hopen
  have hpush := h.pushWindow (w := ⟨id, spans, duration, s.clock, [], false⟩) hrun (by
    intro hmem
    obtain hm | hm := List.mem_append.mp hmem
    · obtain ⟨x, hx, he⟩ := List.mem_map.mp hm
      exact hstack x hx he
    · obtain ⟨x, hx, he⟩ := List.mem_map.mp hm
      exact hclosures x hx he)
  refine State.Linked.windowOpened (hpush.addHolds (s.crossingAny_nodup spans) ?_ fun c hc => ?_)
  · exact congrArg Processor.slot hfree
  · exact State.definition_of_crossing (s := s) h.indexed.1 hc

/-! ## A window ends -/

theorem State.Regular.popWindow {rest : List Window} (h : s.Regular) (hs : s.stack = w :: rest) :
    State.Linked (.ending (s.crossingAny w.spans) []) { s with stack := rest } ∧
      w.id ∉ rest.map (·.id) ++ s.closures.map (·.windowId) := by
  have hlinked := h.linked
  have hwindows : s.visible.windows = (w.id, w.spans) :: rest.map fun w => (w.id, w.spans) := by
    show s.stack.map _ = _
    rw [hs]
    rfl
  have hids : (w.id :: (rest.map (·.id) ++ s.closures.map (·.windowId))).Nodup := by
    have := hlinked.whole.ids
    rw [hwindows, List.map_cons, List.map_map] at this
    exact this
  obtain ⟨hnot, hnd⟩ := List.nodup_cons.mp hids
  refine ⟨⟨fun c => ?_, hlinked.lanes, { hlinked.whole with ids := ?_, summaries := ?_, opened := .inr ?_ }⟩, hnot⟩
  · have hholds : (s.circuit c).holds + 0 = s.visible.windowsOver (s.circuit c).spans + 0 := (hlinked.views c).holds
    have hcrossed : s.visible.windowsOver (s.circuit c).spans =
        (State.visible { s with stack := rest }).windowsOver (s.circuit c).spans +
          if (s.circuit c).spans.any w.spans.contains then 1 else 0 := by
      unfold Visible.windowsOver
      rw [hwindows]
      exact List.countP_cons ..
    have hok := (hlinked.views c).recross (a' := 0) (b' := if c ∈ s.crossingAny w.spans then 1 else 0)
      (n := (State.visible { s with stack := rest }).windowsOver (s.circuit c).spans) (by
        simp only [State.mem_crossingAny h.indexed.1]
        rw [hcrossed] at hholds
        exact hholds)
    exact { hok with queue := hok.queue }
  · show ((rest.map fun w => (w.id, w.spans)).map (·.1) ++ s.closures.map (·.windowId)).Nodup
    rw [List.map_map]
    exact hnd
  · have hsum : s.visible.summaries = s.visible.windows.length + s.visible.records.length + 0 := hlinked.whole.summaries
    rw [hwindows, List.length_cons] at hsum
    show s.visible.summaries = (rest.map fun w => (w.id, w.spans)).length + s.visible.records.length + 1
    omega
  · refine hlinked.whole.opened.resolve_left fun hnil => ?_
    rw [hwindows] at hnil
    cases hnil

/-- What is owed while released circuits are queued. -/
def Slack.queueing (released : List Nat) : Slack where
  missing := fun x => if x ∈ released then 1 else 0

/-- The reservation of a window that has ended is returned or used. -/
theorem Visible.Linked.unspare {k : Visible} (h : k.Linked (.ending [] [])) : (k.unreserve .summary).Linked {} := by
  have hsum : k.summaries = k.windows.length + k.records.length + 1 := h.whole.summaries
  refine ⟨h.views, h.lanes, { h.whole with summaries := ?_ }⟩
  show k.summaries - 1 = k.windows.length + k.records.length + 0
  omega

/-- The reservation of a window that has ended passes to its closure record (R33, R38). -/
theorem Visible.Linked.addRecord {k : Visible} (h : k.Linked (.ending [] released)) (hn : n ∉ k.windows.map (·.1) ++ k.records) :
    ({ k with records := k.records ++ [n] } : Visible).Linked (.queueing released) := by
  have hsum : k.summaries = k.windows.length + k.records.length + 1 := h.whole.summaries
  refine ⟨h.views, h.lanes, { h.whole with ids := ?_, summaries := ?_ }⟩
  · show (k.windows.map (·.1) ++ (k.records ++ [n])).Nodup
    rw [← List.append_assoc]
    exact List.nodup_append.mpr ⟨h.whole.ids, List.nodup_singleton n, fun a ha b hb he => by
      rw [List.mem_singleton.mp hb] at he
      exact hn (he ▸ ha)⟩
  · show k.summaries = k.windows.length + (k.records ++ [n]).length + 0
    rw [List.length_append, List.length_singleton]
    omega

theorem State.visible_removeTag (s : State) (n : Nat) : (s.removeTag n).visible = s.visible := by
  have hqueue : (s.queue.map fun e => e.untag n).map QueueEntry.circuit = s.visible.queued := by
    refine List.map_map.trans (List.map_congr_left fun e _ => ?_)
    rw [Function.comp_apply]
    unfold QueueEntry.untag
    split <;> rfl
  have hstart : State.visible { s with queue := s.queue.map fun e => e.untag n } = s.visible :=
    congrArg (fun q => { s.visible with queued := q }) hqueue
  unfold State.removeTag
  generalize allLanes = ls
  refine (foldl_frame (g := State.visible) (fun u l => State.visible_modifyLane_same ?_) ls _).trans hstart
  unfold Lane.share
  refine congrArg (fun g => LaneShare.mk g _ _ _) ?_
  show ((u.lane l).grant.map _).map _ = _
  rw [Option.map_map]
  refine congrArg (fun f => (u.lane l).grant.map f) (funext fun g => ?_)
  rw [Function.comp_apply]
  unfold QueueEntry.untag
  split <;> rfl

theorem State.visible_summariseOldest {c : Closure} {rest : List Closure} (h : s.closures = c :: rest) :
    s.summariseOldest.visible = { s.visible with records := rest.map (·.windowId), summaries := s.visible.summaries - 1 } := by
  unfold State.summariseOldest
  rw [h]
  dsimp only
  rw [State.visible_removeTag]
  exact State.visible_queueReserved _ _ _

/-- Making room on the closure list takes nothing but its oldest record, with its reservation (R39). -/
theorem State.Linked.relieveClosures (h : s.Linked d) (cause : ReleaseCause) :
    (s.relieveClosures cause).Linked d ∧ (s.relieveClosures cause).visible.windows = s.visible.windows ∧
      (s.relieveClosures cause).visible.records.Sublist s.visible.records := by
  unfold State.relieveClosures
  split
  · next hc =>
    obtain ⟨x, rest, hx⟩ : ∃ x rest, s.closures = x :: rest :=
      List.exists_cons_of_length_pos (lt_of_lt_of_le (by decide) hc.2)
    have hrecords : s.visible.records = x.windowId :: rest.map (·.windowId) := by
      show s.closures.map _ = _
      rw [hx]
      rfl
    have hsub : (rest.map Closure.windowId).Sublist s.visible.records := by
      rw [hrecords]
      exact List.sublist_cons_self ..
    have hvisible := State.visible_summariseOldest hx
    refine ⟨?_, by rw [hvisible], by rw [hvisible]; exact hsub⟩
    show s.summariseOldest.visible.Linked d
    rw [hvisible]
    refine Visible.Linked.keep (k := s.visible) h (fun _ => rfl) h.lanes { h.whole with ids := ?_, summaries := ?_ }
    · exact h.whole.ids.sublist ((List.Sublist.refl _).append hsub)
    · have hsum : s.visible.summaries = s.visible.windows.length + s.visible.records.length + d.spare := h.whole.summaries
      rw [hrecords, List.length_cons] at hsum
      show s.visible.summaries - 1 = s.visible.windows.length + (rest.map (·.windowId)).length + d.spare
      omega
  · exact ⟨h, rfl, List.Sublist.refl _⟩

/-- A released circuit's entry takes its place in the queue (R31, R38). -/
theorem State.Linked.appendReleased (h : s.Linked (.queueing (c :: cs))) (hc : c ∉ cs) {e : QueueEntry} (he : e.circuit = c) :
    (s.appendEntry e).Linked (.queueing cs) := by
  subst he
  have hone : (Slack.queueing (e.circuit :: cs)).missing e.circuit = 1 := if_pos List.mem_cons_self
  have hzero : (Slack.queueing cs).missing e.circuit = 0 := if_neg hc
  have hqueue : s.visible.queued.count e.circuit + (Slack.queueing (e.circuit :: cs)).missing e.circuit =
      if (s.circuit e.circuit).state = .pending then 1 else 0 := (h.views e.circuit).queue
  rw [hone] at hqueue
  have hpending : (s.circuit e.circuit).state = .pending := by
    by_contra hp
    rw [if_neg hp] at hqueue
    omega
  rw [if_pos hpending] at hqueue
  have hholds : (s.circuit e.circuit).holds = 0 := (h.views e.circuit).holds_as.2 (.inr hpending)
  show (s.appendEntry e).visible.Linked _
  rw [State.visible_appendEntry]
  refine Visible.Linked.restand h (s.visible.queueFor_append _) (.inr (.inr hpending)) rfl rfl (.inr (.inr rfl))
    ⟨nofun, fun _ => hholds⟩ ?_ (h.not_waiting (by rw [hpending]; nofun)) (fun _ _ => rfl) (fun _ _ => rfl) (fun x hx => ?_) rfl
  · rw [Visible.count_append_self, hzero, if_pos rfl]
    omega
  · unfold Slack.queueing
    simp only [mem_cons_of_ne hx]

theorem State.Linked.appendAllReleased {e : State → Nat → QueueEntry} (he : ∀ u c, (e u c).circuit = c)
    (h : s.Linked (.queueing cs)) (hnd : cs.Nodup) : (cs.foldl (fun u c => u.appendEntry (e u c)) s).Linked {} := by
  induction cs generalizing s with
  | nil => exact h
  | cons c cs ih =>
    obtain ⟨hc, hnd⟩ := List.nodup_cons.mp hnd
    exact ih (h.appendReleased hc (he s c)) hnd

theorem State.Linked.endWindow (h : s.Linked (.ending (s.crossingAny w.spans) []))
    (hid : w.id ∉ s.stack.map (·.id) ++ s.closures.map (·.windowId))
    (hdef : ∀ c ∈ s.crossingAny w.spans, (s.circuit c).definition.isSome = true) (cause : ReleaseCause) :
    (s.endWindow w cause).1.Linked {} := by
  obtain ⟨hreleased, hsub⟩ := h.releaseAll cause (s.crossingAny_nodup w.spans) hdef
  obtain ⟨cir, hcir⟩ := State.releaseAll_eq cause (s.crossingAny w.spans) s
  rw [List.append_nil] at hreleased
  unfold State.endWindow
  dsimp only
  split
  · next hnil =>
    rw [hnil] at hreleased
    show (State.queueReserved _ _ _).visible.Linked {}
    rw [State.visible_queueReserved]
    exact Visible.Linked.unspare hreleased
  · obtain ⟨hrelieved, hwindows, hrecords⟩ := hreleased.relieveClosures cause
    refine State.Linked.appendAllReleased (fun _ _ => rfl) ?_ (hsub.nodup (s.crossingAny_nodup w.spans))
    refine (congrArg (fun k : Visible => k.Linked _) ?_).mpr (Visible.Linked.addRecord hrelieved (n := w.id) ?_)
    · exact congrArg (fun rs => { (State.relieveClosures _ cause).visible with records := rs }) (List.map_append ..)
    · intro hmem
      refine hid ?_
      rw [hwindows, hcir] at hmem
      rw [hcir] at hrecords
      have hids : s.visible.windows.map (·.1) = s.stack.map (·.id) := List.map_map
      obtain hm | hm := List.mem_append.mp hmem
      · exact List.mem_append.mpr (.inl (hids ▸ hm))
      · exact List.mem_append.mpr (.inr (hrecords.subset hm))

end

end Sys2Proof.Machine


/-! # The requests that wait for their commits keep the agreement -/

namespace Sys2Proof.Machine

namespace Visible

variable {k : Visible} {d : Slack} {c : Nat} {r : Circuit}

/-- No request waits for its commits. -/
def freed (k : Visible) : Visible := { k with slot := none }

theorem Linked.freed (h : k.Linked d) : k.freed.Linked d :=
  ⟨fun c => { h.views c with waiting := nofun }, h.lanes, { h.whole with }⟩

theorem conclude_freed (k : Visible) : k.conclude.freed = k.freed.conclude := by
  unfold Visible.conclude
  have he : k.freed.entries = k.entries := rfl
  rw [he]
  split <;> rfl

/-- A request waits for the commits of slot `c`, whose change is in progress (R12). -/
theorem Linked.wait (h : k.Linked d) (hslot : k.slot = none) (hrun : k.running = true)
    (hfree : (k.circuits c).state.changeRefusal = none) :
    ({ k.setRecord c { k.circuits c with changing := true } with slot := some c } : Visible).Linked d := by
  have hchanging : (k.setRecord c { k.circuits c with changing := true }).Linked d :=
    h.retouch rfl rfl rfl (.inr hrun) fun _ => rfl
  have hrecord : (k.setRecord c { k.circuits c with changing := true }).circuits c = { k.circuits c with changing := true } :=
    Function.update_self ..
  refine hchanging.change_same c (fun x hx => view_eq (hslot := ?_)) ?_ hchanging.lanes { hchanging.whole with }
  · show some c = some x ↔ k.slot = some x
    rw [hslot]
    exact ⟨fun he => absurd (Option.some.inj he).symm hx, nofun⟩
  · refine { hchanging.views c with waiting := fun _ => ?_ }
    show ((k.setRecord c _).circuits c).changing = true ∧ ((k.setRecord c _).circuits c).state.changeRefusal = none
    rw [hrecord]
    exact ⟨rfl, hfree⟩

/-- A circuit without work takes another definition, or none, with the holds that the open windows say (R16, R17). -/
theorem Linked.redefine (h : k.Linked {}) (hrun : k.running = true) (hslot : k.slot = none)
    (hfree : (k.circuits c).state.changeRefusal = none) (hdefined : r.definition.isSome = r.defined)
    (hholds : r.holds = k.windowsOver r.spans) (hfits : CircuitView.holdsAs r)
    (hstate : r.state = .idle ∨ r.state = .held ∨ r.state = .empty) : (k.setRecord c r).Linked {} := by
  have hok := h.views c
  have hfree' : (k.view c).record.state.changeRefusal = none := hfree
  have hout := hok.out (fun he => by rw [he] at hfree'; cases hfree') fun he => by rw [he] at hfree'; cases hfree'
  have hqueue : k.queued.count c + 0 = if (k.circuits c).state = .pending then 1 else 0 := hok.queue
  rw [if_neg fun he => by rw [he] at hfree; cases hfree] at hqueue
  refine h.change_same (k' := k.setRecord c r) c (fun x hx => view_eq (hrecord := Function.update_of_ne hx _ _)) ?_ h.lanes
    { h.whole with }
  rw [view_record (k' := k.setRecord c r) (r := r) (Function.update_self ..)]
  refine .of_out (.inr hrun) hdefined ?_ hfits ?_ ⟨hout.granted, hout.measured, hout.status, hout.commits⟩ ?_ ?_ fun hw => ?_
  · show r.holds + 0 = k.windowsOver r.spans + 0
    rw [hholds]
  · show k.queued.count c + 0 = if r.state = .pending then 1 else 0
    rw [if_neg fun he => by rw [he] at hstate; simp at hstate]
    exact hqueue
  · exact fun he => by rw [show r.state = _ from he] at hstate; simp at hstate
  · exact fun he => by rw [show r.state = _ from he] at hstate; simp at hstate
  · have hw' : k.slot = some c := beq_iff_eq.mp hw
    rw [hslot] at hw'
    cases hw'

end Visible

section
variable {s t u : State} {d : Slack} {c id : Nat} {l : LaneId}

/-! ## Replies -/

@[simp] theorem State.visible_placeReply (s : State) (r : Reply) : (s.placeReply r).visible = s.visible.freed := by
  unfold State.placeReply
  split <;> rfl

@[simp] theorem State.visible_answer (s : State) (tag code : U8) (status : Status) (body : ReplyBody) :
    (s.answer tag code status body).visible = s.visible.freed := State.visible_placeReply _ _

theorem State.Linked.answer (h : s.Linked d) (tag code : U8) (status : Status) (body : ReplyBody) :
    (s.answer tag code status body).Linked d := by
  show (s.answer tag code status body).visible.Linked d
  rw [State.visible_answer]
  exact Visible.Linked.freed h

/-- An answer, where the records agree once no request waits any more. -/
theorem State.Linked.answerFreed (h : s.visible.freed.Linked d) (tag code : U8) (status : Status) (body : ReplyBody) :
    (s.answer tag code status body).Linked d := by
  show (s.answer tag code status body).visible.Linked d
  rw [State.visible_answer]
  exact h

/-! ## The first commit -/

theorem State.visible_free (h : s.processor = .free) : s.visible.slot = none := congrArg Processor.slot h

theorem State.Linked.beginJob (h : s.Linked d) (hfree : s.processor = .free) (hrun : s.phase = .running)
    (hrefusal : (s.circuit id).state.changeRefusal = none) {job : Job} (hjob : ∀ tag, (Processor.committing tag job).slot = some id)
    (tag : U8) (op : StoreOp) : (s.beginJob id tag job op).Linked d := by
  unfold State.beginJob
  refine State.Linked.handCommit ?_ op
  have hvisible : State.visible { s.modifyCircuit id fun r => { r with changing := true } with
      processor := .committing tag job } =
      { s.visible.setRecord id { s.circuit id with changing := true } with slot := some id } := by
    rw [← hjob tag, ← State.visible_modifyCircuit s id fun r => { r with changing := true }]
    rfl
  exact (congrArg (fun k : Visible => k.Linked d) hvisible).mpr
    (Visible.Linked.wait h (State.visible_free hfree) (beq_iff_eq.mpr hrun) hrefusal)

/-! ## The conclusion -/

/-- The end of a change of a slot, as the blocks see it. -/
theorem State.visible_endChange (s : State) (id : Nat) :
    (s.endChange id).visible = s.visible.setRecord id { s.circuit id with changing := false } ∨
      ∃ res, (s.visible.view id).status = some .unprocessed ∧
        (s.endChange id).visible =
          ((s.visible.setRecord id { s.circuit id with changing := false }).setStatus id (.finished res)).conclude := by
  let u := s.modifyCircuit id fun r => { r with changing := false }
  have hu : u.visible = s.visible.setRecord id { s.circuit id with changing := false } := s.visible_modifyCircuit id _
  have hlast : (s.endChange id).visible = (u.reachUndefined id).visible := by
    unfold State.endChange
    dsimp only
    split
    · exact State.visible_lookAtCircuit _ _
    · rfl
  have hfinish : ∀ res, u.namedUnprocessed id = true → (s.visible.view id).status = some .unprocessed ∧
      (u.finishEntry id res).visible =
        ((s.visible.setRecord id { s.circuit id with changing := false }).setStatus id (.finished res)).conclude := by
    intro res hn
    refine ⟨State.status_of_unprocessed hn, ?_⟩
    rw [State.visible_finishEntry, hu]
  rw [hlast]
  unfold State.reachUndefined
  dsimp only
  split
  · next hc =>
    split
    · exact .inr ⟨_, hfinish _ hc.2.1⟩
    · split
      · exact .inr ⟨_, hfinish _ hc.2.1⟩
      · exact .inl hu
  · exact .inl hu

theorem State.Linked.endChange (h : (s.visible.freed.setRecord id { s.circuit id with changing := false }).Linked d) :
    (s.endChange id).visible.freed.Linked d := by
  obtain he | ⟨res, hs, he⟩ := s.visible_endChange id
  · rw [he]
    exact h
  · rw [he, Visible.conclude_freed]
    exact Visible.Linked.finish h hs

/-- The slot of the waiting request has no work, and the part runs (R12). -/
theorem State.Linked.waits (h : s.Linked d) (hslot : s.visible.slot = some id) :
    s.visible.running = true ∧ (s.circuit id).state.changeRefusal = none := by
  obtain ⟨hchanging, hrefusal⟩ := (h.views id).waiting (beq_iff_eq.mpr hslot)
  refine ⟨(h.views id).live.resolve_left fun he => ?_, hrefusal⟩
  rw [he] at hchanging
  cases hchanging

/-- A request ends with its slot as it was. -/
theorem State.Linked.endChange_same (h : s.Linked d) (hslot : s.visible.slot = some id) :
    (s.endChange id).visible.freed.Linked d := by
  obtain ⟨hrun, -⟩ := h.waits hslot
  exact State.Linked.endChange (Visible.Linked.retouch (Visible.Linked.freed h) rfl rfl rfl (.inr hrun) nofun)

theorem State.Linked.spendIf (h : s.Linked d) (uses : Bool) : (s.spendIf uses).Linked d := by
  unfold State.spendIf
  split
  · exact h.of_visible rfl
  · exact h

theorem State.visible_spendIf (s : State) (uses : Bool) : (s.spendIf uses).visible = s.visible := by
  unfold State.spendIf
  split <;> rfl

theorem State.visible_putDefinition (s : State) (id : Nat) (x : Definition) (kind : DefineKind) :
    (s.putDefinition id x kind).visible =
      s.visible.setRecord id ((s.circuit id).redefined x kind (s.windowsOver x.spans)) := by
  have hcircuit : (s.putDefinition id x kind).circuit =
      Function.update s.circuit id ((s.circuit id).redefined x kind (s.windowsOver x.spans)) := by
    funext c
    rw [s.putDefinition_circuit id x kind c]
    by_cases hc : c = id
    · subst hc
      rw [if_pos rfl, Function.update_self]
    · rw [if_neg hc, Function.update_of_ne hc]
  have hvisible : (s.putDefinition id x kind).visible =
      { s.visible with circuits := (s.putDefinition id x kind).circuit } := by
    obtain ⟨_, _, _, e⟩ := s.putDefinition_eq id x kind
    rw [e]
    rfl
  rw [hvisible, hcircuit]
  rfl

theorem State.visible_emptySlot (s : State) (id : Nat) : (s.emptySlot id).visible = s.visible.setRecord id {} := by
  have hcircuit : (s.emptySlot id).circuit = Function.update s.circuit id {} := by
    funext c
    rw [s.emptySlot_circuit id c]
    by_cases hc : c = id
    · subst hc
      rw [if_pos rfl, Function.update_self]
    · rw [if_neg hc, Function.update_of_ne hc]
  have hvisible : (s.emptySlot id).visible = { s.visible with circuits := (s.emptySlot id).circuit } := by
    obtain ⟨_, _, _, e⟩ := s.emptySlot_eq id
    rw [e]
    rfl
  rw [hvisible, hcircuit]
  rfl

/-- A slot has a new definition, and its change ends (R16). -/
theorem State.Linked.putDefinition (h : s.Linked {}) (hslot : s.visible.slot = some id) (x : Definition) (kind : DefineKind) :
    ((s.putDefinition id x kind).endChange id).visible.freed.Linked {} := by
  obtain ⟨hrun, hrefusal⟩ := h.waits hslot
  let r := (s.circuit id).redefined x kind (s.windowsOver x.spans)
  have hvisible := s.visible_putDefinition id x kind
  have hcircuit : (s.putDefinition id x kind).circuit id = r :=
    (congrFun (State.circuit_of_visible hvisible) id).trans (Function.update_self ..)
  refine State.Linked.endChange ?_
  rw [hcircuit, hvisible]
  have hfinal : (s.visible.setRecord id r).freed.setRecord id { r with changing := false } =
      s.visible.freed.setRecord id { r with changing := false } :=
    Visible.setRecord_setRecord s.visible.freed id r { r with changing := false }
  refine (congrArg (fun k : Visible => k.Linked {}) hfinal).mpr ?_
  refine Visible.Linked.redefine (Visible.Linked.freed h) hrun rfl hrefusal ?_ ?_ ⟨fun hs => ?_, fun hs => ?_⟩ ?_
  · show true = r.defined
    unfold Circuit.defined
    show true = _
    by_cases hz : s.windowsOver x.spans = 0 <;> simp [r, Circuit.redefined, hz]
  · exact (s.windowsOver_visible x.spans).symm
  · have hs' : (if s.windowsOver x.spans = 0 then CircuitState.idle else .held) = .held := hs
    show 1 ≤ s.windowsOver x.spans
    split at hs'
    · cases hs'
    · omega
  · have hs' : (if s.windowsOver x.spans = 0 then CircuitState.idle else .held) = .idle ∨
        (if s.windowsOver x.spans = 0 then CircuitState.idle else .held) = .pending := hs
    show s.windowsOver x.spans = 0
    split at hs'
    · assumption
    · exact hs'.elim nofun nofun
  · show (if s.windowsOver x.spans = 0 then CircuitState.idle else .held) = _ ∨
      (if s.windowsOver x.spans = 0 then CircuitState.idle else .held) = _ ∨ _
    split
    · exact .inl rfl
    · exact .inr (.inl rfl)

/-- A slot is emptied, and its change ends (R17). -/
theorem State.Linked.emptySlot (h : s.Linked {}) (hslot : s.visible.slot = some id) :
    ((s.emptySlot id).endChange id).visible.freed.Linked {} := by
  obtain ⟨hrun, hrefusal⟩ := h.waits hslot
  have hvisible := s.visible_emptySlot id
  have hcircuit : (s.emptySlot id).circuit id = {} :=
    (congrFun (State.circuit_of_visible hvisible) id).trans (Function.update_self ..)
  refine State.Linked.endChange ?_
  rw [hcircuit, hvisible]
  have hfinal : (s.visible.setRecord id {}).freed.setRecord id {} = s.visible.freed.setRecord id {} :=
    Visible.setRecord_setRecord s.visible.freed id {} {}
  refine (congrArg (fun k : Visible => k.Linked {}) hfinal).mpr ?_
  refine Visible.Linked.redefine (Visible.Linked.freed h) hrun rfl hrefusal rfl ?_ ⟨nofun, fun _ => rfl⟩ (.inr (.inr rfl))
  have hnone : s.visible.windowsOver [] = 0 := List.countP_eq_zero.mpr fun w _ => by simp
  exact hnone.symm

/-- The request goes on to its second commit (R15, R17). -/
theorem State.Linked.nextCommit (h : s.Linked d) (hslot : s.visible.slot = some id) {job : Job} {tag : U8}
    (hjob : (Processor.committing tag job).slot = some id) (op : StoreOp) :
    (State.handCommit { s with processor := .committing tag job } op .processor).Linked d := by
  refine State.Linked.handCommit (h.of_visible ?_) op
  have hsame : (Processor.committing tag job).slot = s.visible.slot := hjob.trans hslot.symm
  exact congrArg (fun slot => { s.visible with slot := slot }) hsame

theorem State.Linked.continueDefine (h : s.Linked {}) (hslot : s.visible.slot = some id) (tag : U8) (x : Definition)
    (kind : DefineKind) (clamped second success : Bool) : (s.continueDefine tag id x kind clamped second success).Linked {} := by
  unfold State.continueDefine
  split
  · exact h.nextCommit hslot rfl _
  · have hspent := h.spendIf (kind == .discarding)
    have hslot' : (s.spendIf (kind == .discarding)).visible.slot = some id := by rw [State.visible_spendIf]; exact hslot
    dsimp only
    split
    · split <;> exact State.Linked.answerFreed (hspent.putDefinition hslot' x kind) ..
    · exact State.Linked.answerFreed (hspent.endChange_same hslot') ..

theorem State.Linked.continueDelete (h : s.Linked {}) (hslot : s.visible.slot = some id) (tag : U8)
    (usesPermit second success : Bool) : (s.continueDelete tag id usesPermit second success).Linked {} := by
  unfold State.continueDelete
  split
  · exact h.nextCommit hslot rfl _
  · have hspent := h.spendIf usesPermit
    have hslot' : (s.spendIf usesPermit).visible.slot = some id := by rw [State.visible_spendIf]; exact hslot
    dsimp only
    split
    · exact State.Linked.answerFreed (hspent.emptySlot hslot') ..
    · exact State.Linked.answerFreed (hspent.endChange_same hslot') ..

theorem State.Linked.continueClear (h : s.Linked d) (hslot : s.visible.slot = some id) (tag : U8) (success : Bool) :
    (s.continueClear tag id success).Linked d := by
  have hspent : s.usePermit.Linked d := h.of_visible rfl
  unfold State.continueClear
  dsimp only
  split
  · refine State.Linked.answerFreed (State.Linked.endChange_same ?_ ?_) ..
    · obtain ⟨hrun, -⟩ := h.waits hslot
      show (State.modifyCircuit _ _ _).visible.Linked d
      rw [State.visible_modifyCircuit]
      exact Visible.Linked.retouch hspent rfl rfl rfl (.inr hrun) fun hs => ((h.views id).waiting (beq_iff_eq.mpr hs)).1
    · exact hslot
  · exact State.Linked.answerFreed (hspent.endChange_same hslot) ..

theorem State.Linked.finishProtect (h : s.Linked d) (tag : U8) (x : ProtectionRecord) (session success : Bool) :
    (s.finishProtect tag x session success).Linked d := by
  unfold State.finishProtect
  dsimp only
  split
  · refine State.Linked.answer ?_ _ _ _ _
    exact h.of_visible rfl
  · refine State.Linked.answer ?_ _ _ _ _
    exact h.of_visible rfl

theorem State.Linked.continueJob (h : s.Linked {}) (success : Bool) : (s.continueJob success).Linked {} := by
  unfold State.continueJob
  split
  · exact h
  · exact h
  · next tag job hp =>
    have hslot : s.visible.slot = (Processor.committing tag job).slot := congrArg Processor.slot hp
    split
    · exact h.continueDefine hslot ..
    · exact h.continueDelete hslot ..
    · exact h.continueClear hslot ..
    · exact h.finishProtect ..

end

end Sys2Proof.Machine


/-! # Requests keep the agreement -/

namespace Sys2Proof.Machine

section
variable {s t u : State} {d : Slack} {c : Nat} {l : LaneId}

/-! ## Windows -/

theorem State.Linked.tellIfEmptied (h : s.Linked d) : s.tellIfEmptied.Linked d := by
  unfold State.tellIfEmptied
  split
  · exact h.stackEmptied
  · exact h

/-- The top window comes off the stack and is closed. -/
theorem State.Regular.closeTop {w : Window} {rest : List Window} (h : s.Regular) (hs : s.stack = w :: rest)
    (cause : ReleaseCause) : (State.endWindow { s with stack := rest } w cause).1.Linked {} := by
  obtain ⟨hpopped, hid⟩ := h.popWindow hs
  exact State.Linked.endWindow (s := { s with stack := rest }) hpopped hid
    (fun c hc => State.definition_of_crossing (s := s) h.indexed.1 hc) cause

theorem State.Regular.expireTop (n : Nat) (h : s.Regular) : (State.expireTop n s).Regular := by
  induction n generalizing s with
  | zero => exact h
  | succ n ih =>
    unfold State.expireTop
    split
    · exact h
    · next w rest hs =>
      exact ih (h.moves (Moves.endWindow (Moves.popWindow (p := true) .nil hs) w .windowExpiry nofun)
        (h.closeTop hs .windowExpiry))

theorem State.Regular.expireWindows (h : s.Regular) : s.expireWindows.Linked {} := by
  unfold State.expireWindows
  split
  · exact (h.expireTop _).linked.tellIfEmptied
  · exact h.linked

/-- The state in which a handler's request is handled: a running part whose processor is free. -/
structure State.Handling (s : State) : Prop where
  regular : s.Regular
  running : s.phase = .running
  free : s.processor = .free

theorem State.Handling.linked (h : s.Handling) : s.Linked {} := h.regular.linked

theorem State.Handling.openWindow (h : s.Handling) (tag : U8) (f : OpenFields) : (s.handleOpenWindow tag f).Linked {} := by
  unfold State.handleOpenWindow
  split
  · exact h.linked.answer ..
  · split
    · exact h.linked.answer ..
    · next hopen => exact (h.regular.openWindow h.running h.free hopen _ _).answer ..

theorem State.Handling.extendWindow (h : s.Handling) (tag : U8) (f : ExtendFields) :
    (s.handleExtendWindow tag f).Linked {} := by
  unfold State.handleExtendWindow
  dsimp only
  split
  · exact h.linked.answer ..
  · split
    · exact h.linked.answer ..
    · refine State.Linked.answer (h.linked.of_visible ?_) _ _ _ _
      refine congrArg (fun ws => { s.visible with windows := ws }) ?_
      refine List.map_map.trans (List.map_congr_left fun w _ => ?_)
      rw [Function.comp_apply]
      split <;> rfl

theorem State.Handling.closeWindow (h : s.Handling) (tag : U8) (id : U16) : (s.handleCloseWindow tag id).Linked {} := by
  unfold State.handleCloseWindow
  split
  · exact h.linked.answer ..
  · next w rest hnamed =>
    split
    · exact h.linked.answer ..
    · exact (h.regular.closeTop (State.namedTop_ok hnamed).1 .windowClose).tellIfEmptied.answer ..

theorem State.Handling.abortWindow (h : s.Handling) (tag : U8) (id : U16) : (s.handleAbortWindow tag id).Linked {} := by
  unfold State.handleAbortWindow
  split
  · exact h.linked.answer ..
  · next w rest hnamed =>
    obtain ⟨hpopped, -⟩ := h.regular.popWindow (State.namedTop_ok hnamed).1
    have haborted := hpopped.abortAll (s.crossingAny_nodup w.spans) fun c hc =>
      State.definition_of_crossing (s := s) h.regular.indexed.1 hc
    have hreturned : ((State.abortAll (s.crossingAny w.spans) { s with stack := rest }).1.returnReservation .summary).Linked {} := by
      show (State.returnReservation _ _).visible.Linked {}
      rw [State.visible_returnReservation]
      exact Visible.Linked.unspare haborted
    exact hreturned.tellIfEmptied.answer ..

/-! ## Campaigns -/

theorem keepFirst_nodup (l : List Nat) : (keepFirst l).Nodup := by
  induction l with
  | nil => exact .nil
  | cons a l ih =>
    refine List.nodup_cons.mpr ⟨fun hm => ?_, ih.filter _⟩
    simpa using (List.mem_filter.mp hm).2

theorem State.unreferenced_nodup (h : tableWf {} s.circuits = true) : s.unreferenced.Nodup :=
  ((tableWf_keys h).imp fun hlt => Nat.ne_of_lt hlt).sublist (List.filter_sublist.map _)

theorem State.startRefusal_idle (h : s.startRefusal = none) : s.campaign.state = .idle := by
  unfold State.startRefusal at h
  by_contra hne
  rw [if_pos hne] at h
  cases h

theorem State.Handling.startCapture (h : s.Handling) (tag : U8) (f : StartFields) : (s.handleStartCapture tag f).Linked {} := by
  have hspent : s.usePermit.Linked {} := h.linked.of_visible rfl
  unfold State.handleStartCapture
  split
  · exact hspent.answer ..
  · next choice _ =>
    split
    · split
      · exact h.linked.answer ..
      · exact hspent.answer ..
    · next hrefusal =>
      have hids : ∀ ids : List Nat, ids.Nodup →
          State.Linked {} ((s.startCampaign ids).1.usePermit.answer tag 0x42 .accepted
            (.captureStarted ids.length (s.startCampaign ids).2
              ((s.startCampaign ids).1.campaign.entries.countP fun e => e.status.isFinished))) := fun ids hnd => by
        refine State.Linked.answer ?_ _ _ _ _
        exact (h.linked.startCampaign (State.startRefusal_idle hrefusal) hnd).of_visible rfl
      cases choice with
      | none => exact hids _ (State.unreferenced_nodup h.regular.canonical.circuits)
      | some named => exact hids _ (keepFirst_nodup named)

theorem State.Handling.suspendCapture (h : s.Handling) (tag : U8) : (s.handleSuspend tag).Linked {} := by
  unfold State.handleSuspend
  split
  · exact h.linked.answer ..
  · exact h.linked.suspend.answer ..

theorem State.Handling.resumeCapture (h : s.Handling) (tag : U8) : (s.handleResume tag).Linked {} := by
  unfold State.handleResume
  split
  · exact h.linked.answer ..
  · exact h.linked.resume.answer ..

theorem State.Handling.cancelCapture (h : s.Handling) (tag : U8) : (s.handleCancel tag).Linked {} := by
  unfold State.handleCancel
  split
  · exact h.linked.answer ..
  · exact h.linked.cancel.answer ..

/-! ## The circuit table -/

theorem State.defineRefusal_changes {id : Nat} {kind : DefineKind} (h : s.defineRefusal id kind = none) :
    (s.circuit id).state.changeRefusal = none := by
  unfold State.defineRefusal at h
  dsimp only at h
  split at h
  · cases h
  · assumption

theorem State.deleteRefusal_changes {id : Nat} (h : s.deleteRefusal id = none) :
    (s.circuit id).state.changeRefusal = none := by
  unfold State.deleteRefusal at h
  dsimp only at h
  split at h
  · cases h
  · split at h
    · cases h
    · split at h
      · cases h
      · assumption

theorem State.clearRefusal_changes {id : Nat} (h : s.clearRefusal id = none) :
    (s.circuit id).state.changeRefusal = none := by
  unfold State.clearRefusal at h
  dsimp only at h
  split at h
  · cases h
  · split at h
    · cases h
    · split at h
      · cases h
      · split at h
        · cases h
        · assumption

theorem State.Handling.defineCircuit (h : s.Handling) (tag : U8) (f : DefineFields) : (s.handleDefine tag f).Linked {} := by
  unfold State.handleDefine
  split
  · exact h.linked.answer ..
  · dsimp only
    split
    · exact (h.linked.spendIf _).answer ..
    · split
      · exact (h.linked.spendIf _).answer ..
      · next hrefusal => exact h.linked.beginJob h.free h.running (State.defineRefusal_changes hrefusal) (fun _ => rfl) ..

theorem State.Handling.deleteCircuit (h : s.Handling) (tag : U8) (id : U16) : (s.handleDelete tag id).Linked {} := by
  unfold State.handleDelete
  dsimp only
  split
  · exact (h.linked.spendIf _).answer ..
  · next hrefusal => exact h.linked.beginJob h.free h.running (State.deleteRefusal_changes hrefusal) (fun _ => rfl) ..

theorem State.Handling.clearBaseline (h : s.Handling) (tag : U8) (id : U16) : (s.handleClearBaseline tag id).Linked {} := by
  unfold State.handleClearBaseline
  dsimp only
  split
  · exact (h.linked.spendIf _).answer ..
  · next hrefusal =>
    split
    · refine State.Linked.answer ?_ _ _ _ _
      exact h.linked.of_visible rfl
    · exact h.linked.beginJob h.free h.running (State.clearRefusal_changes hrefusal) (fun _ => rfl) ..

theorem State.Handling.getCircuit (h : s.Handling) (tag : U8) (id : U16) : (s.handleGetCircuit tag id).Linked {} := by
  unfold State.handleGetCircuit
  split <;> exact h.linked.answer ..

theorem State.readRefusal_idle {id : Nat} (h : s.readRefusal id = none) :
    (s.circuit id).state ≠ .empty ∧ (s.circuit id).state ≠ .unreadable := by
  unfold State.readRefusal at h
  split at h
  · cases h
  · refine ⟨fun he => ?_, fun he => ?_⟩ <;> · rw [he] at h; cases h

theorem State.Handling.probeNow (h : s.Handling) (tag : U8) (id : U16) : (s.handleProbeNow tag id).Linked {} := by
  unfold State.handleProbeNow
  dsimp only
  split
  · exact h.linked.answer ..
  · next hrefusal =>
    obtain ⟨hempty, hunreadable⟩ := State.readRefusal_idle hrefusal
    have hslot : s.visible.slot ≠ some id.toNat := by
      rw [State.visible_free h.free]
      nofun
    split
    · exact h.linked.answer ..
    · exact h.linked.answer ..
    · exact h.linked.answer ..
    · exact h.linked.answer ..
    · next hidle => exact (h.linked.appendIdle (e := plainEntry id.toNat .request) hidle hslot).answer ..
    · next he => exact absurd he hempty
    · next he => exact absurd he hunreadable

/-! ## The lanes, the region, the sense lines -/

theorem State.Handling.setProfile (h : s.Handling) (tag : U8) (f : SetProfileFields) : (s.handleSetProfile tag f).Linked {} := by
  unfold State.handleSetProfile
  split
  · exact h.linked.answer ..
  · dsimp only
    split
    · next hp =>
      refine State.Linked.answer (h.linked.of_visible ?_) _ _ _ _
      have hpending : s.visible.pending = true := hp
      exact congrArg (fun p => { s.visible with pending := p }) hpending.symm
    · next hp =>
      split
      · exact (h.linked.applyNow _).answer ..
      · split
        · exact h.linked.answer ..
        · refine State.Linked.answer ?_ _ _ _ _
          have happlied : s.visible.profileApplied = if s.pendingProfile.isSome then 1 else 0 := h.linked.whole.profileApplied
          rw [if_neg hp] at happlied
          refine Visible.Linked.keep (k := s.visible) h.linked (fun _ => rfl) h.linked.lanes
            { h.linked.whole with profileApplied := ?_ }
          show s.visible.profileApplied + 1 = 1
          omega

theorem State.Handling.recalibrate (h : s.Handling) (tag : U8) (lane : U8) : (s.handleRecalibrate tag lane).Linked {} := by
  unfold State.handleRecalibrate
  split
  · exact h.linked.answer ..
  · exact (h.linked.recalibrate _).answer ..

theorem State.Handling.setProtection (h : s.Handling) (tag : U8) (f : ProtectFields) :
    (s.handleSetProtection tag f).Linked {} := by
  have hspent : s.usePermit.Linked {} := h.linked.of_visible rfl
  unfold State.handleSetProtection
  split
  · exact hspent.answer ..
  · split
    · exact h.linked.answer ..
    · split
      · exact h.linked.answer ..
      · refine State.Linked.handCommit (h.linked.of_visible ?_) _
        exact congrArg (fun slot => { s.visible with slot := slot }) (State.visible_free h.free).symm

theorem State.Handling.setSense (h : s.Handling) (tag : U8) (f : SetSenseFields) : (s.handleSetSense tag f).Linked {} := by
  unfold State.handleSetSense
  split
  · exact h.linked.answer ..
  · exact (h.linked.settleLine h.regular.crossing_nodup _ _).answer ..

theorem State.Regular.settleLine (h : s.Regular) (l : LineId) (r : SenseLine) : (s.settleLine l r).Regular :=
  h.moves (Moves.settleLine (p := true) .nil l r) (h.linked.settleLine h.crossing_nodup l r)

theorem State.Regular.foldl {β : Type} {f : State → β → State} (h : s.Regular)
    (hf : ∀ u x, State.Regular u → (f u x).Regular) (xs : List β) : (xs.foldl f s).Regular := by
  induction xs generalizing s with
  | nil => exact h
  | cons x xs ih => exact ih (hf s x h)

theorem State.Regular.clearLine (h : s.Regular) (l : LineId) : (s.clearLine l).Regular :=
  ⟨h.linked.of_visible rfl, { h.canonical with }, State.indexed_congr h.indexed rfl rfl rfl rfl rfl⟩

theorem State.Handling.clearSense (h : s.Handling) (tag : U8) (lines : List U8) : (s.handleClearSense tag lines).Linked {} := by
  unfold State.handleClearSense
  split
  · exact h.linked.answer ..
  · next named _ =>
    have hcleared := h.regular.foldl (fun _ l hu => hu.clearLine l) named
    have hlatched := hcleared.foldl (f := State.relatchLine) (fun u l hu => hu.settleLine l _) named
    exact hlatched.linked.answer ..

/-! ## Every request -/

theorem State.Handling.withPayload {α : Type} (h : s.Handling) (tag code : U8) (x : Payload α) {handle : α → State}
    (hhandle : ∀ f, (handle f).Linked {}) : (s.withPayload tag code x handle).Linked {} := by
  cases x with
  | short => exact h.linked.answer ..
  | fields f => exact hhandle f

theorem State.Handling.request (h : s.Handling) (tag : U8) (r : Request) : (s.handleRequest tag r).Linked {} := by
  cases r with
  | identify => exact h.linked.answer ..
  | setTime x =>
    exact h.withPayload _ _ _ fun v => State.Linked.answer (h.linked.of_visible (t := { s with clock := v.toNat }) rfl) ..
  | restart => exact State.Linked.answer (h.linked.of_visible (t := { s with restartTaken := true }) rfl) ..
  | setProfile x => exact h.withPayload _ _ _ (h.setProfile tag)
  | getProfile => exact h.linked.answer ..
  | getLanes => exact h.linked.answer ..
  | recalibrate x => exact h.withPayload _ _ _ (h.recalibrate tag)
  | defineCircuit x => exact h.withPayload _ _ _ (h.defineCircuit tag)
  | deleteCircuit x => exact h.withPayload _ _ _ (h.deleteCircuit tag)
  | clearBaseline x => exact h.withPayload _ _ _ (h.clearBaseline tag)
  | getCircuit x => exact h.withPayload _ _ _ (h.getCircuit tag)
  | probeNow x => exact h.withPayload _ _ _ (h.probeNow tag)
  | getQueue => exact h.linked.answer ..
  | openWindow x => exact h.withPayload _ _ _ (h.openWindow tag)
  | extendWindow x => exact h.withPayload _ _ _ (h.extendWindow tag)
  | closeWindow x => exact h.withPayload _ _ _ (h.closeWindow tag)
  | abortWindow x => exact h.withPayload _ _ _ (h.abortWindow tag)
  | getWindows => exact h.linked.answer ..
  | permit => exact State.Linked.answer (h.linked.of_visible (t := { s with permit := true }) rfl) ..
  | withdrawPermit => exact State.Linked.answer (h.linked.of_visible (t := s.usePermit) rfl) ..
  | startCapture x => exact h.withPayload _ _ _ (h.startCapture tag)
  | suspendCapture => exact h.suspendCapture tag
  | resumeCapture => exact h.resumeCapture tag
  | cancelCapture => exact h.cancelCapture tag
  | getCapture => exact h.linked.answer ..
  | setProtection x => exact h.withPayload _ _ _ (h.setProtection tag)
  | getProtection => exact h.linked.answer ..
  | setSense x => exact h.withPayload _ _ _ (h.setSense tag)
  | clearSense x => exact h.withPayload _ _ _ (h.clearSense tag)
  | getSense => exact h.linked.answer ..
  | unknown code => exact h.linked.answer ..

end

end Sys2Proof.Machine


/-! # Every step keeps the agreement -/

namespace Sys2Proof.Machine

section
variable {s t u : State} {d : Slack} {c : Nat} {l : LaneId}

/-! ## The end that every command shares -/

theorem State.Regular.arbitrate (h : s.Regular) : s.arbitrate.Regular :=
  h.moves (Moves.arbitrate (p := true) (q := true) .nil) h.linked.arbitrate

theorem State.Regular.withRequests (h : s.Regular) (qs : List QueuedRequest) : State.Regular { s with requestQueue := qs } :=
  ⟨h.linked.of_visible rfl, { h.canonical with }, State.indexed_congr h.indexed rfl rfl rfl rfl rfl⟩

theorem State.Regular.pump (n : Nat) (h : s.Regular) : (State.pump n s).Regular := by
  induction n generalizing s with
  | zero => exact h
  | succ n ih =>
    unfold State.pump
    split
    · next htakes =>
      split
      · exact h
      · next x rest _ =>
        have hconditions : (s.phase = .running ∧ s.processor = .free) ∧ s.restartTaken = false := by
          simpa [State.takesRequests] using htakes
        obtain ⟨⟨hrun, hfree⟩, -⟩ := hconditions
        have hhandling : State.Handling { s with requestQueue := rest } := ⟨h.withRequests rest, hrun, hfree⟩
        exact ih (hhandling.regular.moves (Moves.handleRequest (p := true) hhandling.running x.tag x.request)
          (hhandling.request x.tag x.request)).arbitrate
    · exact h

theorem State.visible_transmit (s : State) : s.transmit.visible = s.visible := by
  unfold State.transmit
  split
  · split
    · rfl
    · split <;> rfl
  · rfl

theorem State.Regular.settle (h : s.Regular) : s.settle.Regular :=
  h.moves (Moves.settle (p := true) .nil) ((h.arbitrate.pump _).linked.of_visible (State.visible_transmit _))

/-! ## Due steps -/

theorem State.visible_offerRequest (s : State) (x : QueuedRequest) : (s.offerRequest x).visible = s.visible := by
  unfold State.offerRequest
  split
  · rfl
  · split <;> rfl

theorem State.Regular.offerRequest (h : s.Regular) (x : QueuedRequest) : (s.offerRequest x).Regular :=
  h.moves (Moves.offerRequest (p := true) .nil x) (h.linked.of_visible (s.visible_offerRequest x))

theorem State.Regular.other (h : s.Regular) (htracked : t.tracked = s.tracked) (hvisible : t.visible = s.visible) : t.Regular :=
  h.moves (Moves.other (p := true) (q := true) .nil htracked) (h.linked.of_visible hvisible)

theorem State.Regular.judge (h : s.Regular) : s.judge.Regular := by
  unfold State.judge
  split
  · exact h
  · have hdiscarded : State.Regular { s with completeFrame := none } := h.other rfl rfl
    dsimp only
    split
    · exact (hdiscarded.offerRequest _).settle
    · exact hdiscarded

theorem State.Regular.expire (h : s.Regular) : s.expire.Regular := by
  unfold State.expire
  split
  · exact (h.moves (Moves.expireWindows (p := true) .nil) h.expireWindows).settle
  · exact h

theorem State.Regular.startRunIfDue (h : s.Regular) (l : LaneId) : (s.startRunIfDue l).Regular :=
  h.moves (Moves.startRunIfDue (p := true) (q := true) .nil l) (h.linked.startRunIfDue l)

theorem State.Regular.calibrate (h : s.Regular) (l : LaneId) : (s.calibrate l).Regular := by
  unfold State.calibrate
  split
  · exact (h.startRunIfDue l).settle
  · exact h

theorem State.restarted_blank (h : s.Canonical) (phase : Phase) (cause : RestartCause) : (s.restarted phase cause).Blank where
  circuits := rfl
  codeMap := rfl
  spanIndex := rfl
  stack := rfl
  closures := rfl
  queue := rfl
  lanes := fun l => by rw [State.restarted_lane]; exact ⟨rfl, rfl, rfl⟩
  campaign := rfl
  processor := rfl
  commits := rfl
  reserved := rfl
  pendingProfile := rfl
  defSlots := h.defSlots
  baseSlots := h.baseSlots

theorem State.regular_of_agreed (h : s.Agreed) : s.Regular :=
  ⟨State.linked_of_agreed h, (tablesCanonical_iff s).mp h.canonical,
    indexesFor_definitions.mpr ⟨h.codes, h.spans, h.ascending⟩, h.checked⟩

theorem State.Regular.agreed (h : s.Regular) : s.Agreed := State.agreed_of_linked h.canonical h.indexed h.linked

theorem State.Canonical.restarted (h : s.Canonical) (phase : Phase) (cause : RestartCause) :
    (s.restarted phase cause).Regular := State.regular_of_agreed (State.restarted_blank h phase cause).agreed

theorem State.Regular.beginRestart (h : s.Regular) : s.beginRestart.Regular := by
  unfold State.beginRestart
  split
  · exact h.canonical.restarted _ _
  · exact h

theorem State.Regular.takeDue (h : s.Regular) : s.takeDue.Regular := by
  unfold State.takeDue
  split
  · exact h.beginRestart
  · split
    · exact h.judge.expire.foldl (fun _ l hu => hu.calibrate l) allLanes
    · exact h

theorem State.Regular.whenAlive (h : s.Regular) {effect : State → State} (he : ∀ u, State.Regular u → (effect u).Regular) :
    (s.whenAlive effect).Regular := by
  unfold State.whenAlive
  dsimp only
  split
  · exact (he _ h.takeDue).settle
  · exact h.takeDue

/-! ## Frames sent -/

theorem State.Linked.placeWaiting (h : s.Linked d) : s.placeWaiting.Linked d := by
  unfold State.placeWaiting
  split
  · show (State.placeReply _ _).visible.Linked d
    rw [State.visible_placeReply]
    exact Visible.Linked.freed h
  · exact h
  · exact h

theorem State.Linked.endFrame (h : s.Linked d) : s.endFrame.Linked d := by
  unfold State.endFrame
  split
  · exact h
  · unfold State.endReplyPart
    split
    · exact h.of_visible rfl
    · split
      · exact h.of_visible rfl
      · exact State.Linked.placeWaiting (h.of_visible rfl)
  · exact h.of_visible (State.visible_lookAtWaiting _)

theorem State.Regular.endFrame (h : s.Regular) : s.endFrame.Regular := h.moves (Moves.endFrame .nil) h.linked.endFrame

/-! ## Slot writes -/

/-- A capture's commit concludes (R133). -/
theorem State.Linked.concludeCapture (h : s.Linked {}) {x : Commit} {rest : List Commit} (hcommits : s.commits = x :: rest)
    (hx : x.submitter = .capture c) (b : Baseline) (success : Bool) :
    (State.concludeCapture { s with commits := rest, writing := none } c b success).Linked {} := by
  let u : State := { s with commits := rest, writing := none }
  have hcommitters : committers s.commits = c :: committers rest := by
    rw [hcommits]
    unfold committers
    rw [List.filterMap_cons, hx]
  have hcommitting : s.visible.committing = s.visible.handOff ++ (c :: committers rest) :=
    congrArg (s.visible.handOff ++ ·) hcommitters
  have hs := Visible.Linked.status_committing h
    (by rw [hcommitting]; exact List.mem_append.mpr (.inr List.mem_cons_self) : c ∈ s.visible.committing)
  have hcount : ∀ y, ({ s.visible with handOff := s.visible.handOff, commits := rest } : Visible).committing.count y +
      (if y = c then 1 else 0) = s.visible.committing.count y := fun y => by
    rw [hcommitting]
    show (s.visible.handOff ++ committers rest).count y + _ = _
    rw [List.count_append, List.count_append, List.count_cons, Nat.add_assoc]
    by_cases hy : y = c
    · simp [hy]
    · rw [if_neg hy, if_neg (by simpa using Ne.symm hy)]
  have hsub : ∀ y ∈ rest, y ∈ s.commits := fun y hy => by
    rw [hcommits]
    exact List.mem_cons_of_mem _ hy
  have hunchanged : s.Handed u c s.visible.handOff rest (s.circuit c) :=
    ⟨(Visible.setRecord_same ({ s.visible with commits := rest } : Visible) c).symm, rfl, rfl⟩
  have hwritten : s.Handed (u.modifyCircuit c fun r => { r with baseline := some b }) c s.visible.handOff rest
      { s.circuit c with baseline := some b } := ⟨u.visible_modifyCircuit c _, rfl, rfl⟩
  unfold State.concludeCapture
  dsimp only
  refine State.Linked.handOnAll (State.Linked.of_visible (s := State.settleCommit _ c) ?_ (State.visible_lookIfBelow _ _))
  split
  · exact h.settleCommit hs hwritten hcount hsub _
  · exact h.settleCommit hs hunchanged hcount hsub _

theorem State.Linked.concludeCommit (h : s.Linked {}) (success : Bool) : (s.concludeCommit success).Linked {} := by
  unfold State.concludeCommit
  split
  · exact h.of_visible rfl
  · next x rest hcommits =>
    refine State.Linked.of_visible (s := State.report { s with commits := rest, writing := none } x success) ?_
      (State.visible_beginCommit _)
    unfold State.report
    split
    · next hx =>
      refine State.Linked.continueJob ?_ success
      refine Visible.Linked.recommit (k := s.visible) (ho := s.visible.handOff) h (fun y => ?_) fun y hy => ?_
      · have hcommitters : committers s.commits = committers rest := by
          rw [hcommits]
          unfold committers
          rw [List.filterMap_cons, hx]
        exact congrArg (fun cs => (s.visible.handOff ++ cs).count y) hcommitters.symm
      · exact h.whole.writes y (by
          show y ∈ s.commits
          rw [hcommits]
          exact List.mem_cons_of_mem _ hy)
    · next b hx _ => exact h.concludeCapture hcommits hx b success
    · next hx hnone =>
      obtain ⟨b, hb⟩ := h.whole.writes x (by
        show x ∈ s.commits
        rw [hcommits]
        exact List.mem_cons_self) _ hx
      rw [hb] at hnone
      cases hnone

theorem State.Linked.endWrite (h : s.Linked {}) (agrees erased : Bool) : (s.endWrite agrees erased).Linked {} := by
  have hslot : ∀ x ok, ((s.putSlot x).concludeCommit ok).Linked {} := fun x ok =>
    State.Linked.concludeCommit (h.of_visible (s.visible_putSlot x)) ok
  unfold State.endWrite
  split
  · split
    · split
      · exact hslot ..
      · exact h.of_visible rfl
    · split
      · exact hslot ..
      · exact h.of_visible rfl
    · split
      · exact hslot ..
      · exact h.of_visible rfl
    · exact hslot ..
  · exact h

theorem State.Regular.endWrite (h : s.Regular) (agrees erased : Bool) : (s.endWrite agrees erased).Regular :=
  h.moves (Moves.endWrite (p := true) .nil fun _ => rfl) (h.linked.endWrite agrees erased)

/-! ## The start-up scan -/

/-- A circuit record as the start-up scan loads it (R171, R172). -/
def Circuit.Loaded (r : Circuit) : Prop :=
  r.holds = 0 ∧ ((r.state = .idle ∧ r.definition.isSome = true) ∨ ((r.state = .empty ∨ r.state = .unreadable) ∧ r.definition = none))

/-- A table loaded into a part that held none. -/
theorem Visible.Linked.load {k : Visible} (h : k.Linked {}) (hrun : k.running = false) {f : Nat → Circuit}
    (hf : ∀ c, (f c).Loaded) : ({ k with running := true, circuits := f } : Visible).Linked {} := by
  have hempty : ∀ c, k.circuits c = {} := fun c => (h.views c).live.resolve_right fun hr => by
    rw [show k.running = true from hr] at hrun
    cases hrun
  have hclosed : k.windows = [] := h.whole.opened.resolve_right fun hr => by
    rw [hr] at hrun
    cases hrun
  refine ⟨fun c => ?_, h.lanes, { h.whole with opened := .inl hclosed }⟩
  have hok := h.views c
  have hstate : (k.view c).record.state = .empty := congrArg Circuit.state (hempty c)
  have hout := hok.out (by rw [hstate]; nofun) (by rw [hstate]; nofun)
  have hqueue : k.queued.count c + 0 = 0 := by
    have := hok.queue
    rw [hstate] at this
    exact this
  obtain ⟨hholds, hloaded⟩ := hf c
  have hworkless : (f c).state ≠ .probing ∧ (f c).state ≠ .capturing ∧ (f c).state ≠ .held ∧ (f c).state ≠ .pending := by
    obtain ⟨hs, -⟩ | ⟨hs | hs, -⟩ := hloaded <;> · rw [hs]; exact ⟨nofun, nofun, nofun, nofun⟩
  obtain ⟨hprobing, hcapturing, hheld, hpending⟩ := hworkless
  refine .of_out (.inr rfl) ?_ ?_ ⟨fun hs => absurd hs hheld, fun _ => hholds⟩ ?_
    ⟨hout.granted, hout.measured, hout.status, hout.commits⟩ hprobing hcapturing fun hw => ?_
  · show (f c).definition.isSome = (f c).defined
    unfold Circuit.defined
    obtain ⟨hs, hd⟩ | ⟨hs | hs, hd⟩ := hloaded <;> · rw [hs, hd]; rfl
  · show (f c).holds + 0 = k.windows.countP _ + 0
    rw [hholds, hclosed]
    rfl
  · show k.queued.count c + 0 = if (f c).state = .pending then 1 else 0
    rw [if_neg hpending, hqueue]
  · obtain ⟨hchanging, -⟩ := hok.waiting hw
    rw [show (k.view c).record = {} from hempty c] at hchanging
    cases hchanging

theorem State.scanStore_loaded (s : State) (c : Nat) : (s.scanStore.circuit c).Loaded := by
  rw [s.scanStore_circuit c]
  cases s.scannedDefinition c with
  | none =>
    dsimp only
    split
    · exact ⟨rfl, .inr ⟨.inr rfl, rfl⟩⟩
    · exact ⟨rfl, .inr ⟨.inl rfl, rfl⟩⟩
  | some x =>
    dsimp only
    split
    · exact ⟨rfl, .inr ⟨.inr rfl, rfl⟩⟩
    · exact ⟨rfl, .inl ⟨rfl, rfl⟩⟩

theorem State.visible_scanStore (s : State) : s.scanStore.visible = { s.visible with circuits := s.scanStore.circuit } := by
  obtain ⟨_, _, _, _, _, e⟩ := s.scanStore_eq
  rw [e]
  rfl

theorem State.visible_announce (s : State) : s.announce.visible = { s.visible with circuits := s.scanStore.circuit } := by
  unfold State.announce
  dsimp only
  rw [State.visible_transmit, State.visible_queueUnreserved, State.visible_scanStore]

theorem State.Regular.endScan (h : s.Regular) (hscan : s.phase = .scanning) : s.endScan.Regular := by
  have hrunning : s.visible.running = false := by
    show (s.phase == .running) = false
    rw [hscan]
    rfl
  have hscanned : Stages s s.scanStore := Stages.nil.next (.scan (by rw [hscan]; nofun))
  have hannounced : Stages s s.announce := hscanned.moves (Moves.nil.queueUnreserved _).transmit
  have hstages : Stages s { s.announce with phase := .running } := hannounced.next (.phase .running (.inl rfl))
  have hloaded : State.Linked {} { s.announce with phase := .running } := by
    have hvisible : State.visible { s.announce with phase := .running } =
        { s.visible with running := true, circuits := s.scanStore.circuit } :=
      congrArg (fun k : Visible => { k with running := true }) s.visible_announce
    exact (congrArg (fun k : Visible => k.Linked {}) hvisible).mpr
      (Visible.Linked.load h.linked hrunning s.scanStore_loaded)
  have hregular : State.Regular { s.announce with phase := .running } :=
    ⟨hloaded, hstages.keeps Stage.canonical h.canonical, hstages.keeps Stage.indexed h.indexed⟩
  unfold State.endScan
  exact (hregular.foldl (fun _ l hu => hu.startRunIfDue l) allLanes).settle

end

end Sys2Proof.Machine


/-! # The records agree after every step -/

namespace Sys2Proof.Machine

section
variable {s t u : State} {cmd : Instr}

/-! ## The events of a live part -/

theorem State.Regular.modifyLane (h : s.Regular) {l : LaneId} {f : Lane → Lane}
    (hsound : (s.lane l).sound = true → (f (s.lane l)).sound = true) (hlinked : (s.modifyLane l f).Linked {}) :
    (s.modifyLane l f).Regular := h.moves (Moves.modifyLane (p := true) (q := true) .nil l f hsound) hlinked

theorem State.Regular.senseInput (h : s.Regular) (l : LineId) (high : Bool) : (s.senseInput l high).Regular :=
  h.moves (Moves.senseInput (p := true) .nil l high) (h.linked.senseInput h.crossing_nodup l high)

/-- What every command other than those of power, RESET and start-up keeps. -/
theorem State.Regular.event (h : s.Regular) (hcmd : isPartCommand cmd = false) (hexec : exec cmd s = .next t) : t.Regular := by
  have halive : ∀ {effect : State → State}, (∀ u, State.Regular u → (effect u).Regular) →
      (.next (s.whenAlive effect) : Host.Outcome State Fault Refusal) = .next t → t.Regular :=
    fun he e => Host.Outcome.next.inj e ▸ h.whenAlive he
  cases hq : asRequest cmd with
  | some x =>
    rw [exec_of_asRequest hq] at hexec
    exact halive (fun _ hu => hu.offerRequest x) hexec
  | none =>
    cases cmd with
    | frameReceived =>
      refine Host.Outcome.next.inj hexec ▸ ?_
      split
      · exact h.judge
      · exact h
    | framingError => exact halive (effect := fun u => { u with receiver := .hunting }) (fun _ hu => hu.other rfl rfl) hexec
    | receiveGapTimeout =>
      exact halive (effect := fun u => { u with receiver := .hunting }) (fun _ hu => hu.other rfl rfl) hexec
    | frameSent => exact halive (fun _ hu => hu.endFrame) hexec
    | secondsTick => exact halive (fun _ hu => hu.moves (Moves.tick (p := true) .nil) hu.linked.tick) hexec
    | windowExpiry =>
      refine Host.Outcome.next.inj hexec ▸ ?_
      split
      · exact h.expire
      · exact h
    | calibrationDue lane => exact Host.Outcome.next.inj hexec ▸ h.calibrate lane
    | settled lane =>
      exact halive (effect := fun u => u.modifyLane lane Lane.settle)
        (fun _ hu => hu.modifyLane Lane.settle_sound (hu.linked.settleLane lane)) hexec
    | sample lane x =>
      exact halive (effect := fun u => u.modifyLane lane fun r => r.takeSample u.profile.floor x)
        (fun _ hu => hu.modifyLane (fun hl => Lane.takeSample_sound hl _ x) (hu.linked.takeSample lane _ x)) hexec
    | burstResult lane =>
      exact halive (fun _ hu => hu.moves (Moves.reduceHanded (p := true) (q := true) .nil lane) (hu.linked.reduceHanded lane)) hexec
    | tuneTimeout lane =>
      exact halive (fun _ hu => hu.moves (Moves.tuneTimeout (p := true) (q := true) .nil lane) (hu.linked.tuneTimeout lane)) hexec
    | burstGapTimeout lane =>
      exact halive (fun _ hu =>
        hu.moves (Moves.burstGapTimeout (p := true) (q := true) .nil lane) (hu.linked.burstGapTimeout lane)) hexec
    | parkEnd lane =>
      exact halive (fun _ hu => hu.moves (Moves.parkEnd (p := true) (q := true) .nil lane) (hu.linked.parkEnd lane)) hexec
    | senseInputTransition line high =>
      refine Host.Outcome.next.inj hexec ▸ ?_
      have hdue := h.takeDue
      generalize s.takeDue = u at hdue
      split
      · exact hdue.moves (Moves.nil.move (p := true) (q := true) (.line line _ id)) (hdue.linked.of_visible rfl)
      · exact (hdue.senseInput line high).settle
    | refLockChange asserted =>
      refine Host.Outcome.next.inj hexec ▸ ?_
      have hdue := h.takeDue
      generalize s.takeDue = u at hdue
      exact hdue.other rfl rfl
    | storeWriteDone agrees erased => exact halive (fun _ hu => hu.endWrite agrees erased) hexec
    | byteReceived byte => exact halive (effect := fun u => u.receiveByte byte) (fun _ hu => hu.other rfl rfl) hexec
    | rateStrapChange high =>
      refine Host.Outcome.next.inj hexec ▸ ?_
      have hdue := h.takeDue
      generalize s.takeDue = u at hdue
      exact hdue.other rfl rfl
    | powerOn => cases hcmd
    | powerFail erased => cases hcmd
    | resetAsserted erased => cases hcmd
    | resetReleased => cases hcmd
    | startUpScanDone => cases hcmd
    | restartBegins => cases hcmd
    | _ => cases hq

/-! ## Power, RESET and start-up -/

theorem State.Canonical.cutWrite (h : s.Canonical) (erased : Bool) : (s.cutWrite erased).Canonical :=
  (Moves.cutWrite (p := true) (q := true) .nil erased).keeps Move.canonical h

theorem State.Regular.part (h : s.Regular) (hcmd : isPartCommand cmd = true) (hexec : exec cmd s = .next t) : t.Regular := by
  cases cmd with
  | powerOn =>
    cases hexec
    exact h.canonical.restarted _ _
  | powerFail erased =>
    cases hexec
    exact (h.canonical.cutWrite erased).restarted _ _
  | resetAsserted erased =>
    cases hexec
    split
    · exact h
    · split
      · exact h.other rfl rfl
      · exact ((h.canonical.cutWrite erased).restarted .held .line).other rfl rfl
  | resetReleased =>
    cases hexec
    split
    · next hheld =>
      have hphase : Stage s { s with phase := .scanning } := .phase .scanning (.inr (by rw [hheld]; nofun))
      have hrunning : (s.phase == .running) = false := by rw [hheld]; rfl
      have hvisible : State.visible { s with phase := .scanning } = s.visible :=
        congrArg (fun running => { s.visible with running := running }) hrunning.symm
      have hscanning : State.Regular { s with phase := .scanning } :=
        ⟨h.linked.of_visible hvisible, hphase.canonical h.canonical, hphase.indexed h.indexed⟩
      exact hscanning.other rfl rfl
    · exact h.other rfl rfl
  | startUpScanDone =>
    cases hexec
    split
    · next hscan =>
      have hdue := Moves.takeDue (p := true) (s := s) (by simp [State.restartDue, hscan])
      exact h.takeDue.endScan (hdue.phase_eq.trans hscan)
    · exact h
  | restartBegins =>
    cases hexec
    exact h.beginRestart
  | _ => cases hcmd

theorem State.Regular.step (h : s.Regular) (hstep : Machine.step s = .next t) : t.Regular := by
  unfold Machine.step at hstep
  split at hstep
  · cases hstep
    exact h
  · next cmd rest _ =>
    have hpopped : State.Regular { s with pending := rest } := h.other rfl rfl
    by_cases hcmd : isPartCommand cmd = true
    · exact hpopped.part hcmd hstep
    · exact hpopped.event (Bool.eq_false_iff.mpr hcmd) hstep

end

end Sys2Proof.Machine

namespace Sys2Proof.Proofs
open Sys2Proof.Machine

/-- Settles O60: what the records of a running part say of each circuit, each lane and each list is kept by every operation
(`State.Linked`), and with it the agreement. -/
theorem recordsAgreeKept : Obligations.RecordsAgreeKept := fun _ _ hs hstep =>
  ((State.regular_of_agreed hs).step hstep).agreed

/-- Settles O54: the entries that a step takes are FREE ones, and the owners of the reservations are part of the agreement of
the records (`recordsAgreeKept`). -/
theorem noticesFitKept : Obligations.NoticesFitKept :=
  ⟨fun _ _ hs hstep => decide_eq_true (step_keeps Stage.noticesFit hstep (of_decide_eq_true hs)),
    fun s t hs hstep => (recordsAgreeKept s t hs hstep).reservations⟩

end Sys2Proof.Proofs
